-- ==== Sys2Proof/Word.lean ====
section
/-!
DEFINITION. The words the manual treats as bits: a byte of a frame, and the sixteen-bit register and field of a
CRC. Angles, lengths, counts and times are no words: the manual computes with them exactly (00_scope.md,
Arithmetic), so they are Int and Nat throughout.
-/

namespace Sys2Proof

/-- One byte of a frame (R170). -/
abbrev Byte := BitVec 8

/-- Sixteen bits: the CRC register, its polynomial and its initial value (R119). -/
abbrev Word16 := BitVec 16

/-- A set of factors as a frame carries it, bit i for the factor of bit i (R171). -/
abbrev FactorSet := BitVec 32

end Sys2Proof
end

