-- ==== Sys2Proof/Config.lean ====
section
/-!
DEFINITION. What is fixed for the part: the constants of the manual, its default tables, and the values that
are free.
-/

namespace Sys2Proof.Config

/-- The end of the range of a joint angle, in 0.01 degree (00_scope.md, Units). -/
def angleLimit : Int := 18000

/-- The end of the range of every margin, in mm (R56, R64). -/
def marginLimit : Int := 2047

/-- The margin of a set that cannot support, in mm (R62, R65, R66). -/
def noMargin : Int := -2047

/-- The longest upstream frame the part accepts, in bytes (R172). -/
def longestFrame : Nat := 474

/-- The body of a cycle frame, in bytes (R172). -/
def cycleBodyLength : Nat := 88

/-- Replies that may wait in the upstream reply queue (R155). -/
def replyQueueRoom : Nat := 2

/-- Records the hold stack may hold (R96). -/
def holdStackRoom : Nat := 4

/-- CRC polynomial and initial value of the upstream link (R148). -/
def upstreamPolynomial : Word16 := 0x1021#16
def upstreamInitial : Word16 := 0xFFFF#16

/-- Defaults of the lift profile LP[1] to LP[15] (R92). -/
def defaultLiftProfile : Vector Nat 15 :=
  #v[200, 400, 600, 760, 880, 960, 1010, 1024, 1010, 960, 880, 760, 600, 400, 200]

/-- Identification (R159): vendor code, part code, silicon revision. -/
def vendorCode : Nat := 0x0D6C
def partCode : Nat := 0x0C12
def siliconRevision : Nat := 3

/-- FREE VALUE (log 10). What a reply echoes for the kind or the tag of a request whose body is too short to hold
it: R156 says that every reply echoes them and no rule says what then. Its argument counts the uses. -/
opaque missingEcho : Nat → Byte

/-- FREE VALUE (log 30). The bit time that a link is sending when DISARM cuts its frame: bit times are not counted.
Its argument counts the uses. -/
opaque cutBit : Nat → Nat

end Sys2Proof.Config
end

