-- ==== Sys2Proof/Machine/Arith.lean ====
section
/-!
DEFINITION. The arithmetic of 00_scope.md (clamps, saturating counts, the three roundings, the integer square root)
and the byte order of R170.
-/

namespace Sys2Proof.Machine

/-- A value clamped to a range (00_scope.md, Arithmetic). -/
def clampInt (lo hi x : Int) : Int := if x < lo then lo else if hi < x then hi else x

def clampNat (lo hi x : Nat) : Nat := if x < lo then lo else if hi < x then hi else x

/-- A value clamped to the same bound on either side of 0. -/
def clampAbs (bound x : Int) : Int := clampInt (-bound) bound x

/-- A count that stops at `cap`. -/
def countUp (cap n : Nat) : Nat := min (n + 1) cap

/-- A counter named saturating stops at 255 (00_scope.md, Arithmetic). -/
def saturate (n : Nat) : Nat := countUp 255 n

/-- Quotient rounded half away from zero (00_scope.md, Arithmetic). -/
def roundHalfAway (n : Int) (d : Nat) : Int :=
  if 0 ≤ n then (2 * n + d) / (2 * d) else -((2 * (-n) + d) / (2 * d))

/-- The bits `2^(k-1)` down to 1 of the square root of `n`, each added to `root` while its square stays within `n`. -/
def sqrtBits (n : Nat) : Nat → Nat → Nat
  | 0, root => root
  | k + 1, root => sqrtBits n k (if (root + 2 ^ k) * (root + 2 ^ k) ≤ n then root + 2 ^ k else root)

/-- The integer square root: the floor of the exact square root (00_scope.md, Arithmetic). -/
def isqrt (n : Nat) : Nat := sqrtBits n (n.log2 / 2 + 1) 0

/-! ## Bytes (R170) -/

/-- A field of two bytes, least significant byte first. -/
def bytes16 (x : Nat) : List Byte := [BitVec.ofNat 8 x, BitVec.ofNat 8 (x / 256)]

/-- A signed field of two bytes, two's complement. -/
def bytes16s (x : Int) : List Byte := bytes16 (x % 65536).toNat

def byte1 (x : Nat) : List Byte := [BitVec.ofNat 8 x]

/-- A one-byte flag as the part sends it. -/
def flagByte (b : Bool) : List Byte := [if b then 1#8 else 0#8]

/-- A field of four bytes, least significant byte first. -/
def bytes32 (x : BitVec 32) : List Byte :=
  [x.extractLsb' 0 8, x.extractLsb' 8 8, x.extractLsb' 16 8, x.extractLsb' 24 8]

/-- The byte at an offset; the layouts never read past the end of what a rule has measured. -/
def byteAt (bs : List Byte) (off : Nat) : Byte := bs.getD off 0#8

def u8 (bs : List Byte) (off : Nat) : Nat := (byteAt bs off).toNat

def u16 (bs : List Byte) (off : Nat) : Nat := u8 bs off + 256 * u8 bs (off + 1)

def s16 (bs : List Byte) (off : Nat) : Int :=
  if u16 bs off < 32768 then (u16 bs off : Int) else (u16 bs off : Int) - 65536

def set32 (bs : List Byte) (off : Nat) : BitVec 32 :=
  byteAt bs (off + 3) ++ byteAt bs (off + 2) ++ byteAt bs (off + 1) ++ byteAt bs off

/-- A received flag: set when its byte is not 0. -/
def flagAt (bs : List Byte) (off : Nat) : Bool := byteAt bs off != 0#8

end Sys2Proof.Machine
end

