-- ==== Sys2Proof/Syntax.lean ====
section
/-!
DEFINITION. The commands of the GL-12: one constructor of `Instr` for each row of spec/opcode_table.json, with the
operands the row's rule gives it. No row has bits. Frames and requests carry the bytes that were received, in the
layouts of chapter 11; the ends of a reply slot and dropped frames carry the line as a receiver looks at it, one sample
in every sample period, and a read-back carries the three samples of its bit time (R118, R124, R148).
-/

namespace Sys2Proof

/-- The four legs, in leg order 0..3; limb link k serves leg k (00_scope.md, Legs, joints and nodes). -/
inductive Leg where
  | fl | fr | rr | rl
deriving DecidableEq, Repr

/-- Three samples of the line, true for high: samples 3, 5, 7 of a start bit or 8, 9, 10 of another bit (R118). A line
is a list of such samples, one for each sample period. -/
structure Sample3 where
  a : Bool
  b : Bool
  c : Bool
deriving DecidableEq, Repr

/-- The three causes of a power-up-class reset (R164). -/
inductive PowerCause where
  | powerUp | logicBrownout | resetPin
deriving DecidableEq, Repr

/-- The commands. `tag` is the request tag; `rest` holds the bytes of a request's body after its tag, or, for a
control request, after its action (R175). -/
inductive Instr where
  /-- POWER_ON (R164). -/
  | powerOn
  /-- RESET_PIN, the assertion of the pin (R164). -/
  | resetPin
  /-- LOGIC_BROWNOUT (R145). -/
  | logicBrownout
  /-- RESET_END: the last cause of the reset in progress ends, and it is `last` (R164). -/
  | resetEnd (last : PowerCause)
  /-- CYCLE_FRAME: a cycle frame received whole, with its body (R151, R173). -/
  | cycleFrame (body : List Byte)
  /-- FRAME_DROPPED: a received frame that fails a check of R149. `run` is the line from the sample before the frame
  to the end of its closing gap (R148). -/
  | frameDropped (run : List Bool)
  /-- MALFORMED_REQUEST: a management body whose request kind or control action is unknown (R156, R159). -/
  | malformedRequest (body : List Byte)
  /-- TABLE_WRITE (R157). -/
  | tableWrite (tag : Byte) (rest : List Byte)
  /-- TABLE_READ (R158). -/
  | tableRead (tag : Byte) (rest : List Byte)
  /-- READ_STATE (R161). -/
  | readState (tag : Byte) (rest : List Byte)
  /-- ARM (R98). -/
  | arm (tag : Byte) (rest : List Byte)
  /-- DISARM (R99). -/
  | disarm (tag : Byte) (rest : List Byte)
  /-- HOLD (R107). -/
  | hold (tag : Byte) (rest : List Byte)
  /-- RESUME (R109). -/
  | resume (tag : Byte) (rest : List Byte)
  /-- SIT (R100). -/
  | sit (tag : Byte) (rest : List Byte)
  /-- RESTART (R160). -/
  | restart (tag : Byte) (rest : List Byte)
  /-- CLEAR_FACTORS (R165). -/
  | clearFactors (tag : Byte) (rest : List Byte)
  /-- CLEAR_FAULTS (R140, R159). -/
  | clearFaults (tag : Byte) (rest : List Byte)
  /-- IDENT (R159). -/
  | ident (tag : Byte) (rest : List Byte)
  /-- RESTART_RESET (R160). -/
  | restartReset
  /-- TRANSMIT_COMPLETE (R155). -/
  | transmitComplete
  /-- SILENCE_EXPIRY (R152). -/
  | silenceExpiry
  /-- LOCAL_CYCLE (R153). -/
  | localCycle
  /-- PREAMBLE_END (R120). -/
  | preambleEnd (link : Leg)
  /-- BREAK_END (R123). -/
  | breakEnd (link : Leg)
  /-- COMMAND_FRAME_END (R123). -/
  | commandFrameEnd (link : Leg)
  /-- ECHO_MISMATCH: what samples 8, 9, 10 of bit time `bitTime` of break and frame read back (R124). Bit times count
  from 0 at the start of the break; the frame starts at 14. -/
  | echoMismatch (link : Leg) (bitTime : Nat) (readBack : Sample3)
  /-- FRAME_ABANDONED (R124, R125). -/
  | frameAbandoned (link : Leg)
  /-- REPLY_WINDOW_EXPIRY: the window ended and no reply began. `heard` is the line in each sample period from the
  slot's opening to its end (R118, R126), as in the two commands that follow. -/
  | replyWindowExpiry (link : Leg) (heard : List Bool)
  /-- SHORT_REPLY: the 4 bit times after a stop bit ran out (R126). -/
  | shortReply (link : Leg) (heard : List Bool)
  /-- REPLY_COMPLETE: the reply has its expected number of characters (R126, R127). -/
  | replyComplete (link : Leg) (heard : List Bool)
deriving DecidableEq, Repr

end Sys2Proof
end

