-- ==== Sys2Proof/Machine/Blocks.lean ====
section
/-!
DEFINITION. The state of the ten blocks as the manual lays it out (00_scope.md, Block overview), and the small
containers it uses: one value for each leg, each joint of a leg, each slot of a link.
-/

namespace Sys2Proof

/-- The legs in leg order, the order in which they are judged. -/
def Leg.all : List Leg := [.fl, .fr, .rr, .rl]

def Leg.number : Leg → Nat
  | .fl => 0 | .fr => 1 | .rr => 2 | .rl => 3

end Sys2Proof

namespace Sys2Proof.Machine

/-! ## Legs, joints, slots and nodes (00_scope.md) -/

/-- The three joints of a leg, index 0..2. -/
inductive JointIx where
  | ha | hf | kn
deriving DecidableEq, Repr

/-- The four slots of a limb link: the three drives and the foot node (R126). -/
inductive Slot where
  | ha | hf | kn | foot
deriving DecidableEq, Repr

/-- Joint j = 3 × leg + index. -/
structure Joint where
  leg : Leg
  ix  : JointIx
deriving DecidableEq, Repr

/-- Node n = 4 × leg + slot. -/
structure Node where
  leg  : Leg
  slot : Slot
deriving DecidableEq, Repr

/-- One value for each leg. -/
structure PerLeg (α : Type) where
  fl : α
  fr : α
  rr : α
  rl : α
deriving DecidableEq, Repr

/-- One value for each joint of a leg. -/
structure PerJoint (α : Type) where
  ha : α
  hf : α
  kn : α
deriving DecidableEq, Repr

/-- One value for each slot of a link. -/
structure PerSlot (α : Type) where
  ha   : α
  hf   : α
  kn   : α
  foot : α
deriving DecidableEq, Repr

def JointIx.all : List JointIx := [.ha, .hf, .kn]

def Slot.all : List Slot := [.ha, .hf, .kn, .foot]

def JointIx.number : JointIx → Nat
  | .ha => 0 | .hf => 1 | .kn => 2

def Slot.number : Slot → Nat
  | .ha => 0 | .hf => 1 | .kn => 2 | .foot => 3

def Joint.number (j : Joint) : Nat := 3 * j.leg.number + j.ix.number

def Node.number (n : Node) : Nat := 4 * n.leg.number + n.slot.number

/-- The slot of a joint's drive. -/
def JointIx.slot : JointIx → Slot
  | .ha => .ha | .hf => .hf | .kn => .kn

/-- The joint whose drive answers in a slot; none for the foot node. -/
def Slot.joint : Slot → Option JointIx
  | .ha => some .ha | .hf => some .hf | .kn => some .kn | .foot => none

/-- The joints in the order of joint numbers. -/
def Joint.all : List Joint := Leg.all.flatMap fun l => JointIx.all.map fun i => ⟨l, i⟩

/-- The nodes in the order of node numbers. -/
def Node.all : List Node := Leg.all.flatMap fun l => Slot.all.map fun s => ⟨l, s⟩

namespace PerLeg
variable {α β : Type}

def get (p : PerLeg α) : Leg → α
  | .fl => p.fl | .fr => p.fr | .rr => p.rr | .rl => p.rl

def ofFn (f : Leg → α) : PerLeg α := ⟨f .fl, f .fr, f .rr, f .rl⟩

def set (p : PerLeg α) (l : Leg) (x : α) : PerLeg α :=
  match l with
  | .fl => { p with fl := x } | .fr => { p with fr := x }
  | .rr => { p with rr := x } | .rl => { p with rl := x }

def modify (p : PerLeg α) (l : Leg) (f : α → α) : PerLeg α := p.set l (f (p.get l))

def replicate (x : α) : PerLeg α := ⟨x, x, x, x⟩

def map (f : α → β) (p : PerLeg α) : PerLeg β := ⟨f p.fl, f p.fr, f p.rr, f p.rl⟩

def toList (p : PerLeg α) : List α := [p.fl, p.fr, p.rr, p.rl]

end PerLeg

namespace PerJoint
variable {α β : Type}

def get (p : PerJoint α) : JointIx → α
  | .ha => p.ha | .hf => p.hf | .kn => p.kn

def ofFn (f : JointIx → α) : PerJoint α := ⟨f .ha, f .hf, f .kn⟩

def set (p : PerJoint α) (i : JointIx) (x : α) : PerJoint α :=
  match i with
  | .ha => { p with ha := x } | .hf => { p with hf := x } | .kn => { p with kn := x }

def modify (p : PerJoint α) (i : JointIx) (f : α → α) : PerJoint α := p.set i (f (p.get i))

def replicate (x : α) : PerJoint α := ⟨x, x, x⟩

def map (f : α → β) (p : PerJoint α) : PerJoint β := ⟨f p.ha, f p.hf, f p.kn⟩

def toList (p : PerJoint α) : List α := [p.ha, p.hf, p.kn]

end PerJoint

namespace PerSlot
variable {α β : Type}

def get (p : PerSlot α) : Slot → α
  | .ha => p.ha | .hf => p.hf | .kn => p.kn | .foot => p.foot

def set (p : PerSlot α) (i : Slot) (x : α) : PerSlot α :=
  match i with
  | .ha => { p with ha := x } | .hf => { p with hf := x }
  | .kn => { p with kn := x } | .foot => { p with foot := x }

def modify (p : PerSlot α) (i : Slot) (f : α → α) : PerSlot α := p.set i (f (p.get i))

def replicate (x : α) : PerSlot α := ⟨x, x, x, x⟩

def map (f : α → β) (p : PerSlot α) : PerSlot β := ⟨f p.ha, f p.hf, f p.kn, f p.foot⟩

def toList (p : PerSlot α) : List α := [p.ha, p.hf, p.kn, p.foot]

end PerSlot

/-- Three joint angles of a leg, each in 0.01 degree. -/
abbrev Pose := PerJoint Int

/-- A set of legs (a mask, R2; a support set, R23). -/
abbrev LegSet := PerLeg Bool

/-! ## Table Store -/

/-- The fault categories of R134, as a set. A drive reports the first five, a foot node SENSOR_FAULT; the
supervisor latches NODE_LOST itself. -/
structure FaultSet where
  overcurrent : Bool
  openPhase   : Bool
  encoder     : Bool
  overtemp    : Bool
  undervolt   : Bool
  nodeLost    : Bool
  sensorFault : Bool
deriving DecidableEq, Repr

/-- One leg entry of a gait record (R2). -/
structure GaitLeg where
  liftPoint : Nat
  swing     : Nat
  prereq    : LegSet
  partner   : LegSet
  clearance : Pose
deriving DecidableEq, Repr

/-- A gait record (R1). -/
structure GaitRecord where
  n      : Nat
  e      : Nat
  mLift  : Int
  sEarly : Nat
  tWait  : Nat
  tLand  : Nat
  legs   : PerLeg GaitLeg
deriving DecidableEq, Repr

/-- A gait record with the valid flag kept beside it (R1). -/
structure GaitEntry where
  record : GaitRecord
  valid  : Bool
deriving DecidableEq, Repr

/-- Soft-limit action (R85). -/
inductive LimitMode where
  | off | note | clamp | freeze
deriving DecidableEq, Repr

/-- A joint record (R89). -/
structure JointRecord where
  lo        : Int
  hi        : Int
  stepMax   : Nat
  limitMode : LimitMode
  gj        : Nat
  kr        : Int
  kp        : Int
  kh        : Int
  cMax      : Nat
  faultMask : FaultSet
deriving DecidableEq, Repr

/-- A pose record (R91). -/
structure PoseRecord where
  setDown      : Pose
  reach        : Pose
  sit          : Pose
  sitStiffness : PerJoint Nat
deriving DecidableEq, Repr

/-- The link config, and a controller's transaction settings (R115, R116). -/
structure LinkConfig where
  divisor    : Nat
  window     : Nat
  polynomial : Word16
  initial    : Word16
deriving DecidableEq, Repr

/-- Action of a supply level (R143, R144). -/
inductive SupplyAction where
  | flag | derate | sit
deriving DecidableEq, Repr

/-- How a class of factors is cleared (R162, R165). -/
inductive ClearPolicy where
  | explicit | readClears
deriving DecidableEq, Repr

/-- The device config, all fields (R157, R176). `tCyc` is in 0.01 ms. -/
structure DeviceConfig where
  deltaDerate  : Nat
  tClear       : Nat
  tOn          : Nat
  tOff         : Nat
  mBrace       : Int
  hBrace       : Nat
  gg           : Nat
  v1           : Nat
  action1      : SupplyAction
  v2           : Nat
  action2      : SupplyAction
  vh           : Nat
  gDerate      : Nat
  tCyc         : Nat
  lSil         : Nat
  eventEnables : FactorSet
  alertEnable  : Bool
  errorPolicy  : ClearPolicy
  eventPolicy  : ClearPolicy
deriving DecidableEq, Repr

/-- The Table Store: the six tables of R157 and their valid flags. -/
structure TableStore where
  gait         : Vector GaitEntry 8
  joint        : PerLeg (PerJoint JointRecord)
  jointValid   : Bool
  pose         : PerLeg PoseRecord
  poseValid    : Bool
  liftProfile  : Vector Nat 15
  liftValid    : Bool
  linkConfig   : LinkConfig
  deviceConfig : DeviceConfig
deriving DecidableEq, Repr

/-! ## Gait Phase Engine -/

/-- Leg states (R19, R22). -/
inductive LegState where
  | unset | stance | liftWait | swing | landing | setDown | hang
deriving DecidableEq, Repr

/-- The per-leg record (R19). -/
structure LegRecord where
  state           : LegState
  progress        : Option Nat
  liftoff         : Option Pose
  wait            : Nat
  landing         : Nat
  clear           : Nat
  cleared         : Bool
  partnerLatch    : Bool
  stanceBase      : Option Pose
  touchdownTarget : Option Pose
deriving DecidableEq, Repr

/-- The Gait Phase Engine (R7, R8, R19). -/
structure GaitEngine where
  current : Fin 8
  waiting : Option (Fin 8)
  phase   : Nat
  legs    : PerLeg LegRecord
deriving DecidableEq, Repr

/-! ## Balance Unit -/

/-- A point of the body frame, in mm. -/
structure Point where
  x : Int
  y : Int
deriving DecidableEq, Repr

/-- The body state of a cycle frame (R56). -/
structure BodyState where
  com    : Point
  height : Int
  roll   : Int
  pitch  : Int
  feet   : PerLeg Point
deriving DecidableEq, Repr

inductive Freshness where
  | none | fresh | stale
deriving DecidableEq, Repr

/-- The Balance Unit (R56). -/
structure BalanceUnit where
  body        : Option BodyState
  freshness   : Freshness
  age         : Nat
  current     : Int
  prospective : PerLeg Int
deriving DecidableEq, Repr

/-! ## Contact Filters -/

/-- Contact states (R43). The majority is one of the first two. -/
inductive Contact where
  | absent | present | unknown
deriving DecidableEq, Repr

/-- The last three entries of a filter's window, oldest first (R43). -/
structure Window where
  oldest : Bool
  middle : Bool
  newest : Bool
deriving DecidableEq, Repr

/-- A filter record (R43). -/
structure FilterRecord where
  samples      : Window
  shear        : Window
  majority     : Contact
  contact      : Contact
  faultSeen    : Bool
  chatter      : Nat
  slipReported : Bool
  lastLoad     : Nat
deriving DecidableEq, Repr

/-! ## Leg Command Composer -/

inductive TargetKind where
  | stance | touchdown
deriving DecidableEq, Repr

/-- A leg segment of a cycle frame (R74, R76). -/
structure LegSegment where
  kind      : TargetKind
  targets   : Pose
  stiffness : PerJoint Nat
deriving DecidableEq, Repr

/-- A lane's composition state for one joint (R74). -/
structure JointState where
  lastPosition  : Option Int
  lastStiffness : Nat
  lastUnclamped : Option Int
  reported      : Option Int
deriving DecidableEq, Repr

/-- A lane (R74). -/
structure Lane where
  segment : Option LegSegment
  joints  : PerJoint JointState
deriving DecidableEq, Repr

/-- The body errors of the last accepted frame (R74, R76). -/
structure BodyErrors where
  roll   : Int
  pitch  : Int
  height : Int
deriving DecidableEq, Repr

/-- The Leg Command Composer (R74). -/
structure Composer where
  lanes  : PerLeg Lane
  errors : BodyErrors
deriving DecidableEq, Repr

/-- One entry of a limb command (R75); an absent position is `none`. -/
structure Entry where
  position  : Option Int
  stiffness : Nat
  engage    : Bool
deriving DecidableEq, Repr

/-- A limb command (R75). -/
abbrev LimbCommand := PerJoint Entry

/-! ## Mode and Hold Unit -/

inductive Mode where
  | unarmed | stand | walk | hold | safeSit
deriving DecidableEq, Repr

inductive SitState where
  | lowering | seated
deriving DecidableEq, Repr

/-- A hold: its cause and its subject (R103). Two records are the same hold when these are equal. -/
inductive Hold where
  | host
  | margin
  | noGround (l : Leg)
  | snag (l : Leg)
  | slip (l : Leg)
  | node (n : Node)
  | limit (j : Joint)
  | linkSilent
deriving DecidableEq, Repr

/-- A record of the hold stack (R103). -/
structure HoldRecord where
  hold       : Hold
  modeAtPush : Mode
  gait       : Fin 8
  phase      : Nat
  legStates  : PerLeg LegState
  tag        : Option Byte
deriving DecidableEq, Repr

/-- The Mode and Hold Unit (R96). `stack` is ordered bottom to top. -/
structure ModeUnit where
  mode               : Mode
  sit                : Option SitState
  stack              : List HoldRecord
  framesSinceSilence : Nat
  walkFlag           : Bool
deriving DecidableEq, Repr

/-! ## Limb Link Controllers -/

/-- Link states (R115). -/
inductive LinkState where
  | preamble
  | idle
  | lowBreak
  | sending
  | slot (s : Slot)
deriving DecidableEq, Repr

/-- A received character with its two marks (R115, R118). -/
structure RxChar where
  value   : Byte
  noisy   : Bool
  framing : Bool
deriving DecidableEq, Repr

/-- A Limb Link Controller (R115). `abandoned` holds the bit time at which the frame in transmission was abandoned or
cut, while its present character is being ended with idle ones (R124, R125; log 30); `tail` the samples from which the
hunt of the open slot goes on, and `early` how many samples of its window the slot before carried (R118, R126; logs 41,
42); `answered` which drives gave a good reply in this transaction (R142). -/
structure LinkController where
  state      : LinkState
  inFlight   : Option LimbCommand
  abandoned  : Option Nat
  waiting    : Option LimbCommand
  settings   : LinkConfig
  buffer     : List RxChar
  tail       : List Bool
  early      : Nat
  missTotals : PerSlot Nat
  noise      : Nat
  bitErrors  : Nat
  answered   : PerJoint Bool
deriving DecidableEq, Repr

/-! ## Node Supervisor -/

/-- A node record (R134). -/
structure NodeRecord where
  live     : Bool
  misses   : Nat
  reported : FaultSet
  latched  : FaultSet
deriving DecidableEq, Repr

/-- A drive's voltage report (R134). -/
structure VoltageReport where
  volts : Nat
  age   : Nat
deriving DecidableEq, Repr

inductive Level where
  | normal | low
deriving DecidableEq, Repr

/-- The Node Supervisor (R134). -/
structure Supervisor where
  nodes    : PerLeg (PerSlot NodeRecord)
  voltages : PerLeg (PerJoint VoltageReport)
  estimate : Option Nat
  level1   : Level
  level2   : Level
deriving DecidableEq, Repr

/-! ## Upstream Port -/

/-- A frame the part sends, by its body: a status frame (R174) or a management reply (R175). -/
inductive UpFrame where
  | status (body : List Byte)
  | reply (body : List Byte)
deriving DecidableEq, Repr

/-- The Upstream Port (R147). A timer that runs holds the time it was loaded with, in 0.01 ms (log 2). -/
structure UpstreamPort where
  lastTag        : Option Byte
  silenceTimer   : Option Nat
  localTimer     : Option Nat
  statusSlot     : Option (List Byte)
  replyQueue     : List (List Byte)
  sending        : Option UpFrame
  restartPending : Bool
  crcCount       : Nat
  formCount      : Nat
  duplicateCount : Nat
  droppedCount   : Nat
deriving DecidableEq, Repr

/-! ## Event and Error Unit -/

/-- The thirty-one factors of section 10.1, error factors first, in the order of their bits (R171). -/
inductive Factor where
  | holdOverflow | brace | noGround | snag | slip | driveFault | nodeLost | limitFreeze | linkSilent | supplySit
  | resetDone | modeChanged | gaitAdopted | gaitRefused | touchdownEarly | scuff | liftStarved | unload | chatter
  | targetMismatch | stepLimited | limitNote | limitClamp | polyDegenerate | seqGap | cycleOverrun | limbBitError
  | replyCrc | supplyLow | overtemp | holdResumed
deriving DecidableEq, Repr

/-- A factor record (R162). -/
structure FactorRecord where
  flag  : Bool
  count : Nat
deriving DecidableEq, Repr

/-- The reset cause record (R164). -/
inductive ResetCause where
  | powerUp | logicBrownout | resetPin | restartRequest
deriving DecidableEq, Repr

/-- The Event and Error Unit (R162, R164, R168). `resetting` holds the causes that have begun the power-up-class
reset in progress, and is empty while the part runs; `alert` is the ALERT pin, true while it is asserted. -/
structure EventUnit where
  factors    : Vector FactorRecord 31
  resetCause : ResetCause
  resetting  : List PowerCause
  alert      : Bool
deriving DecidableEq, Repr

/-! ## The device -/

/-- The GL-12: its ten blocks, and the model's own count of the free values it has used (log 31). -/
structure Device where
  tbs       : TableStore
  gpe       : GaitEngine
  bal       : BalanceUnit
  cfl       : PerLeg FilterRecord
  lcc       : Composer
  mhu       : ModeUnit
  llc       : PerLeg LinkController
  nsv       : Supervisor
  upp       : UpstreamPort
  eeu       : EventUnit
  freeCount : Nat
deriving DecidableEq, Repr

end Sys2Proof.Machine
end

