-- ==== Sys2Proof/Machine/Line.lean ====
section
/-!
DEFINITION. What travels on the lines: the receiver of R118, the CRC of R119, the bits the part sends (R117, R122
to R125), the limb frames of R178 and the checks of a received upstream frame (R148, R149).
-/

namespace Sys2Proof.Machine

/-! ## The samples of a character (R117, R118) -/

/-- Sample `n` of a line; a line that is not driven rests high (R117). -/
def sampleAt (line : List Bool) (n : Nat) : Bool := line.getD n true

/-- Samples 8, 9 and 10 of bit time `n`, counted from sample 0 of the start bit (R118). -/
def bitSamples (line : List Bool) (n : Nat) : Sample3 :=
  ⟨sampleAt line (16 * n + 8), sampleAt line (16 * n + 9), sampleAt line (16 * n + 10)⟩

/-- One candidate character, as the receiver samples it. It is a character only when its start bit is accepted;
otherwise it is a false start. -/
structure SampledChar where
  start : Sample3
  data  : Vector Sample3 8
  stop  : Sample3
deriving DecidableEq, Repr

/-- The candidate whose sample 0 is the first sample of `line`: samples 3, 5 and 7 of its start bit, and those of its
data bits and its stop bit (R118). -/
def sampledChar (line : List Bool) : SampledChar where
  start := ⟨sampleAt line 3, sampleAt line 5, sampleAt line 7⟩
  data := #v[bitSamples line 1, bitSamples line 2, bitSamples line 3, bitSamples line 4,
             bitSamples line 5, bitSamples line 6, bitSamples line 7, bitSamples line 8]
  stop := bitSamples line 9

/-- The majority of three samples. -/
def majority3 (s : Sample3) : Bool := (s.a && s.b) || (s.a && s.c) || (s.b && s.c)

def allEqual3 (s : Sample3) : Bool := s.a == s.b && s.b == s.c

/-- Start verification: at least two of the three samples are low. -/
def startAccepted (s : Sample3) : Bool := !majority3 s

/-- Eight bits, least significant first, as a byte. -/
def byteOfBits (bits : List Bool) : Byte :=
  BitVec.ofNat 8 (bits.foldr (fun b n => (if b then 1 else 0) + 2 * n) 0)

/-- The noise mark: the start samples are not all low, or the samples of a data bit or of the stop bit differ. -/
def charNoisy (c : SampledChar) : Bool :=
  c.start.a || c.start.b || c.start.c || c.data.toList.any (fun s => !allEqual3 s) || !allEqual3 c.stop

/-- The character a candidate gives; none for a false start. -/
def receiveChar (c : SampledChar) : Option RxChar :=
  if startAccepted c.start then
    some { value := byteOfBits (c.data.toList.map majority3)
           noisy := charNoisy c
           framing := !majority3 c.stop }
  else none

/-! ## The hunt (R118) -/

/-- A candidate start bit found by the hunt: where on the line its sample 0 is, and what was sampled from there. -/
structure Candidate where
  edge    : Nat
  sampled : SampledChar
deriving DecidableEq, Repr

/-- The samples after sample 0 in which the receiver does not hunt: to sample 10 of the stop bit when the start bit is
accepted, to sample 7 of the start bit when the candidate is a false start (R118). -/
def heldSamples (c : SampledChar) : Nat := if startAccepted c.start then 154 else 7

/-- The hunt over the samples of a line, from sample `now` of it on. `held` samples are passed over first; `before` is
the sample before the one the hunt stands on. The first low sample after a high one is sample 0 of a candidate
(R118). -/
def huntFrom (now held : Nat) (before : Bool) : List Bool → List Candidate
  | [] => []
  | b :: line =>
    match held with
    | k + 1 => huntFrom (now + 1) k b line
    | 0 =>
      if before && !b then
        ⟨now, sampledChar (b :: line)⟩ :: huntFrom (now + 1) (heldSamples (sampledChar (b :: line))) b line
      else huntFrom (now + 1) 0 b line

/-- The candidates on a line whose first sample is the one before the hunt begins. -/
def hunt : List Bool → List Candidate
  | [] => []
  | b :: line => huntFrom 1 0 b line

/-- What the receiver of a slot has taken when the slot ends: the characters, the sample of the line at which the slot
ends, and the number of samples from which that end is known. -/
structure Reception where
  chars : List RxChar
  ended : Nat
  known : Nat
deriving DecidableEq, Repr

/-- The end of a slot in which no further character has begun before sample `due`; `busy` is where the verification of
the last false start completes. A short reply's slot ends there when that is later (R126 step 4). An empty slot ends
with its window (R126 step 2), but that the last candidate was a false start is known only there (log 42). -/
def spentSlot (due busy : Nat) (taken : List RxChar) : Reception :=
  if taken = [] then ⟨[], due, max due busy⟩ else ⟨taken, max due busy, max due busy⟩

/-- The collection of a reply of `wanted` characters from the candidates of a line. The next character must begin
before sample `due`; after each stop bit it has 4 bit times to begin in. The slot ends with the stop bit of the last
character wanted (R126). -/
def collect (wanted due busy : Nat) (taken : List RxChar) : List Candidate → Reception
  | [] => spentSlot due busy taken
  | c :: rest =>
    if due ≤ c.edge then spentSlot due busy taken
    else match receiveChar c.sampled with
      | none => collect wanted due (c.edge + 8) taken rest
      | some x =>
        if taken.length + 1 = wanted then ⟨taken ++ [x], c.edge + 160, c.edge + 160⟩
        else collect wanted (c.edge + 160 + 64) 0 (taken ++ [x]) rest

/-- The samples of one bit time of an undisturbed line. -/
def bitOnLine (b : Bool) : List Bool := List.replicate 16 b

def valuesOf (cs : List RxChar) : List Byte := cs.map (·.value)

def anyFraming (cs : List RxChar) : Bool := cs.any (·.framing)

def anyNoisy (cs : List RxChar) : Bool := cs.any (·.noisy)

/-- Bit times of the bits of a byte, least significant first. -/
def dataBits (b : Byte) : List Bool :=
  [b.getLsbD 0, b.getLsbD 1, b.getLsbD 2, b.getLsbD 3, b.getLsbD 4, b.getLsbD 5, b.getLsbD 6, b.getLsbD 7]

/-- A character on the line (R117): start bit low, eight data bits, stop bit high. -/
def charBits (b : Byte) : List Bool := false :: (dataBits b ++ [true])

/-- The samples of an undisturbed character. -/
def charOnLine (b : Byte) : List Bool := (charBits b).flatMap bitOnLine

/-! ## The CRC (R119) -/

def crcBit (poly reg : Word16) (b : Bool) : Word16 :=
  if reg.msb != b then (reg <<< 1) ^^^ poly else reg <<< 1

/-- One byte, most significant bit first. -/
def crcByte (poly reg : Word16) (b : Byte) : Word16 := (dataBits b).reverse.foldl (crcBit poly) reg

def crc16 (poly initial : Word16) (bs : List Byte) : Word16 := bs.foldl (crcByte poly) initial

/-- A CRC field, most significant byte first (R170). -/
def crcBytes (c : Word16) : List Byte := [c.extractLsb' 8 8, c.extractLsb' 0 8]

/-- A frame followed by its CRC field. -/
def withCrc (poly initial : Word16) (bs : List Byte) : List Byte := bs ++ crcBytes (crc16 poly initial bs)

/-- The last two bytes of a frame are the CRC of those before them. -/
def crcHolds (poly initial : Word16) (bs : List Byte) : Bool :=
  bs.drop (bs.length - 2) == crcBytes (crc16 poly initial (bs.take (bs.length - 2)))

/-! ## The limb command frame (R123, R178) -/

/-- The absent marker of a signed field of two bytes (R170). -/
def absent16 : Nat := 0x8000

def signedOrAbsent (x : Option Int) : List Byte :=
  bytes16 (match x with
    | some v => (v % 65536).toNat
    | none => absent16)

def entryBytes (e : Entry) : List Byte := signedOrAbsent e.position ++ bytes16 e.stiffness ++ flagByte e.engage

def commandBytes (settings : LinkConfig) (l : Leg) (c : LimbCommand) : List Byte :=
  withCrc settings.polynomial settings.initial
    (byte1 (0xC0 + l.number) ++ entryBytes c.ha ++ entryBytes c.hf ++ entryBytes c.kn)

/-- The break: 13 low bit times and one high (R122). -/
def breakBits : List Bool := List.replicate 13 false ++ [true]

/-- Every bit a transaction sends, by bit time from the start of its break (R122, R123). -/
def transmissionBits (settings : LinkConfig) (l : Leg) (c : LimbCommand) : List Bool :=
  breakBits ++ (commandBytes settings l c).flatMap charBits

/-- The bit time after the last of the character that bit time `t` belongs to; the break counts as one character
(R124). -/
def characterEnd (t : Nat) : Nat := if t < 14 then 14 else 14 + 10 * ((t - 14) / 10 + 1)

/-- The bits of a transmission abandoned or cut at bit time `t`: those up to it as they were to be sent, then idle ones
to the end of the present character, and no later character (R124, R125). -/
def endedWithOnes (t : Nat) (bits : List Bool) : List Bool :=
  bits.take (t + 1) ++ List.replicate (characterEnd t - (t + 1)) true

/-- The bits a link sends in its transaction, by bit time from the start of the break (R122 to R125). -/
def linkBits (l : Leg) (k : LinkController) : List Bool :=
  match k.inFlight with
  | none => []
  | some c =>
    match k.abandoned with
    | none => transmissionBits k.settings l c
    | some t => endedWithOnes t (transmissionBits k.settings l c)

/-- What the controller does with its line (R117, section 7.3): it drives it high, releases it, or drives it with the
bits of its transaction. -/
inductive LineDrive where
  | high | released | sending (bits : List Bool)
deriving DecidableEq, Repr

def lineDrive (l : Leg) (k : LinkController) : LineDrive :=
  match k.state with
  | .preamble => .high
  | .lowBreak => .sending (linkBits l k)
  | .sending => .sending (linkBits l k)
  | .idle => .released
  | .slot _ => .released

/-! ## The limb replies (R126, R178) -/

/-- Characters a slot's node sends (R126). -/
def expectedChars : Slot → Nat
  | .foot => 7
  | .ha => 8
  | .hf => 8
  | .kn => 8

/-- A fault set from its byte; bits 5 to 7 of a drive's flags and of a fault mask name nothing (R170, R178). -/
def driveFaults (bs : List Byte) (off : Nat) : FaultSet where
  overcurrent := (byteAt bs off).getLsbD 0
  openPhase := (byteAt bs off).getLsbD 1
  encoder := (byteAt bs off).getLsbD 2
  overtemp := (byteAt bs off).getLsbD 3
  undervolt := (byteAt bs off).getLsbD 4
  nodeLost := false
  sensorFault := false

/-- The sample of a quiet line before a slot opens: the controller's own stop bit, or the line at rest, both high
(R117, R126). -/
def quietLine : List Bool := [true]

/-- What the receiver of an open slot has before it: the samples from which its hunt goes on, then those taken since
the slot opened (R118, R126). -/
def slotLine (k : LinkController) (heard : List Bool) : List Bool := k.tail ++ heard

/-- What the receiver of an open slot has taken, by its line. The window runs from the slot's opening (R126). -/
def slotReception (k : LinkController) (x : Slot) (heard : List Bool) : Reception :=
  collect (expectedChars x) (k.tail.length + 16 * k.settings.window - k.early) 0 [] (hunt (slotLine k heard))

/-- The characters of a slot whose end is known with the last of the samples `heard`; none when those samples do not end
it. A reply must begin within the window; each later character must begin within 4 bit times (R126). -/
def slotChars (k : LinkController) (x : Slot) (heard : List Bool) : Option (List RxChar) :=
  if (slotReception k x heard).known = (slotLine k heard).length then some (slotReception k x heard).chars else none

/-- What the receiver carries into the next slot: the samples from which its hunt goes on, and how many samples of that
slot it has taken already. -/
structure Carried where
  tail  : List Bool
  early : Nat
deriving DecidableEq, Repr

/-- The hunt of the next slot goes on from sample 10 of the last stop bit when the reply was complete, and otherwise
from the last sample taken; that slot has been open since this one ended (R118, R126; log 41, log 42). -/
def carriedOver (k : LinkController) (x : Slot) (heard : List Bool) : Carried where
  tail :=
    let line := slotLine k heard
    line.drop (line.length - (if (slotReception k x heard).chars.length = expectedChars x then 6 else 1))
  early := (slotReception k x heard).known - (slotReception k x heard).ended

/-- A good drive reply, as R178 reads it. -/
structure DriveReply where
  faults   : FaultSet
  position : Int
  volts    : Nat
deriving DecidableEq, Repr

def driveReply (bs : List Byte) : DriveReply where
  faults := driveFaults bs 1
  position := clampAbs Config.angleLimit (s16 bs 2)
  volts := min (u16 bs 4) 1023

/-- A good foot reply, as R178 reads it. -/
structure FootReply where
  load        : Nat
  shear       : Bool
  sensorFault : Bool
deriving DecidableEq, Repr

def footReply (bs : List Byte) : FootReply where
  load := min (u16 bs 1) 4095
  shear := flagAt bs 3
  sensorFault := flagAt bs 4

/-- What a slot brought, in the order in which R127 judges it. -/
inductive SlotJudgement where
  | noReply | short | framing | crcFailed | wrongNode
  | good (noisy : Bool)
deriving DecidableEq, Repr

def judgeSlot (settings : LinkConfig) (node : Node) (cs : List RxChar) : SlotJudgement :=
  if cs.isEmpty then .noReply
  else if cs.length < expectedChars node.slot then .short
  else if anyFraming cs then .framing
  else if !crcHolds settings.polynomial settings.initial (valuesOf cs) then .crcFailed
  else if u8 (valuesOf cs) 0 ≠ node.number then .wrongNode
  else .good (anyNoisy cs)

/-! ## Upstream frames (R148, R149, R172) -/

def kindCycle : Byte := 0x31#8
def kindManagement : Byte := 0x32#8
def kindStatus : Byte := 0x33#8
def kindReply : Byte := 0x34#8

/-- An upstream frame, in either direction. -/
def upstreamFrame (kind : Byte) (body : List Byte) : List Byte :=
  withCrc Config.upstreamPolynomial Config.upstreamInitial (kind :: bytes16 body.length ++ body)

/-- The bytes of a frame the part sends. -/
def UpFrame.bytes : UpFrame → List Byte
  | .status body => upstreamFrame kindStatus body
  | .reply body => upstreamFrame kindReply body

/-- A frame on an undisturbed line: a high sample, its characters back to back, and the gap that closes it (R148). -/
def frameOnLine (bs : List Byte) : List Bool := quietLine ++ bs.flatMap charOnLine ++ List.replicate 320 true

/-- The sample after the first 320 successive high samples of a line, its first sample numbered `now` and `high` high
ones standing before it; none when the line has no such run. -/
def idleEnd (now high : Nat) : List Bool → Option Nat
  | [] => none
  | b :: line =>
    if b then if high + 1 = 320 then some (now + 1) else idleEnd (now + 1) (high + 1) line
    else idleEnd (now + 1) 0 line

/-- Where the idle gap of 20 bit times that follows sample `n` of a line ends (R148). An idle line is high (R117): a low
sample, be it a false start's, makes the gap begin again after it (log 43). -/
def gapEnd (line : List Bool) (n : Nat) : Option Nat := idleEnd n 0 (line.drop n)

/-- A received frame: its characters, and the sample of the line after its closing gap. -/
structure Received where
  chars  : List RxChar
  closed : Nat
deriving DecidableEq, Repr

/-- The frame that the candidates of a line make up. `closing` is where the gap after the last character ends; a
character that begins before then belongs to the frame (R148). -/
def frameFrom (line : List Bool) (closing : Option Nat) (taken : List RxChar) : List Candidate → Option Received
  | [] => closing.map fun g => ⟨taken, g⟩
  | c :: rest =>
    if closing.any (· ≤ c.edge) then closing.map fun g => ⟨taken, g⟩
    else match receiveChar c.sampled with
      | none => frameFrom line closing taken rest
      | some x => frameFrom line (gapEnd line (c.edge + 160)) (taken ++ [x]) rest

/-- The characters of a received frame whose closing gap ends with the last sample of `run`; none when `run` is no such
frame (R148). -/
def frameChars (run : List Bool) : Option (List RxChar) :=
  match frameFrom run none [] (hunt run) with
  | some f => if f.closed = run.length then some f.chars else none
  | none => none

/-- What the checks of R149 make of a run of characters closed by its gap. -/
inductive FrameVerdict where
  | dropForm
  | dropCrc
  | cycle (body : List Byte)
  | management (body : List Byte)
deriving DecidableEq, Repr

/-- The body bytes of a received frame: what stands between its three-byte head and its CRC. -/
def frameBody (bs : List Byte) : List Byte := (bs.take (bs.length - 2)).drop 3

/-- The checks of R149, in their order. A run too short for a head and a CRC fails the length check (log 21). -/
def judgeFrame (cs : List RxChar) : FrameVerdict :=
  let bs := valuesOf cs
  if anyFraming cs then .dropForm
  else if Config.longestFrame < bs.length then .dropForm
  else if bs.length < 5 ∨ u16 bs 1 ≠ bs.length - 5 then .dropForm
  else if !crcHolds Config.upstreamPolynomial Config.upstreamInitial bs then .dropCrc
  else if byteAt bs 0 = kindCycle then
    if (frameBody bs).length = Config.cycleBodyLength then .cycle (frameBody bs) else .dropForm
  else if byteAt bs 0 = kindManagement then .management (frameBody bs)
  else .dropForm

end Sys2Proof.Machine
end

