-- ==== Sys2Proof/Decode.lean ====
section
/-!
DEFINITION. Which command a received upstream frame is (R148 to R151, R155, R156, R159, R171, R175), and the answer
to the host's question about table words: no row of spec/opcode_table.json has bits.
-/

namespace Sys2Proof

/-- No row of spec/opcode_table.json gives bits, so no word spells a command. -/
def decodeTableWord (_nbits _w : Nat) : Option Instr := none

open Machine in
/-- The command of a control request's action code (R171); an action that is none of these makes the request
malformed (R159). -/
def controlCommand (body : List Byte) (tag action : Byte) (rest : List Byte) : Instr :=
  match action.toNat with
  | 1 => .arm tag rest
  | 2 => .disarm tag rest
  | 3 => .hold tag rest
  | 4 => .resume tag rest
  | 5 => .sit tag rest
  | 6 => .restart tag rest
  | 7 => .clearFactors tag rest
  | 8 => .clearFaults tag rest
  | 9 => .ident tag rest
  | _ => .malformedRequest body

/-- The command of a management body (R171, R175). -/
def managementCommand (body : List Byte) : Instr :=
  match body with
  | kind :: tag :: rest =>
    match kind.toNat with
    | 1 => .tableWrite tag rest
    | 2 => .tableRead tag rest
    | 3 =>
      match rest with
      | action :: more => controlCommand body tag action more
      | [] => .malformedRequest body
    | 4 => .readState tag rest
    | _ => .malformedRequest body
  | _ => .malformedRequest body

open Machine in
/-- The command that a frame received on the line is, by the samples of the line up to the end of its closing gap; none
when they are no frame closed by a gap (R148). -/
def frameCommand (run : List Bool) : Option Instr :=
  match (frameChars run).map judgeFrame with
  | some .dropForm => some (.frameDropped run)
  | some .dropCrc => some (.frameDropped run)
  | some (.cycle body) => some (.cycleFrame body)
  | some (.management body) => some (managementCommand body)
  | none => none

open Machine in
/-- The frame body the host sends for a request, kind first (R175): what `managementCommand` reads back. -/
def requestBody : Instr → Option (List Byte)
  | .tableWrite tag rest => some (1#8 :: tag :: rest)
  | .tableRead tag rest => some (2#8 :: tag :: rest)
  | .readState tag rest => some (4#8 :: tag :: rest)
  | .arm tag rest => some (3#8 :: tag :: 1#8 :: rest)
  | .disarm tag rest => some (3#8 :: tag :: 2#8 :: rest)
  | .hold tag rest => some (3#8 :: tag :: 3#8 :: rest)
  | .resume tag rest => some (3#8 :: tag :: 4#8 :: rest)
  | .sit tag rest => some (3#8 :: tag :: 5#8 :: rest)
  | .restart tag rest => some (3#8 :: tag :: 6#8 :: rest)
  | .clearFactors tag rest => some (3#8 :: tag :: 7#8 :: rest)
  | .clearFaults tag rest => some (3#8 :: tag :: 8#8 :: rest)
  | .ident tag rest => some (3#8 :: tag :: 9#8 :: rest)
  | .malformedRequest body => some body
  | .powerOn => none
  | .resetPin => none
  | .logicBrownout => none
  | .resetEnd _ => none
  | .cycleFrame _ => none
  | .frameDropped _ => none
  | .restartReset => none
  | .transmitComplete => none
  | .silenceExpiry => none
  | .localCycle => none
  | .preambleEnd _ => none
  | .breakEnd _ => none
  | .commandFrameEnd _ => none
  | .echoMismatch _ _ _ => none
  | .frameAbandoned _ => none
  | .replyWindowExpiry _ _ => none
  | .shortReply _ _ => none
  | .replyComplete _ _ => none

open Machine in
/-- The bytes the host sends for a frame command: the encoder of the commands that arrive as frames. -/
def hostFrame : Instr → Option (List Byte)
  | .cycleFrame body => some (upstreamFrame kindCycle body)
  | i => (requestBody i).map (upstreamFrame kindManagement)

end Sys2Proof
end

