-- ==== Sys2Proof/Machine/ResetValues.lean ====
section
/-!
DEFINITION. The values each block takes at a reset, block by block. What a RESTART keeps is said where it is taken
(Ops.lean); everything below is what a power-up-class reset gives.
-/

namespace Sys2Proof.Machine

def noFaults : FaultSet := ⟨false, false, false, false, false, false, false⟩

def zeroPose : Pose := .replicate 0

/-- Every field of every gait record is 0 and every valid flag is clear (R6). -/
def zeroGaitLeg : GaitLeg where
  liftPoint := 0
  swing := 0
  prereq := .replicate false
  partner := .replicate false
  clearance := zeroPose

def zeroGaitEntry : GaitEntry where
  record := { n := 0, e := 0, mLift := 0, sEarly := 0, tWait := 0, tLand := 0, legs := .replicate zeroGaitLeg }
  valid := false

/-- Every field 0, limit mode OFF, fault mask empty (R89). -/
def zeroJoint : JointRecord where
  lo := 0
  hi := 0
  stepMax := 0
  limitMode := .off
  gj := 0
  kr := 0
  kp := 0
  kh := 0
  cMax := 0
  faultMask := noFaults

/-- Every field 0 (R91). -/
def zeroPoseRecord : PoseRecord where
  setDown := zeroPose
  reach := zeroPose
  sit := zeroPose
  sitStiffness := .replicate 0

/-- The defaults of R116. -/
def defaultLinkConfig : LinkConfig where
  divisor := 2
  window := 24
  polynomial := 0xC867#16
  initial := 0xFFFF#16

/-- The defaults of R9, R31, R46, R72, R83, R143, R147 and R162. -/
def defaultDeviceConfig : DeviceConfig where
  deltaDerate := 4
  tClear := 6
  tOn := 200
  tOff := 120
  mBrace := 0
  hBrace := 20
  gg := 1024
  v1 := 420
  action1 := .flag
  v2 := 380
  action2 := .sit
  vh := 10
  gDerate := 768
  tCyc := 200
  lSil := 4
  eventEnables := 0#32
  alertEnable := true
  errorPolicy := .explicit
  eventPolicy := .explicit

/-- The Table Store after a power-up-class reset (R6, R89, R91, R92, R116). -/
def tablesAtPowerUp : TableStore where
  gait := .replicate 8 zeroGaitEntry
  joint := .replicate (.replicate zeroJoint)
  jointValid := false
  pose := .replicate zeroPoseRecord
  poseValid := false
  liftProfile := Config.defaultLiftProfile
  liftValid := true
  linkConfig := defaultLinkConfig
  deviceConfig := defaultDeviceConfig

/-- A leg record in UNSET (R20). -/
def unsetLeg : LegRecord where
  state := .unset
  progress := none
  liftoff := none
  wait := 0
  landing := 0
  clear := 0
  cleared := false
  partnerLatch := false
  stanceBase := none
  touchdownTarget := none

/-- R7, R8, R20, after either class of reset. -/
def engineAtReset : GaitEngine where
  current := 0
  waiting := none
  phase := 0
  legs := .replicate unsetLeg

/-- R57, after either class of reset. -/
def balanceAtReset : BalanceUnit where
  body := none
  freshness := .none
  age := 0
  current := Config.noMargin
  prospective := .replicate Config.noMargin

/-- R44, after either class of reset. No foot node is live, so the contact state is UNKNOWN (R48). -/
def filterAtReset : FilterRecord where
  samples := ⟨false, false, false⟩
  shear := ⟨false, false, false⟩
  majority := .absent
  contact := .unknown
  faultSeen := false
  chatter := 0
  slipReported := false
  lastLoad := 0

def unknownJoint : JointState where
  lastPosition := none
  lastStiffness := 0
  lastUnclamped := none
  reported := none

/-- R74, after either class of reset. -/
def composerAtReset : Composer where
  lanes := .replicate { segment := none, joints := .replicate unknownJoint }
  errors := { roll := 0, pitch := 0, height := 0 }

/-- R96, after either class of reset. -/
def modeAtReset : ModeUnit where
  mode := .unarmed
  sit := none
  stack := []
  framesSinceSilence := 0
  walkFlag := false

/-- R115, after either class of reset: the preamble has just begun, and the settings are the link config as it then
stands (R120). -/
def linkAtReset (config : LinkConfig) : LinkController where
  state := .preamble
  inFlight := none
  abandoned := none
  waiting := none
  settings := config
  buffer := []
  tail := [true]
  early := 0
  missTotals := .replicate 0
  noise := 0
  bitErrors := 0
  answered := .replicate false

def nodeAtReset : NodeRecord where
  live := false
  misses := 0
  reported := noFaults
  latched := noFaults

/-- R134, after either class of reset. The value of a voltage report is a DESIGN CHOICE (log 28); its age 4 counts
as expired. -/
def supervisorAtReset : Supervisor where
  nodes := .replicate (.replicate nodeAtReset)
  voltages := .replicate (.replicate { volts := 0, age := 4 })
  estimate := none
  level1 := .normal
  level2 := .normal

/-- R147, after either class of reset. -/
def portAtReset : UpstreamPort where
  lastTag := none
  silenceTimer := none
  localTimer := none
  statusSlot := none
  replyQueue := []
  sending := none
  restartPending := false
  crcCount := 0
  formCount := 0
  duplicateCount := 0
  droppedCount := 0

def clearFactor : FactorRecord := { flag := false, count := 0 }

/-- Every factor clear (R164). -/
def clearFactorTable : Vector FactorRecord 31 := .replicate 31 clearFactor

end Sys2Proof.Machine
end

