-- ==== Sys2Proof/Machine/State.lean ====
section
/-!
DEFINITION. The state of the machine: the device and the queue of commands that wait for it; the reasons a step can
stop; and the machine right after reset.
-/

namespace Sys2Proof.Machine

/-- The reasons a command cannot happen. -/
inductive Fault where
  /-- Raised by the meanings of the events of the part's own timing (PREAMBLE_END, BREAK_END, COMMAND_FRAME_END,
  ECHO_MISMATCH, FRAME_ABANDONED, the three slot events, TRANSMIT_COMPLETE, SILENCE_EXPIRY, LOCAL_CYCLE,
  RESTART_RESET, RESET_END) when the state rules the event out: the timer is stopped, the link is in another state,
  no frame is being sent. The spec gives no effect, for the event does not arise. SAFE: the machine stops where the
  hardware could not have come (log 8). -/
  | eventImpossible
deriving DecidableEq, Repr

/-- The reasons a command has no meaning. -/
inductive Refusal where
  /-- An instruction that has no meaning yet, rejected in exec's arm by its mnemonic. SAFE. -/
  | notModelled (mnemonic : String)
  /-- Raised by CYCLE_FRAME, FRAME_DROPPED, MALFORMED_REQUEST and the slot events when the operands do not make up the
  event the constructor names: a frame of another length, a run that passes every check, samples that do not end the
  slot or end it with another number of characters. SAFE: it is another event, which has its own constructor, or none
  yet (log 9). -/
  | notThisEvent
deriving DecidableEq, Repr

/-- The machine: the GL-12 and the commands waiting for it, first in, first out. -/
structure State where
  dev     : Device
  pending : List Instr
deriving DecidableEq, Repr

/-- The Event and Error Unit right after a power-up-class reset has ended: RESET_DONE is the only factor set, with
count 1, and ALERT is released (R164). -/
def eventsAfterPowerUp (cause : ResetCause) : EventUnit where
  factors := clearFactorTable.set 10 { flag := true, count := 1 }
  resetCause := cause
  resetting := []
  alert := false

/-- The machine right after reset: the power-up-class values of every block, the part running, RESET_DONE set. That
the reset was one of power-on is a DESIGN CHOICE (log 4). No command waits. -/
def State.reset : State where
  dev := { tbs := tablesAtPowerUp
           gpe := engineAtReset
           bal := balanceAtReset
           cfl := .replicate filterAtReset
           lcc := composerAtReset
           mhu := modeAtReset
           llc := .replicate (linkAtReset defaultLinkConfig)
           nsv := supervisorAtReset
           upp := portAtReset
           eeu := eventsAfterPowerUp .powerUp
           freeCount := 0 }
  pending := []

end Sys2Proof.Machine
end

