-- ==== Sys2Proof/Machine/Flags.lean ====
section
/-!
DEFINITION. The factors, the ALERT line (chapter 10) and the valid flags of the tables (R4, R89, R91, R92).
-/

namespace Sys2Proof.Machine

/-! ## Factors (R162, R163, R165, R171) -/

/-- The bit of a factor in a factor set (R171). -/
def Factor.bit : Factor → Fin 31
  | .holdOverflow => 0 | .brace => 1 | .noGround => 2 | .snag => 3 | .slip => 4 | .driveFault => 5
  | .nodeLost => 6 | .limitFreeze => 7 | .linkSilent => 8 | .supplySit => 9
  | .resetDone => 10 | .modeChanged => 11 | .gaitAdopted => 12 | .gaitRefused => 13 | .touchdownEarly => 14
  | .scuff => 15 | .liftStarved => 16 | .unload => 17 | .chatter => 18 | .targetMismatch => 19
  | .stepLimited => 20 | .limitNote => 21 | .limitClamp => 22 | .polyDegenerate => 23 | .seqGap => 24
  | .cycleOverrun => 25 | .limbBitError => 26 | .replyCrc => 27 | .supplyLow => 28 | .overtemp => 29
  | .holdResumed => 30

/-- The factors in the order of their bits. -/
def Factor.all : List Factor :=
  [.holdOverflow, .brace, .noGround, .snag, .slip, .driveFault, .nodeLost, .limitFreeze, .linkSilent, .supplySit,
   .resetDone, .modeChanged, .gaitAdopted, .gaitRefused, .touchdownEarly, .scuff, .liftStarved, .unload, .chatter,
   .targetMismatch, .stepLimited, .limitNote, .limitClamp, .polyDegenerate, .seqGap, .cycleOverrun, .limbBitError,
   .replyCrc, .supplyLow, .overtemp, .holdResumed]

/-- The first ten factors are error factors, the others event factors (section 10.1, R171). -/
def Factor.isError (f : Factor) : Bool := f.bit.val < 10

def inSet (s : FactorSet) (f : Factor) : Bool := s.getLsbD f.bit.val

abbrev FactorTable := Vector FactorRecord 31

def FactorTable.record (t : FactorTable) (f : Factor) : FactorRecord := t.get f.bit

def FactorTable.put (t : FactorTable) (f : Factor) (r : FactorRecord) : FactorTable := t.set f.bit.val r f.bit.isLt

/-- A raising: the flag is set and the count rises by 1, stopping at 255 (R163). -/
def FactorTable.raise (t : FactorTable) (f : Factor) : FactorTable :=
  t.put f { flag := true, count := saturate (t.record f).count }

/-- Clearing: every factor that `p` picks gets its flag clear and its count 0 (R165). -/
def FactorTable.clearWhere (t : FactorTable) (p : Factor → Bool) : FactorTable :=
  Factor.all.foldl (fun t f => if p f then FactorTable.put t f clearFactor else t) t

namespace Device

/-- The part runs when no power-up-class reset is in progress (R164). -/
def running (d : Device) : Bool := d.eeu.resetting.isEmpty

def factor (d : Device) (f : Factor) : FactorRecord := FactorTable.record d.eeu.factors f

/-- A set factor that counts toward ALERT: every error factor, and each enabled event factor (R167, R168). -/
def alerting (d : Device) (f : Factor) : Bool :=
  (d.factor f).flag && (f.isError || inSet d.tbs.deviceConfig.eventEnables f)

/-- The condition under which ALERT is asserted (R168). -/
def alertDue (d : Device) : Bool :=
  d.running && d.tbs.deviceConfig.alertEnable && Factor.all.any d.alerting

/-- The line follows its condition at every change of its inputs (R168). -/
def refreshAlert (d : Device) : Device := { d with eeu := { d.eeu with alert := d.alertDue } }

/-- A raising of a factor, by any block (R163). -/
def raise (f : Factor) (d : Device) : Device :=
  refreshAlert { d with eeu := { d.eeu with factors := FactorTable.raise d.eeu.factors f } }

/-- The raisings of a list, taken one at a time (R163). -/
def raiseAll (fs : List Factor) (d : Device) : Device := fs.foldl (fun d f => d.raise f) d

def raiseIf (b : Bool) (f : Factor) (d : Device) : Device := if b then d.raise f else d

/-- Whenever CHATTER is cleared the chatter counts of all four filters become 0 (R50, R165). -/
def zeroChatter (d : Device) : Device := { d with cfl := d.cfl.map fun r => { r with chatter := 0 } }

/-- Clears every factor that `p` picks, in one act (R165, R166). -/
def clearFactors (p : Factor → Bool) (d : Device) : Device :=
  let d := if p .chatter then d.zeroChatter else d
  refreshAlert { d with eeu := { d.eeu with factors := FactorTable.clearWhere d.eeu.factors p } }

end Device

/-! ## Valid flags -/

/-- The touchdown point of a leg on a ring of length `n` (R2). -/
def GaitLeg.touchdownPoint (g : GaitLeg) (n : Nat) : Nat := (g.liftPoint + g.swing) % n

/-- Phase units counted forward from `a` to `b` on a ring of length `n` (00_scope.md, Cycles and phase). -/
def ringDistance (n a b : Nat) : Nat := (b + n - a % n) % n

/-- A phase lies in a leg's swing window: 1 to W units after its lift point (R2). -/
def GaitLeg.inWindow (g : GaitLeg) (n p : Nat) : Bool :=
  1 ≤ ringDistance n g.liftPoint p && ringDistance n g.liftPoint p ≤ g.swing

/-- Validation of a gait record (R4). -/
def GaitRecord.isValid (r : GaitRecord) : Bool :=
  r.e < r.n
  && r.legs.toList.all (fun g => g.liftPoint < r.n && 1 ≤ g.swing && g.swing < r.n)
  && r.legs.toList.all (fun g => !g.inWindow r.n r.e)

/-- A joint record is valid when lo < hi and step_max ≥ 1 (R89). -/
def JointRecord.isValid (r : JointRecord) : Bool := r.lo < r.hi && 1 ≤ r.stepMax

/-- An angle within a joint's soft limits. -/
def JointRecord.allows (r : JointRecord) (x : Int) : Bool := r.lo ≤ x && x ≤ r.hi

def poseWithin (limits : PerJoint JointRecord) (p : Pose) : Bool :=
  limits.ha.allows p.ha && limits.hf.allows p.hf && limits.kn.allows p.kn

/-- A pose record is valid when each of its nine angles lies within its joint's limits (R91). -/
def PoseRecord.isValid (p : PoseRecord) (limits : PerJoint JointRecord) : Bool :=
  poseWithin limits p.setDown && poseWithin limits p.reach && poseWithin limits p.sit

/-- The lift profile entry LP[k]; LP[0] and LP[16] are fixed at 0 (R92). -/
def profileAt (lp : Vector Nat 15) (k : Nat) : Nat := if k = 0 then 0 else lp.toList.getD (k - 1) 0

/-- The first index, counting from `k`, at which a profile rises after it has fallen; `prev` is the entry before and
`fell` says that a fall has been seen (R92). -/
def peakBreakFrom : List Nat → Nat → Nat → Bool → Option Nat
  | [], _, _, _ => none
  | x :: xs, k, prev, fell =>
    if fell && prev < x then some k else peakBreakFrom xs (k + 1) x (fell || x < prev)

/-- The first index k that breaks the single peak of LP[0] to LP[16]; none when the profile is valid (R92). -/
def peakBreak (lp : Vector Nat 15) : Option Nat := peakBreakFrom (lp.toList ++ [0]) 1 0 false

namespace TableStore

def gaitAt (t : TableStore) (i : Fin 8) : GaitEntry := t.gait.get i

def jointAt (t : TableStore) (j : Joint) : JointRecord := (t.joint.get j.leg).get j.ix

/-- The lowest joint number whose record is invalid (R98). -/
def firstInvalidJoint (t : TableStore) : Option Joint := Joint.all.find? fun j => !(t.jointAt j).isValid

/-- The lowest leg number whose pose record is invalid (R91, R98). -/
def firstInvalidPose (t : TableStore) : Option Leg :=
  Leg.all.find? fun l => !(t.pose.get l).isValid (t.joint.get l)

/-- The joint table's valid flag is judged (R89). -/
def judgeJoints (t : TableStore) : TableStore := { t with jointValid := t.firstInvalidJoint.isNone }

/-- The pose table's valid flag is judged against the joint table (R91). -/
def judgePoses (t : TableStore) : TableStore := { t with poseValid := t.firstInvalidPose.isNone }

/-- The lift profile's valid flag is judged (R92). -/
def judgeProfile (t : TableStore) : TableStore := { t with liftValid := (peakBreak t.liftProfile).isNone }

/-- All eight gait records are validated (R5). -/
def judgeGaits (t : TableStore) : TableStore :=
  { t with gait := Vector.ofFn fun i => { t.gait.get i with valid := (t.gait.get i).record.isValid } }

end TableStore

end Sys2Proof.Machine
end

