-- ==== Sys2Proof/Machine/Ops.lean ====
section
/-!
DEFINITION. The operations the blocks share: what they read of each other, the leg records (chapter 2), the hold
requests, the sit demand and the changes of mode (chapter 6), the adoption of a gait (R16, R17), and the resets.
-/

namespace Sys2Proof.Machine

namespace Device

/-! ## What the blocks read -/

/-- The current gait record, as it stands in the table (R1, R7). -/
def gaitEntry (d : Device) : GaitEntry := d.tbs.gaitAt d.gpe.current

def gaitRecord (d : Device) : GaitRecord := d.gaitEntry.record

/-- A leg's entry in the current gait record. -/
def gaitLeg (d : Device) (l : Leg) : GaitLeg := d.gaitRecord.legs.get l

def leg (d : Device) (l : Leg) : LegRecord := d.gpe.legs.get l

def legState (d : Device) (l : Leg) : LegState := (d.leg l).state

def contact (d : Device) (l : Leg) : Contact := (d.cfl.get l).contact

def jointState (d : Device) (j : Joint) : JointState := (d.lcc.lanes.get j.leg).joints.get j.ix

def link (d : Device) (l : Leg) : LinkController := d.llc.get l

def node (d : Device) (n : Node) : NodeRecord := (d.nsv.nodes.get n.leg).get n.slot

/-- A stop is pending in WALK while the walk flag of the last accepted frame is clear (R14). -/
def stopPending (d : Device) : Bool := d.mhu.mode = .walk && !d.mhu.walkFlag

/-- A leg is supporting in STANCE or LIFT_WAIT with contact PRESENT or UNKNOWN (R23). -/
def supporting (d : Device) (l : Leg) : Bool :=
  (d.legState l = .stance || d.legState l = .liftWait) && d.contact l ≠ .absent

/-- The support set (R23). -/
def supportSet (d : Device) : LegSet := .ofFn d.supporting

def allInStance (d : Device) : Bool := Leg.all.all fun l => d.legState l = .stance

/-- The three last delivered positions of a leg; none unless all three are known (log 18). -/
def lastPose (d : Device) (l : Leg) : Option Pose :=
  match d.jointState ⟨l, .ha⟩ |>.lastPosition, d.jointState ⟨l, .hf⟩ |>.lastPosition,
        d.jointState ⟨l, .kn⟩ |>.lastPosition with
  | some a, some b, some c => some ⟨a, b, c⟩
  | _, _, _ => none

/-- A leg has reached a pose when its last delivered positions equal the pose's angles (R80). -/
def reached (d : Device) (l : Leg) (p : Pose) : Bool := d.lastPose l = some p

/-- DERATE is in force while any level whose action is DERATE is LOW (R9, R144). -/
def derate (d : Device) : Bool :=
  (d.nsv.level1 = .low && d.tbs.deviceConfig.action1 = .derate)
  || (d.nsv.level2 = .low && d.tbs.deviceConfig.action2 = .derate)

/-! ## Leg records -/

def modLeg (l : Leg) (f : LegRecord → LegRecord) (d : Device) : Device :=
  { d with gpe := { d.gpe with legs := d.gpe.legs.modify l f } }

/-- The legs, each replaced by what `f` makes of it. -/
def mapLegs (f : Leg → LegRecord → LegRecord) (d : Device) : Device :=
  { d with gpe := { d.gpe with legs := .ofFn fun l => f l (d.leg l) } }

/-- Entry to LIFT_WAIT: the wait counter is set to 0 (R25). -/
def liftWaitRecord (r : LegRecord) : LegRecord := { r with state := .liftWait, wait := 0 }

def enterLiftWait (l : Leg) (d : Device) : Device := d.modLeg l liftWaitRecord

/-- Return from LIFT_WAIT to STANCE: the wait ends and its count with it (R14, R112; log 19). No touchdown. -/
def waitToStance (r : LegRecord) : LegRecord := { r with state := .stance, wait := 0 }

/-- A leg touches down (R34): its own latch is cleared, the latch of every other leg whose partner mask names it is
set, its progress and counters end, and its stance base becomes its last delivered positions. -/
def touchDown (l : Leg) (d : Device) : Device :=
  d.mapLegs fun m r =>
    if m = l then
      { r with state := .stance, partnerLatch := false, progress := none, landing := 0, clear := 0,
               cleared := false, stanceBase := d.lastPose l }
    else if (d.gaitLeg m).partner.get l then { r with partnerLatch := true }
    else r

/-- At a fresh start every partner latch is set (R21). -/
def setLatches (d : Device) : Device := d.mapLegs fun _ r => { r with partnerLatch := true }

/-- Every leg enters UNSET and takes the values of R20; the master phase becomes 0 and a pending gait index absent
(R8, R15, R99, R100). -/
def unsetLegs (d : Device) : Device :=
  { d with gpe := { d.gpe with waiting := none, phase := 0, legs := .replicate unsetLeg } }

/-! ## Modes and holds -/

def setMode (m : Mode) (d : Device) : Device := { d with mhu := { d.mhu with mode := m } }

/-- The lowering is complete when every leg has reached its sit pose (R101). -/
def loweringComplete (d : Device) : Bool := Leg.all.all fun l => d.reached l (d.tbs.pose.get l).sit

/-- A sit demand (R100). The judgement of R101 made on entry passes the sub-state to SEATED at once when the lowering
is already complete, and MODE_CHANGED is raised once for both changes (R97). -/
def sitDemand (d : Device) : Device :=
  match d.mhu.mode with
  | .unarmed => d
  | .safeSit => d
  | _ =>
    let sub := if d.loweringComplete then SitState.seated else SitState.lowering
    ({ d with mhu := { d.mhu with mode := .safeSit, sit := some sub, stack := [] } }).unsetLegs.raise .modeChanged

/-- The conversion of a leg when a push takes the mode to HOLD (R106). -/
def heldLeg (h : Hold) (l : Leg) (r : LegRecord) : LegRecord :=
  match r.state with
  | .swing => { r with state := .setDown, progress := none }
  | .landing => { r with state := if h = .noGround l then .hang else .setDown, progress := none }
  | _ => r

/-- The record formed from a request and the state at that moment (R103, R105). -/
def holdRecord (h : Hold) (d : Device) : HoldRecord where
  hold := h
  modeAtPush := d.mhu.mode
  gait := d.gpe.current
  phase := d.gpe.phase
  legStates := d.gpe.legs.map (·.state)
  tag := d.upp.lastTag

/-- The record placed on top of the stack; from STAND or WALK the mode becomes HOLD and the legs are converted
(R105, R106), after which MODE_CHANGED is raised (R97). -/
def pushRecord (h : Hold) (d : Device) : Device :=
  let pushed := { d with mhu := { d.mhu with stack := d.mhu.stack ++ [d.holdRecord h] } }
  if d.mhu.mode = .hold then pushed
  else ((pushed.setMode .hold).mapLegs (heldLeg h)).raise .modeChanged

/-- The judgement of a push request against the stack and the mode (R105). -/
def judgePush (h : Hold) (d : Device) : Device :=
  if d.mhu.mode = .unarmed ∨ d.mhu.mode = .safeSit then d
  else if d.mhu.stack.any (fun r => r.hold = h) then d
  else if Config.holdStackRoom ≤ d.mhu.stack.length then
    (({ d with mhu := { d.mhu with stack := [] } }).raise .holdOverflow).sitDemand
  else d.pushRecord h

end Device

/-- Why a NODE hold is requested (R104, R137, R139). -/
inductive NodeReason where
  | lost | fault
deriving DecidableEq, Repr

def NodeReason.factor : NodeReason → Factor
  | .lost => .nodeLost
  | .fault => .driveFault

/-- A push request (R104). -/
inductive PushRequest where
  | host
  | margin
  | noGround (l : Leg)
  | snag (l : Leg)
  | slip (l : Leg)
  | node (n : Node) (why : NodeReason)
  | limit (j : Joint)
  | linkSilent
deriving DecidableEq, Repr

def PushRequest.hold : PushRequest → Hold
  | .host => .host
  | .margin => .margin
  | .noGround l => .noGround l
  | .snag l => .snag l
  | .slip l => .slip l
  | .node n _ => .node n
  | .limit j => .limit j
  | .linkSilent => .linkSilent

/-- The error factor the Mode and Hold Unit raises at every request (R104). -/
def PushRequest.factor : PushRequest → Option Factor
  | .host => none
  | .margin => some .brace
  | .noGround _ => some .noGround
  | .snag _ => some .snag
  | .slip _ => some .slip
  | .node _ why => some why.factor
  | .limit _ => some .limitFreeze
  | .linkSilent => some .linkSilent

namespace Device

/-- Each LINK_SILENT request also sets frames since silence to 0 (R104). -/
def noteSilence (q : PushRequest) (d : Device) : Device :=
  if q = .linkSilent then { d with mhu := { d.mhu with framesSinceSilence := 0 } } else d

/-- A push request: its factor is raised before it is judged, whatever becomes of it (R104, R105). -/
def request (q : PushRequest) (d : Device) : Device :=
  ((match q.factor with | some f => d.raise f | none => d).noteSilence q).judgePush q.hold

/-- The requests of a list, judged one after the other (R105). -/
def requestAll (qs : List PushRequest) (d : Device) : Device := qs.foldl (fun d q => d.request q) d

/-! ## Gait selection -/

/-- A gait is adopted or selected: it becomes the current gait, the pending index becomes absent, the master phase
becomes its E, every partner latch is set and GAIT_ADOPTED is raised (R16, R17, R21). -/
def adopt (g : Fin 8) (d : Device) : Device :=
  (({ d with gpe := { d.gpe with current := g, waiting := none, phase := (d.tbs.gaitAt g).record.e } }).setLatches).raise
    .gaitAdopted

/-- A gait is refused (R16, R17): GAIT_REFUSED is raised and the pending index becomes absent. -/
def refuseGait (d : Device) : Device := ({ d with gpe := { d.gpe with waiting := none } }).raise .gaitRefused

/-- A gait index judged at once by its record's valid flag (R17). -/
def selectGait (g : Fin 8) (d : Device) : Device := if (d.tbs.gaitAt g).valid then d.adopt g else d.refuseGait

/-- The mode becomes STAND: MODE_CHANGED is raised and a pending gait index is then judged (R17, R102, R112). -/
def enterStand (d : Device) : Device :=
  let d := (d.setMode .stand).raise .modeChanged
  match d.gpe.waiting with
  | some g => d.selectGait g
  | none => d

/-- The stop is complete when a stop is pending and every leg is in STANCE (R41). -/
def completeStop (d : Device) : Device := if d.stopPending && d.allInStance then d.enterStand else d

/-! ## Resets -/

/-- A power-up-class reset begins: every block takes its power-up-class values, the factors are cleared and ALERT is
released (R145, R164; log 40). The reset cause record is written only when the reset ends (log 7). -/
def beginReset (cause : PowerCause) (d : Device) : Device where
  tbs := tablesAtPowerUp
  gpe := engineAtReset
  bal := balanceAtReset
  cfl := .replicate filterAtReset
  lcc := composerAtReset
  mhu := modeAtReset
  llc := .replicate (linkAtReset defaultLinkConfig)
  nsv := supervisorAtReset
  upp := portAtReset
  eeu := { factors := clearFactorTable
           resetCause := d.eeu.resetCause
           resetting := if d.eeu.resetting.contains cause then d.eeu.resetting else d.eeu.resetting ++ [cause]
           alert := false }
  freeCount := d.freeCount

/-- Every limb link is enabled: it takes the link config into its settings and enters PREAMBLE (R120); the rest of a
controller stands at its reset value (R115). -/
def enableLinks (d : Device) : Device :=
  { d with llc := .replicate (linkAtReset d.tbs.linkConfig) }

/-- A power-up-class reset ends and the part begins to run: the links are enabled, the reset cause record is written
and RESET_DONE is raised (R120, R164). -/
def endReset (cause : ResetCause) (d : Device) : Device :=
  ({ d.enableLinks with eeu := { d.eeu with resetCause := cause, resetting := [] } }).raise .resetDone

/-- The RESTART reset (R160): every block takes its RESTART values; the tables, their valid flags and the device
config are kept (R6, R89, R91, R92, R116, R162); the limb links are cut and enabled anew (R120, R131). -/
def restartReset (d : Device) : Device :=
  raise .resetDone
    { tbs := d.tbs
      gpe := engineAtReset
      bal := balanceAtReset
      cfl := .replicate filterAtReset
      lcc := composerAtReset
      mhu := modeAtReset
      llc := .replicate (linkAtReset d.tbs.linkConfig)
      nsv := supervisorAtReset
      upp := portAtReset
      eeu := { d.eeu with factors := clearFactorTable, resetCause := .restartRequest }
      freeCount := d.freeCount }

end Device

/-! ## The shapes of a step -/

/-- A command whose whole effect is on the device. -/
def State.onDevice (s : State) (f : Device → Device) : Host.Outcome State Fault Refusal :=
  .next { s with dev := f s.dev }

/-- While a power-up-class reset is in progress the part does not run, and a command has no effect (R145, R164;
log 5). -/
def State.whenRunning (s : State) (o : Host.Outcome State Fault Refusal) : Host.Outcome State Fault Refusal :=
  if s.dev.running then o else .next s

/-- An event of the part's own timing: it happens only where the state makes it possible (log 8). -/
def State.whenPossible (s : State) (possible : Bool) (f : Device → Device) : Host.Outcome State Fault Refusal :=
  s.whenRunning (if possible then s.onDevice f else .fault .eventImpossible)

end Sys2Proof.Machine
end

