-- ==== Sys2Proof/Machine/Balance.lean ====
section
/-!
DEFINITION. The Balance Unit (chapter 4): the margin of a support set, the margins of a cycle and the brace check.
-/

namespace Sys2Proof.Machine

/-- The projected centre of mass (R60). -/
def projection (b : BodyState) : Point where
  x := b.com.x + (b.height * b.pitch).tdiv 4096
  y := b.com.y + -((b.height * b.roll).tdiv 4096)

/-- The fixed order in which the feet of a set are taken (R61). -/
def footOrder : List Leg := [.fl, .rl, .rr, .fr]

/-- The feet of a set in that order; a leg not in the set is skipped (R61). -/
def feetOf (b : BodyState) (s : LegSet) : List Point := (footOrder.filter s.get).map b.feet.get

/-- Pairs of consecutive feet; the last is followed by the first (R61). -/
def edgesOf : List Point → List (Point × Point)
  | [] => []
  | p :: ps => (p :: ps).zip (ps ++ [p])

/-- One product of the doubled signed area (R62). -/
def areaTerm (e : Point × Point) : Int := e.1.x * e.2.y - e.2.x * e.1.y

/-- The doubled signed area of the ordered polygon (R62). -/
def doubledArea (feet : List Point) : Int := ((edgesOf feet).map areaTerm).sum

def crossOf (p a b : Point) : Int := (b.x - a.x) * (p.y - a.y) - (b.y - a.y) * (p.x - a.x)

def edgeLength (a b : Point) : Nat := isqrt ((b.x - a.x) ^ 2 + (b.y - a.y) ^ 2).toNat

/-- The signed distance of an edge, truncated toward zero; an edge of length 0 is skipped (R63). -/
def edgeDistance (p : Point) (e : Point × Point) : Option Int :=
  if edgeLength e.1 e.2 = 0 then none else some ((crossOf p e.1 e.2).tdiv (edgeLength e.1 e.2))

/-- A margin and whether its computation found the set degenerate (R62, R70). -/
structure Margin where
  value      : Int
  degenerate : Bool
deriving DecidableEq, Repr

def clampMargin (x : Int) : Int := clampAbs Config.marginLimit x

/-- The margin of three or four feet (R62, R63, R64). A set that passes the orientation check has an edge of length
above 0, so the case of no distance does not arise. -/
def polygonMargin (p : Point) (feet : List Point) : Margin :=
  if doubledArea feet ≤ 0 then { value := Config.noMargin, degenerate := true }
  else match (edgesOf feet).filterMap (edgeDistance p) with
    | [] => { value := Config.noMargin, degenerate := false }
    | x :: xs => { value := clampMargin (xs.foldl min x), degenerate := false }

/-- The margin of two feet (R65). -/
def pairMargin (p a b : Point) : Int :=
  if edgeLength a b = 0 then Config.noMargin
  else clampMargin (-((crossOf p a b).natAbs / edgeLength a b : Nat))

/-- The margin of a set of legs (R61, R66). -/
def marginOf (body : Option BodyState) (s : LegSet) : Margin :=
  match body with
  | none => { value := Config.noMargin, degenerate := false }
  | some b =>
    match feetOf b s with
    | [] => { value := Config.noMargin, degenerate := false }
    | [_] => { value := Config.noMargin, degenerate := false }
    | [p, q] => { value := pairMargin (projection b) p q, degenerate := false }
    | feet => polygonMargin (projection b) feet

namespace Device

/-- The margin of the support set with one leg removed (R26, R68, R69). A leg that is not in the set leaves it as it
is. -/
def marginWithout (d : Device) (l : Leg) : Margin := marginOf d.bal.body (d.supportSet.set l false)

/-- The answer to the engine's request, with POLY_DEGENERATE raised when its computation finds the set degenerate;
nothing is stored (R69, R70). -/
def askMargin (l : Leg) (d : Device) : Int × Device :=
  ((d.marginWithout l).value, d.raiseIf (d.marginWithout l).degenerate .polyDegenerate)

/-- The prospective margin of one leg at a cycle: computed for a supporting leg, copied for another (R68). -/
def prospectiveOf (d : Device) (current : Margin) (l : Leg) : Margin :=
  if d.supporting l then d.marginWithout l else { value := current.value, degenerate := false }

/-- The current margin and the four prospective margins of a cycle, each degenerate computation raising
POLY_DEGENERATE once (R67, R68, R70). -/
def computeMargins (d : Device) : Device :=
  let current := marginOf d.bal.body d.supportSet
  let ahead : PerLeg Margin := PerLeg.ofFn (d.prospectiveOf current)
  ({ d with bal := { d.bal with current := current.value, prospective := ahead.map Margin.value } }).raiseAll
    ((current :: ahead.toList).flatMap fun (m : Margin) => if m.degenerate then [.polyDegenerate] else [])

/-- The brace check (R71). -/
def braceCheck (d : Device) : Device :=
  if (d.mhu.mode = .stand ∨ d.mhu.mode = .walk ∨ d.mhu.mode = .hold) ∧ d.bal.current < d.tbs.deviceConfig.mBrace then
    d.request .margin
  else d

/-- A new body state from an accepted frame (R58, R59). -/
def takeBody (b : BodyState) (d : Device) : Device :=
  { d with bal := { d.bal with body := some b, freshness := .fresh, age := 0 } }

/-- The silence timer of the Upstream Port runs out (R59). -/
def staleBody (d : Device) : Device :=
  { d with bal := { d.bal with freshness := if d.bal.freshness = .fresh then .stale else d.bal.freshness } }

/-- A local cycle ages the body state (R59). -/
def ageBody (d : Device) : Device := { d with bal := { d.bal with age := saturate d.bal.age } }

end Device

end Sys2Proof.Machine
end

