-- ==== Sys2Proof/Machine/NodeRequests.lean ====
section
/-!
DEFINITION. What the Node Supervisor asks of the Mode and Hold Unit (R137, R139), and its judgement of masks (R141).
-/

namespace Sys2Proof.Machine

namespace FaultSet

def zip (f : Bool → Bool → Bool) (a b : FaultSet) : FaultSet :=
  ⟨f a.overcurrent b.overcurrent, f a.openPhase b.openPhase, f a.encoder b.encoder, f a.overtemp b.overtemp,
   f a.undervolt b.undervolt, f a.nodeLost b.nodeLost, f a.sensorFault b.sensorFault⟩

def union : FaultSet → FaultSet → FaultSet := zip (· || ·)

def inter : FaultSet → FaultSet → FaultSet := zip (· && ·)

/-- The categories of the first set that are not in the second. -/
def diff : FaultSet → FaultSet → FaultSet := zip (fun a b => a && !b)

def any (s : FaultSet) : Bool :=
  s.overcurrent || s.openPhase || s.encoder || s.overtemp || s.undervolt || s.nodeLost || s.sensorFault

end FaultSet

namespace Device

/-- The fault mask that applies to a node: that of its joint record for a drive, never to NODE_LOST; none for a foot
node (R98, R141). -/
def maskOf (d : Device) (n : Node) : FaultSet :=
  match n.slot.joint with
  | some i => { (d.tbs.jointAt ⟨n.leg, i⟩).faultMask with nodeLost := false }
  | none => noFaults

/-- The latched categories of a node that are unmasked (R141). -/
def unmasked (d : Device) (n : Node) : FaultSet := (d.node n).latched.diff (d.maskOf n)

def inFlight (d : Device) (l : Leg) : Bool := d.legState l = .swing || d.legState l = .landing

/-- The reaction to a fault or loss of a drive: a NODE request when its leg is supporting or in SWING or LANDING,
and otherwise the factor alone (R137). -/
def driveReaction (n : Node) (why : NodeReason) (d : Device) : Device :=
  if d.supporting n.leg || d.inFlight n.leg then d.request (.node n why) else d.raise why.factor

/-- The judgement of a NODE request for a foot node (R139). -/
def footReaction (l : Leg) (why : NodeReason) (d : Device) : Device :=
  if d.inFlight l then d.request (.node ⟨l, .foot⟩ why) else d.raise why.factor

/-- The third event of R139: the engine has moved the leg into SWING or LANDING while its foot node is not live or
reports SENSOR_FAULT. -/
def footEntryJudgement (l : Leg) (d : Device) : Device :=
  if !(d.node ⟨l, .foot⟩).live then d.footReaction l .lost
  else if (d.node ⟨l, .foot⟩).reported.sensorFault then d.footReaction l .fault
  else d

end Device

end Sys2Proof.Machine
end

