-- ==== Sys2Proof/Machine/Gait.lean ====
section
/-!
DEFINITION. The Gait Phase Engine (chapters 1 and 2): the counter update of a cycle, the phase step, the gait index
and the walk flag of an accepted frame, and the engine's answer to a contact change.
-/

namespace Sys2Proof.Machine.Device

/-! ## Counting cycles (R24) -/

/-- LIFT_WAIT: the wait counter rises, and LIFT_STARVED is raised as it passes T_wait (R24, R30). -/
def countWait (l : Leg) (d : Device) : Device :=
  (d.modLeg l fun r => { r with wait := countUp 4096 r.wait }).raiseIf
    (d.gaitRecord.tWait ≠ 0 && (d.leg l).wait = d.gaitRecord.tWait
      && countUp 4096 (d.leg l).wait = d.gaitRecord.tWait + 1)
    .liftStarved

/-- SWING: while the leg is not cleared its clear counter rises until it reaches T_clear, and at that update a foot
in contact PRESENT requests hold SNAG (R24, R31; log 20). -/
def countClear (l : Leg) (d : Device) : Device :=
  if (d.leg l).cleared ∨ d.tbs.deviceConfig.tClear ≤ (d.leg l).clear then d
  else
    let next := countUp 15 (d.leg l).clear
    let d' := d.modLeg l fun r => { r with clear := next }
    if next = d.tbs.deviceConfig.tClear ∧ d.contact l = .present then d'.request (.snag l) else d'

/-- LANDING: the landing counter rises, and the leg is judged for no ground (R24, R36). -/
def countLanding (l : Leg) (d : Device) : Device :=
  let next := countUp 255 (d.leg l).landing
  let d' := d.modLeg l fun r => { r with landing := next }
  if d.gaitRecord.tLand ≤ next ∨ d.reached l (d.tbs.pose.get l).reach then d'.request (.noGround l) else d'

/-- SETDOWN: a leg whose set-down pose has been delivered and whose contact is PRESENT touches down (R24, R39). -/
def judgeSetDown (l : Leg) (d : Device) : Device :=
  if d.reached l (d.tbs.pose.get l).setDown ∧ d.contact l = .present then d.touchDown l else d

/-- The update of one leg, by its state as its turn comes (R24; log 39). -/
def updateCounter (l : Leg) (d : Device) : Device :=
  match d.legState l with
  | .liftWait => d.countWait l
  | .swing => d.countClear l
  | .landing => d.countLanding l
  | .setDown => d.judgeSetDown l
  | .stance => d
  | .hang => d
  | .unset => d

/-- The counter update of a cycle, in leg order (R24). -/
def updateCounters (d : Device) : Device := Leg.all.foldl (fun d l => d.updateCounter l) d

/-! ## Lifting (R26 to R29) -/

/-- Conditions 1 to 4 of R26. -/
def mayAskToLift (d : Device) (l : Leg) : Bool :=
  d.legState l = .liftWait && d.mhu.mode = .walk && !d.stopPending
  && d.contact l ≠ .unknown
  && Leg.all.all (fun m => !(d.gaitLeg l).prereq.get m || d.supporting m)
  && (!(d.gaitLeg l).partner.toList.any id || (d.leg l).partnerLatch)

/-- The leg record of a leg granted lift (R29). -/
def liftedLeg (contact : Contact) (pose : Option Pose) (r : LegRecord) : LegRecord :=
  { r with
    state := .swing
    progress := some 0
    liftoff := pose
    partnerLatch := false
    touchdownTarget := none
    clear := 0
    cleared := contact = .absent
    wait := 0 }

/-- A leg granted lift enters SWING (R29); the supervisor then judges its foot node (R139). -/
def grantLift (l : Leg) (d : Device) : Device :=
  (d.modLeg l (liftedLeg (d.contact l) (d.lastPose l))).footEntryJudgement l

/-- A permission attempt (R26): the margin is asked for only when the earlier conditions hold. -/
def tryLift (l : Leg) (d : Device) : Device :=
  if d.mayAskToLift l then
    if d.gaitRecord.mLift ≤ (d.askMargin l).1 then (d.askMargin l).2.grantLift l else (d.askMargin l).2
  else d

/-! ## The phase step (R9 to R14, R16) -/

/-- Every leg in STANCE whose lift point equals the master phase enters LIFT_WAIT (R11 stage 2, R16, R25). -/
def liftPointsUnderfoot (d : Device) : Device :=
  if d.stopPending then d
  else d.mapLegs fun l r => if r.state = .stance ∧ (d.gaitLeg l).liftPoint = d.gpe.phase then liftWaitRecord r else r

/-- Stage 1 of R11: a pending gait is judged when every leg is in STANCE (R16). -/
def stageAdoption (d : Device) : Device :=
  match d.gpe.waiting with
  | none => d
  | some g =>
    if d.allInStance then
      if (d.tbs.gaitAt g).valid then (d.adopt g).liftPointsUnderfoot else d.refuseGait
    else d

/-- While a stop is pending every leg in LIFT_WAIT returns to STANCE (R14). -/
def returnWaiting (d : Device) : Device :=
  d.mapLegs fun _ r => if r.state = .liftWait then waitToStance r else r

/-- Stage 3 of R11: permission attempts in leg order, or the returns of a pending stop (R14, R27, R41). -/
def stagePermission (d : Device) : Device :=
  if d.stopPending then d.returnWaiting.completeStop else Leg.all.foldl (fun d l => d.tryLift l) d

/-- A leg is in LIFT_WAIT or LANDING: the master stalls (R12). -/
def stalled (d : Device) : Bool := Leg.all.any fun l => d.legState l = .liftWait || d.legState l = .landing

/-- The event point of a leg (R10). -/
def eventPoint (d : Device) (l : Leg) : Option Nat :=
  match d.legState l with
  | .stance => if d.stopPending then none else some (d.gaitLeg l).liftPoint
  | .swing => some ((d.gaitLeg l).touchdownPoint d.gaitRecord.n)
  | _ => none

/-- The distance of a leg's event point from the master, when the point differs from it (R10). -/
def eventDistance (d : Device) (l : Leg) : Option Nat :=
  match d.eventPoint l with
  | none => none
  | some p =>
    let k := ringDistance d.gaitRecord.n d.gpe.phase p
    if k = 0 then none else some k

/-- The advance: the smaller of the effective step and the least distance of an event point (R10). While a stop is
pending the master advances only while some leg is in SWING (R14). -/
def advanceOf (d : Device) (step : Nat) : Nat :=
  if d.stopPending ∧ ¬ Leg.all.any (fun l => d.legState l = .swing) then 0
  else (Leg.all.filterMap d.eventDistance).foldl min step

/-- The master, and with it the progress of every leg in SWING, advances (R11 stage 5, R13). -/
def advanceBy (k : Nat) (d : Device) : Device :=
  let d' := d.mapLegs fun _ r => if r.state = .swing then { r with progress := r.progress.map (· + k) } else r
  { d' with gpe := { d'.gpe with phase := (d.gpe.phase + k) % d.gaitRecord.n } }

/-- A leg in SWING at its touchdown point without contact enters LANDING (R33). -/
def enterLanding (l : Leg) (d : Device) : Device :=
  (d.modLeg l fun r => { r with state := .landing, landing := 0, progress := none }).footEntryJudgement l

/-- The judgement of one leg at the stopping point (R11 stage 6, R33). It is made of every such leg: a hold taken at an
earlier leg's judgement has converted the legs that were in SWING, and refuses the lift of a leg in STANCE, which
stays in LIFT_WAIT (R26; log 14). -/
def judgeAtPoint (l : Leg) (d : Device) : Device :=
  match d.legState l with
  | .stance => (d.enterLiftWait l).tryLift l
  | .swing => if d.contact l = .present then d.touchDown l else d.enterLanding l
  | _ => d

/-- Stages 5 and 6 of R11: the advance, then the judgement in leg order of every leg whose event point is the
stopping point; a stop may then be complete (R41). -/
def stageAdvance (step : Nat) (d : Device) : Device :=
  let k := d.advanceOf step
  let stopped := Leg.all.filter fun l => d.eventDistance l = some k
  (stopped.foldl (fun d l => d.judgeAtPoint l) (d.advanceBy k)).completeStop

/-- The effective step (R9). -/
def effectiveStep (d : Device) (step : Nat) : Nat :=
  if d.derate then min step d.tbs.deviceConfig.deltaDerate else step

/-- One phase step (R11). It ends at a stop completed at stage 3 (R41) and at a stall (R12). -/
def phaseStep (step : Nat) (d : Device) : Device :=
  let d3 := d.stageAdoption.liftPointsUnderfoot.stagePermission
  if d3.mhu.mode ≠ .walk then d3
  else if d3.stalled then d3
  else d3.stageAdvance (d3.effectiveStep step)

/-! ## The gait index and the walk flag of an accepted frame -/

/-- The gait index of an accepted frame, by mode (R15, R17). -/
def takeGaitIndex (g : Fin 8) (d : Device) : Device :=
  match d.mhu.mode with
  | .unarmed => { d with gpe := { d.gpe with current := g } }
  | .stand => if g = d.gpe.current then d else d.selectGait g
  | .walk => { d with gpe := { d.gpe with waiting := if g = d.gpe.current then none else some g } }
  | .hold => { d with gpe := { d.gpe with waiting := if g = d.gpe.current then none else some g } }
  | .safeSit => d

/-- The walk flag of an accepted frame, by mode (R102, R17; log 37). In WALK the flag itself is the pending stop (R14).
-/
def takeWalkFlag (w : Bool) (d : Device) : Device :=
  let d := { d with mhu := { d.mhu with walkFlag := w } }
  if d.mhu.mode = .stand ∧ w = true then
    if d.gaitEntry.valid then (d.setMode .walk).raise .modeChanged else d.raise .gaitRefused
  else d

/-! ## Contact changes (R32, R35, R37, R39, R40) -/

/-- The early-touchdown threshold (R32). -/
def earlyThreshold (d : Device) (l : Leg) : Nat := (d.gaitLeg l).swing * d.gaitRecord.sEarly / 16

/-- A leg in SWING whose contact changes (R31, R32). -/
def swingContact (l : Leg) (new : Contact) (d : Device) : Device :=
  match new with
  | .absent => d.modLeg l fun r => { r with cleared := true }
  | .unknown => d
  | .present =>
    if (d.leg l).cleared then
      if d.earlyThreshold l ≤ (d.leg l).progress.getD 0 then (d.touchDown l).raise .touchdownEarly
      else d.raise .scuff
    else d

/-- What the engine does with a change of contact, by the leg's state; the filter already holds the new state.
A touchdown may complete a pending stop (R41, R52). -/
def contactChange (l : Leg) (new : Contact) (d : Device) : Device :=
  match d.legState l with
  | .stance => if new = .absent then d.raise .unload else d
  | .liftWait => if new = .absent then d.raise .unload else d
  | .swing => (d.swingContact l new).completeStop
  | .landing => if new = .present then (d.touchDown l).completeStop else d
  | .setDown => if new = .present then d.touchDown l else d
  | .hang => d
  | .unset => d

end Sys2Proof.Machine.Device
end

