-- ==== Sys2Proof/Machine/Filters.lean ====
section
/-!
DEFINITION. The Contact Filters (chapter 3).
-/

namespace Sys2Proof.Machine

/-- An entry joins a window as its newest, and the oldest leaves (R43). -/
def Window.push (w : Window) (b : Bool) : Window := ⟨w.middle, w.newest, b⟩

/-- The number of set entries of a window. -/
def Window.count (w : Window) : Nat := w.oldest.toNat + w.middle.toNat + w.newest.toNat

/-- PRESENT when two or three samples are 1 (R43). -/
def Window.majority (w : Window) : Contact := if 2 ≤ w.count then .present else .absent

def Window.unanimous (w : Window) : Bool := w.oldest == w.middle && w.middle == w.newest

/-- The sample a load gives, with hysteresis on the newest sample in the window (R47). -/
def sampleOf (c : DeviceConfig) (w : Window) (load : Nat) : Bool :=
  if c.tOn ≤ load then true else if load ≤ c.tOff then false else w.newest

namespace Device

def modFilter (l : Leg) (f : FilterRecord → FilterRecord) (d : Device) : Device :=
  { d with cfl := d.cfl.modify l f }

/-- The contact state is formed; a change is handed to the Gait Phase Engine at once (R48, R52). -/
def formContact (l : Leg) (new : Contact) (d : Device) : Device :=
  let d' := d.modFilter l fun r => { r with contact := new }
  if d.contact l = new then d' else d'.contactChange l new

/-- A sample joins the window: the chatter judgement is made and the majority formed again (R47, R50). -/
def takeSample (l : Leg) (load : Nat) (d : Device) : Device :=
  let w := (d.cfl.get l).samples.push (sampleOf d.tbs.deviceConfig (d.cfl.get l).samples load)
  (d.modFilter l fun r =>
    { r with samples := w, majority := w.majority
             chatter := if w.unanimous then r.chatter else saturate r.chatter }).raiseIf (!w.unanimous) .chatter

/-- The slip judgement after a shear flag has been entered (R54). -/
def judgeSlip (l : Leg) (d : Device) : Device :=
  let r := d.cfl.get l
  if r.shear.count < 2 then d.modFilter l fun r => { r with slipReported := false }
  else if r.slipReported then d
  else if d.supporting l then (d.modFilter l fun r => { r with slipReported := true }).request (.slip l)
  else d

/-- One good foot reply, in the order of R51. -/
def filterReply (l : Leg) (reply : FootReply) (d : Device) : Device :=
  if reply.sensorFault then (d.modFilter l fun r => { r with faultSeen := true }).formContact l .unknown
  else
    let d := d.modFilter l fun r => { r with faultSeen := false, lastLoad := reply.load }
    let d := d.takeSample l reply.load
    let d := d.formContact l (d.cfl.get l).majority
    let d := d.modFilter l fun r => { r with shear := r.shear.push reply.shear }
    d.judgeSlip l

/-- The foot node becomes not live: the contact state becomes UNKNOWN and the rest stands (R49). -/
def loseFoot (l : Leg) (d : Device) : Device := d.formContact l .unknown

end Device

end Sys2Proof.Machine
end

