-- ==== Sys2Proof/Machine/Supervise.lean ====
section
/-!
DEFINITION. The Node Supervisor (chapter 8): liveness and faults from slot outcomes, the supply estimate, the supply
levels and their actions.
-/

namespace Sys2Proof.Machine

/-- A report counts while its age is 0..3 and its drive is live (R142). -/
def countingReport (n : NodeRecord) (v : VoltageReport) : Option Nat :=
  if n.live ∧ v.age ≤ 3 then some v.volts else none

/-- The state of a level after a forming of the estimate (R143). -/
def levelAfter (level : Level) (limit hysteresis : Nat) (estimate : Option Nat) : Level :=
  match level, estimate with
  | .normal, some v => if v < limit then .low else .normal
  | .normal, none => .normal
  | .low, some v => if limit + hysteresis ≤ v then .normal else .low
  | .low, none => .normal

namespace Device

def modNode (n : Node) (f : NodeRecord → NodeRecord) (d : Device) : Device :=
  { d with nsv := { d.nsv with nodes := d.nsv.nodes.modify n.leg fun s => s.modify n.slot f } }

def modVoltage (j : Joint) (f : VoltageReport → VoltageReport) (d : Device) : Device :=
  { d with nsv := { d.nsv with voltages := d.nsv.voltages.modify j.leg fun s => s.modify j.ix f } }

/-! ## The supply (R142 to R144) -/

/-- The counting reports of the twelve drives (R142). -/
def countingReports (d : Device) : List Nat :=
  Joint.all.filterMap fun j =>
    countingReport (d.node ⟨j.leg, j.ix.slot⟩) ((d.nsv.voltages.get j.leg).get j.ix)

/-- The least of the counting reports, or none (R142). -/
def leastReport (d : Device) : Option Nat :=
  match d.countingReports with
  | [] => none
  | v :: vs => some (vs.foldl min v)

/-- The action of a level that becomes LOW (R144). DERATE is read from the level states. -/
def supplyAction (a : SupplyAction) (d : Device) : Device :=
  match a with
  | .flag => d.raise .supplyLow
  | .derate => d.raise .supplyLow
  | .sit => (d.raise .supplySit).sitDemand

/-- The judgement of level 1 (R143). -/
def judgeLevel1 (d : Device) : Device :=
  let c := d.tbs.deviceConfig
  let next := levelAfter d.nsv.level1 c.v1 c.vh d.nsv.estimate
  let d' := { d with nsv := { d.nsv with level1 := next } }
  if d.nsv.level1 = .normal ∧ next = .low then d'.supplyAction c.action1 else d'

/-- The judgement of level 2 (R143). -/
def judgeLevel2 (d : Device) : Device :=
  let c := d.tbs.deviceConfig
  let next := levelAfter d.nsv.level2 c.v2 c.vh d.nsv.estimate
  let d' := { d with nsv := { d.nsv with level2 := next } }
  if d.nsv.level2 = .normal ∧ next = .low then d'.supplyAction c.action2 else d'

/-- The estimate is formed again and the levels are judged against it, level 1 first (R142, R143). -/
def formEstimate (d : Device) : Device :=
  ({ d with nsv := { d.nsv with estimate := d.leastReport } }).judgeLevel1.judgeLevel2

/-! ## Slot outcomes (R135 to R139) -/

/-- A good outcome makes the node live and ends its run of misses (R135). -/
def goodOutcome (n : Node) (d : Device) : Device := d.modNode n fun r => { r with live := true, misses := 0 }

/-- The categories a reply carries become the reported set and join the latched set (R136, R139). -/
def takeFaults (n : Node) (s : FaultSet) (d : Device) : Device :=
  d.modNode n fun r => { r with reported := s, latched := r.latched.union s }

/-- The categories a reply newly latches (R136). -/
def newlyLatched (d : Device) (n : Node) (s : FaultSet) : FaultSet := s.diff (d.node n).latched

/-- The reaction to what a drive reply newly latched (R137): OVERTEMP raises its factor; the unmasked others make one
reaction together. -/
def reactToDrive (n : Node) (newly : FaultSet) (d : Device) : Device :=
  let others := { newly.diff (d.maskOf n) with overtemp := false }
  let d := d.raiseIf newly.overtemp .overtemp
  if others.any then d.driveReaction n .fault else d

/-- A good drive reply, as the supervisor takes it: outcome, reported set and voltage at the same moment, then the
reactions, then the estimate (R135 to R137, R142; log 15). -/
def superviseDrive (j : Joint) (reply : DriveReply) (d : Device) : Device :=
  let n : Node := ⟨j.leg, j.ix.slot⟩
  let newly := d.newlyLatched n reply.faults
  let d := (d.goodOutcome n).takeFaults n reply.faults
  let d := d.modVoltage j fun _ => { volts := reply.volts, age := 0 }
  (d.reactToDrive n newly).formEstimate

/-- The faults a foot reply reports (R139). -/
def footFaults (reply : FootReply) : FaultSet := { noFaults with sensorFault := reply.sensorFault }

/-- A good foot reply, as the supervisor takes it (R135, R139). The estimate is formed again when the node became
live (R142). -/
def superviseFoot (l : Leg) (reply : FootReply) (d : Device) : Device :=
  let n : Node := ⟨l, .foot⟩
  let wasLive := (d.node n).live
  let newly := d.newlyLatched n (footFaults reply)
  let d := (d.goodOutcome n).takeFaults n (footFaults reply)
  let d := if newly.sensorFault then d.footReaction l .fault else d
  if wasLive then d else d.formEstimate

/-- The loss of a live node at its third consecutive miss (R135): NODE_LOST is latched and reacted to (for a drive
when it was not latched already, R137, log 16; for a foot node at every loss, R139), the estimate is formed again
(R142), and a lost foot node's contact state becomes UNKNOWN (R49). -/
def loseNode (n : Node) (d : Device) : Device :=
  let had := (d.node n).latched.nodeLost
  let d := d.modNode n fun r =>
    { r with live := false, misses := 3, latched := { r.latched with nodeLost := true } }
  match n.slot with
  | .foot => ((d.footReaction n.leg .lost).formEstimate).loseFoot n.leg
  | _ => (if had then d else d.driveReaction n .lost).formEstimate

/-- A missed outcome (R135). -/
def missedOutcome (n : Node) (d : Device) : Device :=
  if (d.node n).misses = 2 ∧ (d.node n).live = true then d.loseNode n
  else d.modNode n fun r => { r with misses := countUp 3 r.misses }

/-- At the end of a transaction the report of each drive of the link that gave no good reply in it ages (R142). -/
def ageReports (l : Leg) (d : Device) : Device :=
  let answered := (d.link l).answered
  { d with nsv := { d.nsv with
      voltages := d.nsv.voltages.modify l fun s =>
        .ofFn fun i => if answered.get i then s.get i else { s.get i with age := countUp 4 (s.get i).age } } }

/-- CLEAR_FAULTS on one node record (R140). -/
def clearedLatches (r : NodeRecord) : FaultSet :=
  { r.latched.inter r.reported with nodeLost := r.latched.nodeLost && !r.live }

/-- CLEAR_FAULTS on all sixteen node records (R140). -/
def clearLatches (d : Device) : Device :=
  { d with nsv := { d.nsv with nodes := d.nsv.nodes.map fun s => s.map fun r => { r with latched := clearedLatches r } } }

end Device

end Sys2Proof.Machine
end

