-- ==== Sys2Proof/Machine/Links.lean ====
section
/-!
DEFINITION. The Limb Link Controllers (chapter 7): the pending slot, the transaction, the echo check, the reply slots
and the hand-on of their outcomes.
-/

namespace Sys2Proof.Machine.Device

def modLink (l : Leg) (f : LinkController → LinkController) (d : Device) : Device :=
  { d with llc := d.llc.modify l f }

/-! ## The pending slot and the start of a transaction (R121, R122) -/

/-- A transaction begins: the command becomes the in-flight command, the settings are copied and the link enters
BREAK (R122). -/
def beginTransaction (l : Leg) (c : LimbCommand) (d : Device) : Device :=
  d.modLink l fun k =>
    { k with state := .lowBreak, inFlight := some c, abandoned := none, settings := d.tbs.linkConfig,
             answered := .replicate false }

/-- The line comes free: a waiting command begins its transaction, or the link becomes IDLE (R120, R129). -/
def lineFree (l : Leg) (d : Device) : Device :=
  match (d.link l).waiting with
  | some c => (d.modLink l fun k => { k with waiting := none }).beginTransaction l c
  | none => d.modLink l fun k => { k with state := .idle }

/-- A finished command is handed to the pending slot (R86, R121). -/
def handOff (l : Leg) (c : LimbCommand) (d : Device) : Device :=
  if (d.link l).state = .idle then d.beginTransaction l c
  else (d.modLink l fun k => { k with waiting := some c }).raiseIf (d.link l).waiting.isSome .cycleOverrun

/-- The bit time at which a cut takes a link that is transmitting: one of the break's 14, or one of the command
frame's 180, and which of them is free (R125; log 30). A frame already abandoned stays so. -/
def cutAt (free : Nat) (k : LinkController) : Option Nat :=
  match k.abandoned with
  | some t => some t
  | none =>
    if k.state = .lowBreak then some (free % 14)
    else if k.state = .sending then some (14 + free % 180)
    else none

/-- DISARM (R86, R125): the waiting command is withdrawn, and a frame in BREAK or SENDING is cut. -/
def cutLink (free : Nat) (k : LinkController) : LinkController :=
  { k with waiting := none, abandoned := cutAt free k }

def cutLinks (d : Device) : Device :=
  { d with llc := .ofFn fun l => cutLink (Config.cutBit (d.freeCount + l.number)) (d.link l)
           freeCount := d.freeCount + 4 }

/-! ## Delivery (R87, R101, R123, R124) -/

/-- The last delivered values after a delivered entry; an absent position changes nothing (R87). -/
def deliveredJoint (e : Entry) (s : JointState) : JointState :=
  match e.position with
  | some x => { s with lastPosition := some x, lastStiffness := e.stiffness }
  | none => s

def modLane (l : Leg) (f : Lane → Lane) (d : Device) : Device :=
  { d with lcc := { d.lcc with lanes := d.lcc.lanes.modify l f } }

/-- The delivered report to the lane (R87). -/
def deliver (l : Leg) (c : LimbCommand) (d : Device) : Device :=
  d.modLane l fun lane => { lane with joints := .ofFn fun i => deliveredJoint (c.get i) (lane.joints.get i) }

/-- The judgement of SAFE_SIT after a delivery (R101). -/
def judgeLowering (d : Device) : Device :=
  if d.mhu.mode = .safeSit ∧ d.mhu.sit = some .lowering ∧ d.loweringComplete = true then
    ({ d with mhu := { d.mhu with sit := some .seated } }).raise .modeChanged
  else d

/-- The command frame has been sent whole with a clean echo (R123): the report precedes the replies. -/
def commandDelivered (l : Leg) (c : LimbCommand) (d : Device) : Device :=
  ((d.deliver l c).modLink l fun k =>
    { k with inFlight := none, state := .slot .ha, buffer := [], tail := quietLine, early := 0 }).judgeLowering

/-- The end of a transaction for the supply watch: the reports age and the estimate is formed again (R142). -/
def transactionEnded (l : Leg) (d : Device) : Device := (d.ageReports l).formEstimate

/-- The end of the character of an abandoned or cut frame (R87, R124, R125): not delivered is reported, the waiting
command is withdrawn and the link becomes IDLE. -/
def frameAbandoned (l : Leg) (d : Device) : Device :=
  (d.modLink l fun k =>
    { k with inFlight := none, waiting := none, abandoned := none, state := .idle }).transactionEnded l

/-- An echo mismatch at a bit time abandons the frame, counts it and raises LIMB_BIT_ERROR (R124). -/
def abandonFrame (l : Leg) (bitTime : Nat) (d : Device) : Device :=
  (d.modLink l fun k => { k with abandoned := some bitTime, bitErrors := saturate k.bitErrors }).raise .limbBitError

/-! ## The reply slots (R126 to R129) -/

/-- A good drive reply reaches the lane: the reported position, and the last delivered position when it is unknown
(R88). -/
def reportedJoint (x : Int) (s : JointState) : JointState :=
  match s.lastPosition with
  | some _ => { s with reported := some x }
  | none => { s with reported := some x, lastPosition := some x, lastStiffness := 0 }

def takePosition (j : Joint) (x : Int) (d : Device) : Device :=
  d.modLane j.leg fun lane => { lane with joints := lane.joints.modify j.ix (reportedJoint x) }

/-- The controller's own count of a judgement (R127). -/
def countSlot (l : Leg) (s : Slot) (j : SlotJudgement) (d : Device) : Device :=
  match j with
  | .good noisy => d.modLink l fun k => { k with noise := if noisy then saturate k.noise else k.noise }
  | .crcFailed => (d.modLink l fun k => { k with missTotals := k.missTotals.modify s saturate }).raise .replyCrc
  | _ => d.modLink l fun k => { k with missTotals := k.missTotals.modify s saturate }

/-- The judgement is handed on: to the Node Supervisor for every slot, then a good reply to the lane or to the
Contact Filter (R128). -/
def handOn (l : Leg) (s : Slot) (j : SlotJudgement) (bs : List Byte) (d : Device) : Device :=
  match j with
  | .good _ =>
    match s.joint with
    | some i =>
      ((d.modLink l fun k => { k with answered := k.answered.set i true }).superviseDrive ⟨l, i⟩ (driveReply bs)).takePosition
        ⟨l, i⟩ (driveReply bs).position
    | none => (d.superviseFoot l (footReply bs)).filterReply l (footReply bs)
  | _ => d.missedOutcome ⟨l, s⟩

/-- The slot after a slot; none after SLOT 3. -/
def nextSlot : Slot → Option Slot
  | .ha => some .hf
  | .hf => some .kn
  | .kn => some .foot
  | .foot => none

/-- A slot has been judged and handed on: the next opens with what the receiver carries over, or the transaction
ends (R126, R129). -/
def closeSlot (l : Leg) (s : Slot) (carried : Carried) (d : Device) : Device :=
  let d := d.modLink l fun k => { k with buffer := [] }
  match nextSlot s with
  | some s' => d.modLink l fun k => { k with state := .slot s', tail := carried.tail, early := carried.early }
  | none => ((d.modLink l fun k => { k with tail := quietLine, early := 0 }).transactionEnded l).lineFree l

/-- The end of a reply slot that brought the characters `cs`, `carried` what the receiver carries over (R126 to
R129). -/
def endSlot (l : Leg) (s : Slot) (cs : List RxChar) (carried : Carried) (d : Device) : Device :=
  let d := d.modLink l fun k => { k with buffer := cs }
  let j := judgeSlot (d.link l).settings ⟨l, s⟩ (d.link l).buffer
  ((d.countSlot l s j).handOn l s j (valuesOf cs)).closeSlot l s carried

end Sys2Proof.Machine.Device
end

