-- ==== Sys2Proof/Machine/Operands.lean ====
section
/-!
DEFINITION. The operands of the commands as bytes (chapter 11): the codes of R171, the body of a cycle frame (R173),
and the table entries (R176), each clamped as the rule of its table says when it is taken in.
-/

namespace Sys2Proof.Machine

/-! ## Codes (R171) -/

def Mode.code : Mode → Nat
  | .unarmed => 0 | .stand => 1 | .walk => 2 | .hold => 3 | .safeSit => 4

def SitState.code : Option SitState → Nat
  | none => 0 | some .lowering => 1 | some .seated => 2

def LegState.code : LegState → Nat
  | .unset => 0 | .stance => 1 | .liftWait => 2 | .swing => 3 | .landing => 4 | .setDown => 5 | .hang => 6

def Contact.code : Contact → Nat
  | .absent => 0 | .present => 1 | .unknown => 2

def Freshness.code : Freshness → Nat
  | .none => 0 | .fresh => 1 | .stale => 2

/-- The cause of a cycle (R154). -/
inductive CycleCause where
  | atFrame | atTimer
deriving DecidableEq, Repr

def CycleCause.code : CycleCause → Nat
  | .atFrame => 0 | .atTimer => 1

def Hold.causeCode : Hold → Nat
  | .host => 1 | .margin => 2 | .noGround _ => 3 | .snag _ => 4 | .slip _ => 5 | .node _ => 6 | .limit _ => 7
  | .linkSilent => 8

/-- The subject of a hold by its leg, node or joint number; none when it is absent (R103). -/
def Hold.subject : Hold → Option Nat
  | .host => none
  | .margin => none
  | .noGround l => some l.number
  | .snag l => some l.number
  | .slip l => some l.number
  | .node n => some n.number
  | .limit j => some j.number
  | .linkSilent => none

def LimitMode.code : LimitMode → Nat
  | .off => 0 | .note => 1 | .clamp => 2 | .freeze => 3

/-- A limit-mode code outside its set is stored as CLAMP (R170). -/
def LimitMode.ofCode : Nat → LimitMode
  | 0 => .off | 1 => .note | 3 => .freeze | _ => .clamp

def SupplyAction.code : SupplyAction → Nat
  | .flag => 0 | .derate => 1 | .sit => 2

/-- An action code outside the set allowed for level 1 is stored as FLAG (R143). -/
def SupplyAction.ofCode1 : Nat → SupplyAction
  | 1 => .derate | _ => .flag

/-- An action code outside the set allowed for level 2 is stored as FLAG (R143). -/
def SupplyAction.ofCode2 : Nat → SupplyAction
  | 1 => .derate | 2 => .sit | _ => .flag

def ClearPolicy.code : ClearPolicy → Nat
  | .explicit => 0 | .readClears => 1

/-- A policy code that names neither policy is stored as EXPLICIT (R162). -/
def ClearPolicy.ofCode : Nat → ClearPolicy
  | 1 => .readClears | _ => .explicit

def ResetCause.code : ResetCause → Nat
  | .powerUp => 0 | .logicBrownout => 1 | .resetPin => 2 | .restartRequest => 3

/-- A target-kind code outside its set is taken as STANCE (R151). -/
def TargetKind.ofCode : Nat → TargetKind
  | 1 => .touchdown | _ => .stance

/-- A value or the absent marker of its width (R170). -/
def byteOrAbsent (x : Option Nat) : List Byte := byte1 (x.getD 0xFF)

def bytes16OrAbsent (x : Option Nat) : List Byte := bytes16 (x.getD 0xFFFF)

/-- Bits as a number, the first bit the least significant. -/
def numberOfBits (bits : List Bool) : Nat := bits.foldr (fun b n => b.toNat + 2 * n) 0

def legMaskByte (m : LegSet) : List Byte := byte1 (numberOfBits m.toList)

/-- A fault set as its byte (R171). -/
def faultByte (s : FaultSet) : List Byte :=
  byte1 (numberOfBits [s.overcurrent, s.openPhase, s.encoder, s.overtemp, s.undervolt, s.nodeLost, s.sensorFault])

/-! ## The cycle frame body (R58, R76, R151, R173) -/

/-- The content of a cycle frame, every field clamped. -/
structure CycleContent where
  tag       : Byte
  step      : Nat
  gait      : Fin 8
  walk      : Bool
  body      : BodyState
  errors    : BodyErrors
  segments  : PerLeg LegSegment
deriving DecidableEq, Repr

/-- A foot position, each coordinate clamped (R58). -/
def footAt (bs : List Byte) (off : Nat) : Point where
  x := clampAbs 2000 (s16 bs off)
  y := clampAbs 2000 (s16 bs (off + 2))

/-- The body state of a cycle frame (R58). -/
def bodyStateOf (bs : List Byte) : BodyState where
  com := { x := clampAbs 500 (s16 bs 4), y := clampAbs 500 (s16 bs 6) }
  height := clampInt 100 800 (s16 bs 8)
  roll := clampAbs 2048 (s16 bs 10)
  pitch := clampAbs 2048 (s16 bs 12)
  feet := .ofFn fun l => footAt bs (14 + 4 * l.number)

/-- Three signed values of two bytes, HA, HF, KN, each clamped to the same bound on either side of 0. -/
def poseAt (bound : Int) (bs : List Byte) (off : Nat) : Pose :=
  .ofFn fun i => clampAbs bound (s16 bs (off + 2 * i.number))

/-- Three stiffnesses (R76, R91). -/
def stiffnessAt (bs : List Byte) (off : Nat) : PerJoint Nat := .ofFn fun i => min (u16 bs (off + 2 * i.number)) 4095

/-- A leg segment (R76). -/
def segmentAt (bs : List Byte) (off : Nat) : LegSegment where
  kind := .ofCode (u8 bs off)
  targets := poseAt Config.angleLimit bs (off + 1)
  stiffness := stiffnessAt bs (off + 7)

/-- The gait index of a cycle frame, clamped to 0..7 (R151). -/
def gaitIndexAt (bs : List Byte) (off : Nat) : Fin 8 := ⟨min (u8 bs off) 7, by omega⟩

/-- The content of a cycle frame (R151, R173). -/
def cycleContent (bs : List Byte) : CycleContent where
  tag := byteAt bs 0
  step := min (u8 bs 1) 64
  gait := gaitIndexAt bs 2
  walk := flagAt bs 3
  body := bodyStateOf bs
  errors := { roll := clampAbs 2048 (s16 bs 30), pitch := clampAbs 2048 (s16 bs 32), height := clampAbs 200 (s16 bs 34) }
  segments := .ofFn fun l => segmentAt bs (36 + 13 * l.number)

/-! ## Table entries (R176) -/

/-- A prerequisite or partner mask: bits 4 to 7 and the leg's own bit are dropped (R3, R170). -/
def maskAt (own : Leg) (bs : List Byte) (off : Nat) : LegSet :=
  .ofFn fun l => (byteAt bs off).getLsbD l.number && l ≠ own

/-- A leg entry of a gait record, clamped (R3). -/
def gaitLegAt (bs : List Byte) (l : Leg) : GaitLeg :=
  let off := 10 + 12 * l.number
  { liftPoint := clampNat 0 4095 (u16 bs off)
    swing := clampNat 1 4095 (u16 bs (off + 2))
    prereq := maskAt l bs (off + 4)
    partner := maskAt l bs (off + 5)
    clearance := poseAt 9000 bs (off + 6) }

/-- A gait record as it is stored (R3). -/
def gaitOfBytes (bs : List Byte) : GaitRecord where
  n := clampNat 16 4096 (u16 bs 0)
  e := clampNat 0 4095 (u16 bs 2)
  mLift := clampInt (-300) 500 (s16 bs 4)
  sEarly := clampNat 0 16 (u8 bs 6)
  tWait := clampNat 0 4095 (u16 bs 7)
  tLand := clampNat 1 255 (u8 bs 9)
  legs := .ofFn (gaitLegAt bs)

/-- Three signed values of two bytes. -/
def poseBytes (p : Pose) : List Byte := bytes16s p.ha ++ bytes16s p.hf ++ bytes16s p.kn

def gaitLegBytes (g : GaitLeg) : List Byte :=
  bytes16 g.liftPoint ++ bytes16 g.swing ++ legMaskByte g.prereq ++ legMaskByte g.partner ++ poseBytes g.clearance

def gaitBytes (r : GaitRecord) : List Byte :=
  bytes16 r.n ++ bytes16 r.e ++ bytes16s r.mLift ++ byte1 r.sEarly ++ bytes16 r.tWait ++ byte1 r.tLand
  ++ (r.legs.toList.map gaitLegBytes).flatten

/-- A joint record as it is stored: lo is clamped before hi, so that lo < hi (R89). Bits 5 to 7 of the fault mask are
dropped (R170). -/
def jointOfBytes (bs : List Byte) : JointRecord :=
  let lo := clampInt (-18000) 17999 (s16 bs 0)
  { lo := lo
    hi := clampInt (lo + 1) 18000 (s16 bs 2)
    stepMax := clampNat 1 3000 (u16 bs 4)
    limitMode := .ofCode (u8 bs 6)
    gj := clampNat 0 1024 (u16 bs 7)
    kr := clampAbs 4096 (s16 bs 9)
    kp := clampAbs 4096 (s16 bs 11)
    kh := clampAbs 4096 (s16 bs 13)
    cMax := clampNat 0 3000 (u16 bs 15)
    faultMask :=
      { overcurrent := (byteAt bs 17).getLsbD 0
        openPhase := (byteAt bs 17).getLsbD 1
        encoder := (byteAt bs 17).getLsbD 2
        overtemp := (byteAt bs 17).getLsbD 3
        undervolt := (byteAt bs 17).getLsbD 4
        nodeLost := false
        sensorFault := false } }

def jointBytes (r : JointRecord) : List Byte :=
  bytes16s r.lo ++ bytes16s r.hi ++ bytes16 r.stepMax ++ byte1 r.limitMode.code ++ bytes16 r.gj
  ++ bytes16s r.kr ++ bytes16s r.kp ++ bytes16s r.kh ++ bytes16 r.cMax ++ faultByte r.faultMask

/-- A pose record as it is stored (R91). -/
def poseOfBytes (bs : List Byte) : PoseRecord where
  setDown := poseAt Config.angleLimit bs 0
  reach := poseAt Config.angleLimit bs 6
  sit := poseAt Config.angleLimit bs 12
  sitStiffness := stiffnessAt bs 18

def poseRecordBytes (p : PoseRecord) : List Byte :=
  poseBytes p.setDown ++ poseBytes p.reach ++ poseBytes p.sit ++ (p.sitStiffness.toList.map bytes16).flatten

/-- A lift profile entry as it is stored (R92). -/
def profileOfBytes (bs : List Byte) : Nat := min (u16 bs 0) 1024

/-- The link config as it is stored: the x⁰ term of the polynomial is added when it is missing (R116). -/
def linkConfigOfBytes (bs : List Byte) : LinkConfig where
  divisor := clampNat 1 255 (u8 bs 0)
  window := clampNat 8 64 (u8 bs 1)
  polynomial := BitVec.ofNat 16 (u16 bs 2) ||| 1#16
  initial := BitVec.ofNat 16 (u16 bs 4)

def linkConfigBytes (c : LinkConfig) : List Byte :=
  byte1 c.divisor ++ byte1 c.window ++ bytes16 c.polynomial.toNat ++ bytes16 c.initial.toNat

/-- The event factors, bits 10 to 30 of a factor set (R171). -/
def eventFactors : FactorSet := 0x7FFFFC00#32

/-- The cycle period in 0.01 ms: clamped, and a value between two quarter-millisecond steps taken as the lower (R147,
R176). -/
def cyclePeriod (x : Nat) : Nat := clampNat 100 800 x / 25 * 25

/-- The device config as it is stored: T_off before T_on (R46), V1 before V2 (R143). -/
def deviceConfigOfBytes (bs : List Byte) : DeviceConfig :=
  let off := clampNat 0 4094 (u16 bs 4)
  let v1 := clampNat 1 1023 (u16 bs 11)
  { deltaDerate := clampNat 0 64 (u8 bs 0)
    tClear := clampNat 1 15 (u8 bs 1)
    tOn := clampNat (off + 1) 4095 (u16 bs 2)
    tOff := off
    mBrace := clampInt (-100) 300 (s16 bs 6)
    hBrace := clampNat 0 100 (u8 bs 8)
    gg := clampNat 0 1024 (u16 bs 9)
    v1 := v1
    action1 := .ofCode1 (u8 bs 13)
    v2 := clampNat 0 (v1 - 1) (u16 bs 14)
    action2 := .ofCode2 (u8 bs 16)
    vh := clampNat 0 100 (u8 bs 17)
    gDerate := clampNat 0 1024 (u16 bs 18)
    tCyc := cyclePeriod (u16 bs 20)
    lSil := clampNat 2 64 (u8 bs 22)
    eventEnables := set32 bs 23 &&& eventFactors
    alertEnable := flagAt bs 27
    errorPolicy := .ofCode (u8 bs 28)
    eventPolicy := .ofCode (u8 bs 29) }

def deviceConfigBytes (c : DeviceConfig) : List Byte :=
  byte1 c.deltaDerate ++ byte1 c.tClear ++ bytes16 c.tOn ++ bytes16 c.tOff ++ bytes16s c.mBrace ++ byte1 c.hBrace
  ++ bytes16 c.gg ++ bytes16 c.v1 ++ byte1 c.action1.code ++ bytes16 c.v2 ++ byte1 c.action2.code ++ byte1 c.vh
  ++ bytes16 c.gDerate ++ bytes16 c.tCyc ++ byte1 c.lSil ++ bytes32 c.eventEnables ++ flagByte c.alertEnable
  ++ byte1 c.errorPolicy.code ++ byte1 c.eventPolicy.code

/-! ## The tables (R157, R176) -/

inductive TableId where
  | gait | joint | pose | liftProfile | linkConfig | deviceConfig
deriving DecidableEq, Repr

def TableId.code : TableId → Nat
  | .gait => 1 | .joint => 2 | .pose => 3 | .liftProfile => 4 | .linkConfig => 5 | .deviceConfig => 6

def TableId.ofCode : Nat → Option TableId
  | 1 => some .gait | 2 => some .joint | 3 => some .pose | 4 => some .liftProfile | 5 => some .linkConfig
  | 6 => some .deviceConfig | _ => none

def TableId.entrySize : TableId → Nat
  | .gait => 58 | .joint => 18 | .pose => 24 | .liftProfile => 2 | .linkConfig => 6 | .deviceConfig => 30

/-- The first index of a table. -/
def TableId.base : TableId → Nat
  | .liftProfile => 1
  | _ => 0

/-- The number of entries of a table. -/
def TableId.entries : TableId → Nat
  | .gait => 8 | .joint => 12 | .pose => 4 | .liftProfile => 15 | .linkConfig => 1 | .deviceConfig => 1

/-- The entries a request names: `count` of them from index `first`. -/
structure EntryRange where
  first : Nat
  count : Nat
deriving DecidableEq, Repr

/-- A range lies within its table's indexes and is not empty (R157). -/
def EntryRange.inTable (r : EntryRange) (t : TableId) : Bool :=
  1 ≤ r.count && t.base ≤ r.first && r.first + r.count ≤ t.base + t.entries

def EntryRange.covers (r : EntryRange) (i : Nat) : Bool := r.first ≤ i && i < r.first + r.count

/-- The indexes of a range, in order. -/
def EntryRange.indexes (r : EntryRange) : List Nat := (List.range r.count).map (r.first + ·)

/-- The bytes of the entry with index `i` in the data of a write. -/
def entryBytesAt (t : TableId) (r : EntryRange) (data : List Byte) (i : Nat) : List Byte :=
  (data.drop ((i - r.first) * t.entrySize)).take t.entrySize

namespace TableStore

/-- The gait table after a write: the entries of the range stored, each with the flag `judge` gives it (R3, R5). -/
def writeGaits (t : TableStore) (r : EntryRange) (data : List Byte) (judge : GaitRecord → Bool) : TableStore :=
  { t with gait := Vector.ofFn fun i =>
      if r.covers i then
        let record := gaitOfBytes (entryBytesAt .gait r data i)
        { record := record, valid := judge record }
      else t.gait.get i }

/-- The joint table after a write (R89); its valid flag is judged again. -/
def writeJoints (t : TableStore) (r : EntryRange) (data : List Byte) : TableStore :=
  judgeJoints
    { t with joint := .ofFn fun l => .ofFn fun i =>
        let j : Joint := ⟨l, i⟩
        if r.covers j.number then jointOfBytes (entryBytesAt .joint r data j.number) else t.jointAt j }

/-- The pose table after a write (R91). -/
def writePoses (t : TableStore) (r : EntryRange) (data : List Byte) : TableStore :=
  { t with pose := .ofFn fun l =>
      if r.covers l.number then poseOfBytes (entryBytesAt .pose r data l.number) else t.pose.get l }

/-- The lift profile after a write (R92); its valid flag is judged. -/
def writeProfile (t : TableStore) (r : EntryRange) (data : List Byte) : TableStore :=
  judgeProfile
    { t with liftProfile := Vector.ofFn fun i =>
        if r.covers (i + 1) then profileOfBytes (entryBytesAt .liftProfile r data (i + 1)) else t.liftProfile.get i }

/-- One entry as stored (R158). -/
def readEntry (t : TableStore) (id : TableId) (i : Nat) : List Byte :=
  match id with
  | .gait => match t.gait.toList[i]? with
    | some g => gaitBytes g.record
    | none => []
  | .joint => match Joint.all[i]? with
    | some j => jointBytes (t.jointAt j)
    | none => []
  | .pose => match Leg.all[i]? with
    | some l => poseRecordBytes (t.pose.get l)
    | none => []
  | .liftProfile => bytes16 (profileAt t.liftProfile i)
  | .linkConfig => linkConfigBytes t.linkConfig
  | .deviceConfig => deviceConfigBytes t.deviceConfig

/-- The valid flags a read carries (R158, R175). -/
def readFlags (t : TableStore) (id : TableId) (r : EntryRange) : List Byte :=
  match id with
  | .gait => r.indexes.flatMap fun i => flagByte ((t.gait.toList[i]?).any GaitEntry.valid)
  | .joint => flagByte t.jointValid
  | .pose => flagByte t.poseValid
  | .liftProfile => flagByte t.liftValid
  | .linkConfig => []
  | .deviceConfig => []

end TableStore

end Sys2Proof.Machine
end

