-- ==== Sys2Proof/Machine/Reports.lean ====
section
/-!
DEFINITION. What the part reports: the body of a status frame (R154, R174) and the sections of a READ_STATE reply
(R161, R177).
-/

namespace Sys2Proof.Machine

namespace Device

/-! ## The status frame (R154, R174) -/

/-- The top record of the hold stack. -/
def topHold (d : Device) : Option HoldRecord := d.mhu.stack.getLast?

/-- The swing progress of a leg as it is reported: absent unless the leg is in SWING (R174). -/
def reportedProgress (d : Device) (l : Leg) : Option Nat :=
  if d.legState l = .swing then (d.leg l).progress else none

/-- The live flags as a node set (R171). -/
def liveSet (d : Device) : Nat := numberOfBits (Node.all.map fun n => (d.node n).live)

/-- The flags of the thirty-one factors as a factor set (R169, R171). -/
def factorFlags (d : Device) : Nat := numberOfBits (Factor.all.map fun f => (d.factor f).flag)

def levelBits (d : Device) : Nat := numberOfBits [d.nsv.level1 = .low, d.nsv.level2 = .low]

/-- The body of a status frame, 81 bytes (R174). -/
def statusBody (cause : CycleCause) (d : Device) : List Byte :=
  byte1 cause.code
  ++ byteOrAbsent (d.upp.lastTag.map BitVec.toNat)
  ++ byte1 d.mhu.mode.code
  ++ byte1 (SitState.code d.mhu.sit)
  ++ byte1 d.mhu.stack.length
  ++ byte1 ((d.topHold.map fun r => r.hold.causeCode).getD 0)
  ++ byteOrAbsent (d.topHold.bind fun r => r.hold.subject)
  ++ byte1 d.gpe.current
  ++ byteOrAbsent (d.gpe.waiting.map Fin.val)
  ++ bytes16 d.gpe.phase
  ++ Leg.all.flatMap (fun l => byte1 (d.legState l).code)
  ++ Leg.all.flatMap (fun l => bytes16OrAbsent (d.reportedProgress l))
  ++ bytes16s d.bal.current
  ++ Leg.all.flatMap (fun l => bytes16s (d.bal.prospective.get l))
  ++ byte1 d.bal.freshness.code
  ++ byte1 d.bal.age
  ++ Joint.all.flatMap (fun j => signedOrAbsent (d.jointState j).reported)
  ++ Leg.all.flatMap (fun l => byte1 (d.contact l).code)
  ++ Leg.all.flatMap (fun l => bytes16 (d.cfl.get l).lastLoad)
  ++ bytes16 d.liveSet
  ++ bytes16OrAbsent d.nsv.estimate
  ++ byte1 d.levelBits
  ++ bytes32 (BitVec.ofNat 32 d.factorFlags)
  ++ byte1 d.upp.droppedCount

/-! ## The sections of READ_STATE (R161, R177) -/

/-- A hold record as HOLDS carries it (R177). -/
def holdBytes (r : HoldRecord) : List Byte :=
  byte1 r.hold.causeCode ++ byteOrAbsent r.hold.subject ++ byte1 r.modeAtPush.code ++ byte1 r.gait
  ++ bytes16 r.phase ++ (r.legStates.toList.flatMap fun s => byte1 s.code)
  ++ bytes16OrAbsent (r.tag.map BitVec.toNat)

def holdsSection (d : Device) : List Byte :=
  byte1 d.mhu.stack.length ++ byte1 d.mhu.framesSinceSilence ++ d.mhu.stack.flatMap holdBytes

def nodeBytes (r : NodeRecord) : List Byte := faultByte r.latched ++ faultByte r.reported ++ byte1 r.misses

def voltageBytes (v : VoltageReport) : List Byte := bytes16 v.volts ++ byte1 v.age

def nodesSection (d : Device) : List Byte :=
  Node.all.flatMap (fun n => nodeBytes (d.node n))
  ++ Joint.all.flatMap (fun j => voltageBytes ((d.nsv.voltages.get j.leg).get j.ix))

def linkBytes (k : LinkController) : List Byte :=
  k.missTotals.toList.flatMap byte1 ++ byte1 k.noise ++ byte1 k.bitErrors

def linksSection (d : Device) : List Byte :=
  Leg.all.flatMap (fun l => linkBytes (d.link l)) ++ linkConfigBytes d.tbs.linkConfig

def jointStateBytes (s : JointState) : List Byte :=
  signedOrAbsent s.lastPosition ++ bytes16 s.lastStiffness ++ signedOrAbsent s.lastUnclamped

def jointsSection (d : Device) : List Byte := Joint.all.flatMap fun j => jointStateBytes (d.jointState j)

def contactSection (d : Device) : List Byte := Leg.all.flatMap fun l => byte1 (d.cfl.get l).chatter

def upstreamSection (d : Device) : List Byte :=
  bytes16OrAbsent (d.upp.lastTag.map BitVec.toNat) ++ byte1 d.upp.crcCount ++ byte1 d.upp.formCount
  ++ byte1 d.upp.duplicateCount ++ byte1 d.upp.droppedCount

def factorsSection (d : Device) : List Byte :=
  Factor.all.flatMap (fun f => byte1 (d.factor f).count) ++ byte1 d.eeu.resetCause.code

/-- The named sections, in the order of R161. -/
def sections (d : Device) (names : Byte) : List Byte :=
  (if names.getLsbD 0 then d.holdsSection else [])
  ++ (if names.getLsbD 1 then d.nodesSection else [])
  ++ (if names.getLsbD 2 then d.linksSection else [])
  ++ (if names.getLsbD 3 then d.jointsSection else [])
  ++ (if names.getLsbD 4 then d.contactSection else [])
  ++ (if names.getLsbD 5 then d.upstreamSection else [])
  ++ (if names.getLsbD 6 then d.factorsSection else [])

/-- A section set with bit 7 set, or naming no section (R161, R170). -/
def badSections (names : Byte) : Bool := names.getLsbD 7 || names = 0#8

/-- The clear policy of a factor's class (R162, R165). -/
def policyOf (c : DeviceConfig) (f : Factor) : ClearPolicy := if f.isError then c.errorPolicy else c.eventPolicy

/-- The clearing of a reply that carries FACTORS: the factors it reported set, of a class under READ_CLEARS (R166). -/
def readClears (d : Device) : Device :=
  d.clearFactors fun f => policyOf d.tbs.deviceConfig f = .readClears && (d.factor f).flag

end Device

end Sys2Proof.Machine
end

