-- ==== Sys2Proof/Machine/Upstream.lean ====
section
/-!
DEFINITION. The Upstream Port (chapter 9): its timers and transmitter, the reply of a management request, and the
judgement of a request against the reply queue.
-/

namespace Sys2Proof.Machine

/-! ## Replies (R156, R171, R175) -/

/-- The item named in a refusal (R171). -/
inductive Item where
  | gait | joint | pose | liftProfile | nodes | faults
deriving DecidableEq, Repr

def Item.code : Item → Nat
  | .gait => 1 | .joint => 2 | .pose => 3 | .liftProfile => 4 | .nodes => 16 | .faults => 17

/-- What a request is answered: an outcome code of R156 with what it carries. -/
inductive Answer where
  | done (payload : List Byte)
  | refusedMode
  | refusedInvalid (item : Item) (entry : Nat)
  | refusedRange
  | refusedCause
  | refusedEmpty
  | malformed
deriving DecidableEq, Repr

def Answer.code : Answer → Nat
  | .done _ => 0 | .refusedMode => 1 | .refusedInvalid _ _ => 2 | .refusedRange => 3 | .refusedCause => 4
  | .refusedEmpty => 5 | .malformed => 6

/-- What follows the outcome code: the item and entry named, then the payload. A refusal that names none carries
zeros (R175; log 24). -/
def Answer.rest : Answer → List Byte
  | .done payload => byte1 0 ++ byte1 0 ++ payload
  | .refusedInvalid item entry => byte1 item.code ++ byte1 entry
  | _ => byte1 0 ++ byte1 0

/-- The body of a reply (R175). -/
def replyBody (kind tag : Byte) (a : Answer) : List Byte := [kind, tag] ++ byte1 a.code ++ a.rest

/-- Request kinds (R171). -/
def kindTableWrite : Byte := 1#8
def kindTableRead : Byte := 2#8
def kindControl : Byte := 3#8
def kindReadState : Byte := 4#8

namespace Device

/-! ## The transmitter (R155) -/

/-- An idle transmitter begins the next frame that waits: the status frame, else the oldest reply (R155). -/
def pump (d : Device) : Device :=
  match d.upp.sending with
  | some _ => d
  | none =>
    match d.upp.statusSlot with
    | some body => { d with upp := { d.upp with sending := some (.status body), statusSlot := none } }
    | none =>
      match d.upp.replyQueue with
      | reply :: more => { d with upp := { d.upp with sending := some (.reply reply), replyQueue := more } }
      | [] => d

/-- A reply joins the queue as its newest entry (R155). -/
def enqueue (reply : List Byte) (d : Device) : Device :=
  { d with upp := { d.upp with replyQueue := d.upp.replyQueue ++ [reply] } }

/-- A status frame enters the status slot in place of any that waits there (R154). -/
def postStatus (cause : CycleCause) (d : Device) : Device :=
  { d with upp := { d.upp with statusSlot := some (d.statusBody cause) } }

/-- The frame being sent and its idle gap have ended (R155). -/
def endTransmission (d : Device) : Device := pump { d with upp := { d.upp with sending := none } }

/-- The frame on the wire is the RESTART reply: restart pending discards every later request, so it is the last reply
of the queue (R160; log 25). -/
def restartReplyOnWire (d : Device) : Bool :=
  d.upp.restartPending && d.upp.replyQueue.isEmpty &&
    match d.upp.sending with
    | some (.reply _) => true
    | some (.status _) => false
    | none => false

/-! ## Requests (R155, R156, R160) -/

/-- A request is executed whole: it acts, its reply joins the queue, and an idle transmitter begins (R155, R156). -/
def execute (kind tag : Byte) (act : Device → Answer × Device) (d : Device) : Device :=
  (enqueue (replyBody kind tag (act d).1) (act d).2).pump

/-- A management request received whole: discarded while restart pending is yes (R160), not executed while two
replies wait (R155), and executed otherwise. -/
def manage (kind tag : Byte) (act : Device → Answer × Device) (d : Device) : Device :=
  if d.upp.restartPending then d
  else if Config.replyQueueRoom ≤ d.upp.replyQueue.length then
    { d with upp := { d.upp with droppedCount := saturate d.upp.droppedCount } }
  else d.execute kind tag act

/-- A control request that carries nothing after its action (R175). -/
def plainControl (rest : List Byte) (act : Device → Answer × Device) (d : Device) : Answer × Device :=
  if rest.isEmpty then act d else (.malformed, d)

end Device

/-- A command that is a management request. -/
def State.manage (s : State) (kind tag : Byte) (act : Device → Answer × Device) : Host.Outcome State Fault Refusal :=
  s.whenRunning (s.onDevice (Device.manage kind tag act))

end Sys2Proof.Machine
end

