-- ==== Sys2Proof/Machine/Control.lean ====
section
/-!
DEFINITION. The control requests (R159), READ_STATE (R161) and the malformed requests (R156).
-/

namespace Sys2Proof.Machine

namespace Device

/-! ## ARM (R98, R21) -/

/-- The validations at the start of an ARM in UNARMED (R98): gait records, pose table, lift profile. -/
def armJudgements (d : Device) : Device := { d with tbs := d.tbs.judgeGaits.judgePoses.judgeProfile }

/-- The first failing condition of ARM, with what the refusal names (R98). A table whose flag is clear holds a
failing record, so the number is there to be named (log 18). -/
def armObstacle (d : Device) : Option (Item × Nat) :=
  match Node.all.find? fun n => !(d.node n).live with
  | some n => some (.nodes, n.number)
  | none =>
    match Node.all.find? fun n => (d.unmasked n).any with
    | some n => some (.faults, n.number)
    | none =>
      if !d.gaitEntry.valid then some (.gait, d.gpe.current)
      else if !d.tbs.jointValid then some (.joint, (d.tbs.firstInvalidJoint.map Joint.number).getD 0)
      else if !d.tbs.poseValid then some (.pose, (d.tbs.firstInvalidPose.map Leg.number).getD 0)
      else if !d.tbs.liftValid then some (.liftProfile, (peakBreak d.tbs.liftProfile).getD 0)
      else none

/-- A leg that passes from UNSET to STANCE at ARM (R21). -/
def armedLeg (base : Option Pose) (r : LegRecord) : LegRecord :=
  { r with state := .stance, stanceBase := base, partnerLatch := true, wait := 0, landing := 0, clear := 0,
           cleared := false }

/-- An accepted ARM (R98). -/
def enterArmed (d : Device) : Device :=
  let d := (d.setMode .stand).mapLegs fun l r => armedLeg (d.lastPose l) r
  ({ d with gpe := { d.gpe with phase := d.gaitRecord.e } }).raise .modeChanged

/-- ARM (R98). -/
def arm (d : Device) : Answer × Device :=
  if d.mhu.mode ≠ .unarmed then (.refusedMode, d)
  else match d.armJudgements.armObstacle with
    | some (item, entry) => (.refusedInvalid item entry, d.armJudgements)
    | none => (.done [], d.armJudgements.enterArmed)

/-! ## DISARM, HOLD and SIT (R99, R100, R107) -/

/-- DISARM (R99). -/
def disarm (d : Device) : Answer × Device :=
  if d.mhu.mode = .unarmed ∨ d.mhu.mode = .walk then (.refusedMode, d)
  else
    (.done [], (({ d with mhu := { d.mhu with mode := .unarmed, sit := none, stack := [] } }).unsetLegs.cutLinks).raise
      .modeChanged)

/-- HOLD (R107). -/
def hostHold (d : Device) : Answer × Device :=
  if d.mhu.mode = .unarmed ∨ d.mhu.mode = .safeSit then (.refusedMode, d) else (.done [], d.request .host)

/-- SIT (R100). -/
def hostSit (d : Device) : Answer × Device :=
  if d.mhu.mode = .unarmed ∨ d.mhu.mode = .safeSit then (.refusedMode, d) else (.done [], d.sitDemand)

/-! ## RESUME (R109 to R113) -/

/-- The condition of a hold, read from the block that owns it (R110). -/
def resumable (d : Device) : Hold → Bool
  | .host => true
  | .margin => d.tbs.deviceConfig.mBrace + d.tbs.deviceConfig.hBrace ≤ d.bal.current
  | .noGround l => d.contact l = .present
  | .snag l => d.legState l = .stance
  | .slip l => (d.cfl.get l).shear = ⟨false, false, false⟩
  | .node n => (d.node n).live && !(d.unmasked n).any
  | .limit j => (d.jointState j).lastUnclamped.any (d.tbs.jointAt j).allows
  | .linkSilent => d.mhu.framesSinceSilence = 2

/-- The subject of a popped NO_GROUND record touches down when it is in HANG (R111). -/
def popTouchDown (h : Hold) (d : Device) : Device :=
  match h with
  | .noGround l => if d.legState l = .hang then d.touchDown l else d
  | _ => d

/-- A leg's conversion on leaving HOLD for STAND or for a fresh start (R112, R113). -/
def releaseLeg (l : Leg) (d : Device) : Device :=
  match d.legState l with
  | .liftWait => d.modLeg l waitToStance
  | .setDown => d.touchDown l
  | .hang => d.touchDown l
  | _ => d

/-- The conversions, in leg order (log 17). -/
def releaseLegs (d : Device) : Device := Leg.all.foldl (fun d l => d.releaseLeg l) d

/-- No leg was in the air when the hold began (R113). -/
def groundedAtPush (r : HoldRecord) : Bool := r.legStates.toList.all fun s => s = .stance || s = .liftWait

/-- The walk restored (R113): the record's master phase and leg states. A leg that waits still keeps its wait counter
(R25); one that does not begins a wait, or ends it (log 36). -/
def restoreWalk (r : HoldRecord) (d : Device) : Device :=
  let d := { d with gpe := { d.gpe with phase := r.phase } }
  d.mapLegs fun l k =>
    if k.state = r.legStates.get l then k
    else if r.legStates.get l = .liftWait then liftWaitRecord k
    else { k with state := r.legStates.get l, wait := 0 }

/-- The fresh start (R113, R21). -/
def freshStart (d : Device) : Device :=
  let d := d.releaseLegs
  ({ d with gpe := { d.gpe with phase := d.gaitRecord.e } }).setLatches

/-- The stack is empty: the part leaves HOLD for WALK or STAND (R112, R113). -/
def leaveHold (r : HoldRecord) (d : Device) : Device :=
  if r.modeAtPush = .walk ∧ d.mhu.walkFlag = true then
    ((if groundedAtPush r then d.restoreWalk r else d.freshStart).setMode .walk).raise .modeChanged
  else d.releaseLegs.enterStand

/-- A pop of the top record `r` (R111). -/
def popRecord (r : HoldRecord) (d : Device) : Device :=
  let d := (({ d with mhu := { d.mhu with stack := d.mhu.stack.dropLast } }).raise .holdResumed).popTouchDown r.hold
  if d.mhu.stack.isEmpty then d.leaveHold r else d

/-- RESUME (R109). -/
def resume (d : Device) : Answer × Device :=
  match d.topHold with
  | none => (.refusedEmpty, d)
  | some r => if d.resumable r.hold then (.done [], d.popRecord r) else (.refusedCause, d)

/-! ## RESTART (R160) -/

/-- A RESTART taken: the waiting status frame is discarded, both timers stop and restart pending becomes yes. -/
def restart (d : Device) : Answer × Device :=
  (.done [], { d with upp := { d.upp with statusSlot := none, silenceTimer := none, localTimer := none,
                                          restartPending := true } })

/-! ## CLEAR_FACTORS, CLEAR_FAULTS, IDENT (R140, R159, R165) -/

/-- CLEAR_FACTORS (R165): four bytes, bit 31 clear. -/
def clearNamed (rest : List Byte) (d : Device) : Answer × Device :=
  if rest.length ≠ 4 ∨ (set32 rest 0).getLsbD 31 = true then (.malformed, d)
  else (.done [], d.clearFactors (inSet (set32 rest 0)))

/-- CLEAR_FAULTS on the counters of the links (R132). -/
def clearLinkCounters (d : Device) : Device :=
  { d with llc := d.llc.map fun k => { k with missTotals := .replicate 0, noise := 0, bitErrors := 0 } }

/-- CLEAR_FAULTS on the port's four counts (R159). -/
def clearPortCounts (d : Device) : Device :=
  { d with upp := { d.upp with crcCount := 0, formCount := 0, duplicateCount := 0, droppedCount := 0 } }

/-- CLEAR_FAULTS (R140, R159). -/
def clearFaults (d : Device) : Answer × Device := (.done [], d.clearLatches.clearLinkCounters.clearPortCounts)

/-- IDENT (R159). -/
def ident (d : Device) : Answer × Device :=
  (.done (bytes16 Config.vendorCode ++ bytes16 Config.partCode ++ byte1 Config.siliconRevision), d)

/-! ## READ_STATE (R161, R166) -/

/-- READ_STATE of a set of sections. Forming the reply and clearing the factors it reports are one act (R166). -/
def readSections (names : Byte) (d : Device) : Answer × Device :=
  if badSections names then (.malformed, d)
  else (.done (names :: d.sections names), if names.getLsbD 6 then d.readClears else d)

/-- READ_STATE (R161, R175). -/
def readState (rest : List Byte) (d : Device) : Answer × Device :=
  match rest with
  | [names] => d.readSections names
  | _ => (.malformed, d)

/-! ## Malformed requests (R156, R159) -/

/-- The byte a reply echoes from offset `off` of a request's body. Of a body too short to hold it the manual says
nothing: a free value (log 10). -/
def echoAt (d : Device) (body : List Byte) (off : Nat) : Byte := body.getD off (Config.missingEcho (d.freeCount + off))

/-- The count of free values moves past those a malformed request may use. -/
def useEchoes (body : List Byte) (d : Device) : Device :=
  if body.length < 2 then { d with freeCount := d.freeCount + 2 } else d

/-- A malformed request changes nothing. -/
def malformed (body : List Byte) (d : Device) : Answer × Device := (.malformed, d.useEchoes body)

end Device

/-- MALFORMED_REQUEST (R156). -/
def execMalformedRequest (body : List Byte) (s : State) : Host.Outcome State Fault Refusal :=
  s.whenRunning
    (if managementCommand body = .malformedRequest body then
      s.onDevice (Device.manage (s.dev.echoAt body 0) (s.dev.echoAt body 1) (Device.malformed body))
    else .refused .notThisEvent)

/-- READ_STATE (R161). -/
def execReadState (tag : Byte) (rest : List Byte) (s : State) : Host.Outcome State Fault Refusal :=
  s.manage kindReadState tag (Device.readState rest)

/-- ARM (R98). -/
def execArm (tag : Byte) (rest : List Byte) (s : State) : Host.Outcome State Fault Refusal :=
  s.manage kindControl tag (Device.plainControl rest Device.arm)

/-- DISARM (R99). -/
def execDisarm (tag : Byte) (rest : List Byte) (s : State) : Host.Outcome State Fault Refusal :=
  s.manage kindControl tag (Device.plainControl rest Device.disarm)

/-- HOLD (R107). -/
def execHold (tag : Byte) (rest : List Byte) (s : State) : Host.Outcome State Fault Refusal :=
  s.manage kindControl tag (Device.plainControl rest Device.hostHold)

/-- RESUME (R109). -/
def execResume (tag : Byte) (rest : List Byte) (s : State) : Host.Outcome State Fault Refusal :=
  s.manage kindControl tag (Device.plainControl rest Device.resume)

/-- SIT (R100). -/
def execSit (tag : Byte) (rest : List Byte) (s : State) : Host.Outcome State Fault Refusal :=
  s.manage kindControl tag (Device.plainControl rest Device.hostSit)

/-- RESTART (R160). -/
def execRestart (tag : Byte) (rest : List Byte) (s : State) : Host.Outcome State Fault Refusal :=
  s.manage kindControl tag (Device.plainControl rest Device.restart)

/-- CLEAR_FACTORS (R165). -/
def execClearFactors (tag : Byte) (rest : List Byte) (s : State) : Host.Outcome State Fault Refusal :=
  s.manage kindControl tag (Device.clearNamed rest)

/-- CLEAR_FAULTS (R140, R159). -/
def execClearFaults (tag : Byte) (rest : List Byte) (s : State) : Host.Outcome State Fault Refusal :=
  s.manage kindControl tag (Device.plainControl rest Device.clearFaults)

/-- IDENT (R159). -/
def execIdent (tag : Byte) (rest : List Byte) (s : State) : Host.Outcome State Fault Refusal :=
  s.manage kindControl tag (Device.plainControl rest Device.ident)

end Sys2Proof.Machine
end

