-- ==== Sys2Proof/Machine/Compose.lean ====
section
/-!
DEFINITION. The Leg Command Composer (chapter 5): base target, balance correction, stiffness, step limit, soft limit
and hand-off. The four lanes compose from the state as the engine's work and the brace check have left it; the hold
requests of the soft limit are judged when all four have composed (R75, R95; log 13).
-/

namespace Sys2Proof.Machine

/-- An angle moved toward a pose angle by at most `most` (R80). -/
def moveToward (start target : Int) (most : Nat) : Int :=
  if target - start > most then start + most else if start - target > most then start - most else target

def clampAngle (x : Int) : Int := clampAbs Config.angleLimit x

/-- The interpolated term and the clearance term of a swing, summed and clamped (R79). -/
def swingTarget (liftoff target clearance : Int) (s w : Nat) (lp : Vector Nat 15) : Int :=
  clampAngle ((liftoff + ((target - liftoff) * s).tdiv w) + (clearance * profileAt lp (16 * s / w)).tdiv 1024)

/-- The balance correction of a joint (R82). -/
def correctionOf (r : JointRecord) (e : BodyErrors) : Int :=
  clampAbs r.cMax (roundHalfAway (r.kr * e.roll + r.kp * e.pitch + r.kh * e.height) 1024)

/-- The stiffness of an entry (R83). -/
def stiffnessOf (kIn gg gj : Nat) : Nat := kIn * gg * gj / 1048576

/-- The step limit: the position, held within step_max of the step reference (R84). -/
def stepLimit (ref x : Int) (most : Nat) : Int :=
  if x - ref > most then ref + most else if ref - x > most then ref - most else x

/-- What the soft limit makes of a position (R85). -/
structure SoftLimited where
  position : Int
  raised   : Option Factor
  freeze   : Bool
deriving DecidableEq, Repr

def softLimit (r : JointRecord) (x : Int) : SoftLimited :=
  if r.allows x then { position := x, raised := none, freeze := false }
  else match r.limitMode with
    | .off => { position := x, raised := none, freeze := false }
    | .note => { position := x, raised := some .limitNote, freeze := false }
    | .clamp => { position := clampInt r.lo r.hi x, raised := some .limitClamp, freeze := false }
    | .freeze => { position := clampInt r.lo r.hi x, raised := none, freeze := true }

/-- What a lane composes for one joint: its entry, the last unclamped position it leaves, the factors it raises and
whether it requests hold LIMIT. -/
structure JointComposition where
  entry     : Entry
  unclamped : Option Int
  raised    : List Factor
  freeze    : Bool
deriving DecidableEq, Repr

namespace Device

def jointRecord (d : Device) (j : Joint) : JointRecord := d.tbs.jointAt j

def segment (d : Device) (l : Leg) : Option LegSegment := (d.lcc.lanes.get l).segment

/-- The leg's segment has the given kind. -/
def kindIs (d : Device) (l : Leg) (k : TargetKind) : Bool := (d.segment l).any fun s => s.kind = k

/-- The kind of segment a leg's state takes (R77, R78); the other states judge no kind. -/
def wantedKind : LegState → Option TargetKind
  | .stance => some .stance
  | .liftWait => some .stance
  | .swing => some .touchdown
  | _ => none

/-- TARGET_MISMATCH is raised once for a leg whose segment is of the wrong kind (R77, R78). -/
def mismatch (d : Device) (l : Leg) : Bool :=
  match wantedKind (d.legState l), d.segment l with
  | some k, some s => s.kind ≠ k
  | _, _ => false

/-- The bases the lane writes into the leg record when the host's kind is the wanted one (R77, R78). -/
def keepTargets (d : Device) (l : Leg) (r : LegRecord) : LegRecord :=
  match d.segment l with
  | none => r
  | some s =>
    if wantedKind r.state = some s.kind then
      match s.kind with
      | .stance => { r with stanceBase := some s.targets }
      | .touchdown => { r with touchdownTarget := some s.targets }
    else r

/-- The base target of a supporting state: the host's stance target, else the last stance base, else the last
delivered position (R77). -/
def stanceTarget (d : Device) (j : Joint) (last : Int) : Int :=
  match d.segment j.leg with
  | some s =>
    if s.kind = .stance then s.targets.get j.ix
    else ((d.leg j.leg).stanceBase.map (·.get j.ix)).getD last
  | none => ((d.leg j.leg).stanceBase.map (·.get j.ix)).getD last

/-- The end target T of a swing (R78). -/
def endTarget (d : Device) (j : Joint) (liftoff : Int) : Int :=
  match d.segment j.leg with
  | some s =>
    if s.kind = .touchdown then s.targets.get j.ix
    else ((d.leg j.leg).touchdownTarget.map (·.get j.ix)).getD liftoff
  | none => ((d.leg j.leg).touchdownTarget.map (·.get j.ix)).getD liftoff

/-- The base target of a leg in SWING (R79). -/
def swingBase (d : Device) (j : Joint) (last : Int) : Int :=
  let liftoff := ((d.leg j.leg).liftoff.map (·.get j.ix)).getD last
  swingTarget liftoff (d.endTarget j liftoff) ((d.gaitLeg j.leg).clearance.get j.ix)
    ((d.leg j.leg).progress.getD 0) (d.gaitLeg j.leg).swing d.tbs.liftProfile

/-- The base target of a joint, by its leg's state (R77 to R81). `ref` is the step reference and `last` the last
delivered position. -/
def baseTarget (d : Device) (j : Joint) (ref last : Int) : Int :=
  let toward (p : Pose) := moveToward ref (p.get j.ix) (d.jointRecord j).stepMax
  match d.legState j.leg with
  | .stance => d.stanceTarget j last
  | .liftWait => d.stanceTarget j last
  | .swing => d.swingBase j last
  | .landing => toward (d.tbs.pose.get j.leg).reach
  | .setDown => toward (d.tbs.pose.get j.leg).setDown
  | .hang => ((d.segment j.leg).map (·.targets.get j.ix)).getD last
  | .unset =>
    if d.mhu.mode = .safeSit then toward (d.tbs.pose.get j.leg).sit
    else (d.jointState j).reported.getD last

/-- The correction of a joint: that of R82 for a supporting leg while the body state is FRESH, and 0 otherwise. -/
def correction (d : Device) (j : Joint) : Int :=
  if d.supporting j.leg ∧ d.bal.freshness = .fresh then correctionOf (d.jointRecord j) d.lcc.errors else 0

/-- The input stiffness (R83). -/
def inputStiffness (d : Device) (j : Joint) : Nat :=
  match d.mhu.mode with
  | .unarmed => 0
  | .safeSit => (d.tbs.pose.get j.leg).sitStiffness.get j.ix
  | _ => ((d.segment j.leg).map (·.stiffness.get j.ix)).getD 0

/-- The effective global gain (R83). -/
def globalGain (d : Device) : Nat :=
  if d.derate then min d.tbs.deviceConfig.gg d.tbs.deviceConfig.gDerate else d.tbs.deviceConfig.gg

/-- The effective joint gain, halved while the drive's last good reply reports OVERTEMP (R83, R138). -/
def jointGain (d : Device) (j : Joint) : Nat :=
  if (d.node ⟨j.leg, j.ix.slot⟩).reported.overtemp then (d.jointRecord j).gj / 2 else (d.jointRecord j).gj

/-- The step reference: the in-flight command's position, else the last delivered position (R84). -/
def stepReference (d : Device) (j : Joint) (last : Int) : Int :=
  match (d.link j.leg).inFlight with
  | some c => (c.get j.ix).position.getD last
  | none => last

/-- The absent entry (R75). -/
def absentEntry : Entry := { position := none, stiffness := 0, engage := false }

/-- The composition of one joint whose last delivered position is known (R75, R82 to R85). -/
def composeKnown (d : Device) (j : Joint) (last : Int) : JointComposition :=
  let r := d.jointRecord j
  let ref := d.stepReference j last
  let wanted := clampAngle (d.baseTarget j ref last + d.correction j)
  let stepped := stepLimit ref wanted r.stepMax
  let soft := softLimit r stepped
  { entry := { position := some soft.position
               stiffness := stiffnessOf (d.inputStiffness j) d.globalGain (d.jointGain j)
               engage := d.mhu.mode ≠ .unarmed }
    unclamped := some stepped
    raised := (if stepped = wanted then [] else [.stepLimited]) ++ soft.raised.toList
    freeze := soft.freeze }

/-- The composition of one joint. An unknown last delivered position gives an absent entry, to which no stage is
applied (R75, R85). -/
def composeJoint (d : Device) (j : Joint) : JointComposition :=
  match (d.jointState j).lastPosition with
  | none => { entry := absentEntry, unclamped := (d.jointState j).lastUnclamped, raised := [], freeze := false }
  | some last => d.composeKnown j last

/-- The composition of a leg's three joints. -/
def composeLeg (d : Device) (l : Leg) : PerJoint JointComposition := .ofFn fun i => d.composeJoint ⟨l, i⟩

/-- The factors one lane's composition raises (R94, R95). -/
def laneFactors (d : Device) (l : Leg) : List Factor :=
  (if d.mismatch l then [.targetMismatch] else []) ++ (d.composeLeg l).toList.flatMap (·.raised)

/-- The LIMIT requests of a composition, in the order of joint numbers (R85). -/
def limitRequests (d : Device) : List PushRequest :=
  (Joint.all.filter fun j => (d.composeJoint j).freeze).map .limit

/-- What the compositions write into the lanes: the last unclamped positions (R85). -/
def recordUnclamped (seen : Device) (d : Device) : Device :=
  { d with lcc := { d.lcc with lanes := .ofFn fun l =>
      let lane := d.lcc.lanes.get l
      { lane with joints := .ofFn fun i =>
          { lane.joints.get i with lastUnclamped := (seen.composeJoint ⟨l, i⟩).unclamped } } } }

/-- One lane hands its finished command to its link (R86). -/
def handOffLane (seen : Device) (l : Leg) (d : Device) : Device :=
  d.handOff l ((seen.composeLeg l).map (·.entry))

/-- The compositions of a cycle (R75): all four lanes read the same state, write what they keep and raise their
factors; then the LIMIT requests are judged; then each command is handed to its link. -/
def compose (d : Device) : Device :=
  let kept : Device := recordUnclamped d (d.mapLegs d.keepTargets)
  let raised := kept.raiseAll (Leg.all.flatMap d.laneFactors)
  Leg.all.foldl (fun e l => handOffLane d l e) (raised.requestAll d.limitRequests)

/-- An accepted frame's leg segments and body errors (R76). -/
def takeSegments (segments : PerLeg LegSegment) (errors : BodyErrors) (d : Device) : Device :=
  { d with lcc := { lanes := .ofFn fun l => { d.lcc.lanes.get l with segment := some (segments.get l) }
                    errors := errors } }

end Device

end Sys2Proof.Machine
end

