-- ==== Sys2Proof/Machine/Cycles.lean ====
section
/-!
DEFINITION. The cycles of the part and the events of the upstream line: CYCLE_FRAME, LOCAL_CYCLE, SILENCE_EXPIRY,
FRAME_DROPPED and TRANSMIT_COMPLETE (R149 to R155).
-/

namespace Sys2Proof.Machine

namespace Device

/-! ## An accepted cycle frame (R150, R151) -/

/-- The tag that follows a tag without a gap (R150). -/
def follows (last tag : Byte) : Bool := tag = last + 1

/-- The tag of an accepted frame breaks the sequence (R150). -/
def tagGap (d : Device) (tag : Byte) : Bool :=
  match d.upp.lastTag with
  | none => false
  | some last => !follows last tag

/-- An accepted frame's tag becomes the last accepted tag; SEQ_GAP is raised when it breaks the sequence (R150). -/
def takeTag (tag : Byte) (d : Device) : Device :=
  ({ d with upp := { d.upp with lastTag := some tag } }).raiseIf (d.tagGap tag) .seqGap

/-- The silence limit, read from the device config at the moment (R147, R152). -/
def silenceLimit (d : Device) : Nat := d.tbs.deviceConfig.lSil * d.tbs.deviceConfig.tCyc

/-- The local cycle timer stops and the silence timer restarts with the full silence limit (R151). -/
def restartSilence (d : Device) : Device :=
  { d with upp := { d.upp with localTimer := none, silenceTimer := some d.silenceLimit } }

/-- The frame counts toward frames since silence, which stops at 2 (R110, R151). -/
def countFrame (d : Device) : Device :=
  { d with mhu := { d.mhu with framesSinceSilence := countUp 2 d.mhu.framesSinceSilence } }

/-- What an accepted frame brings before its cycle runs (R150, R151): the tag, the timers, the body state (R58), the
leg segments and errors (R76), the gait index (R15, R17) and then the walk flag (R102). -/
def takeFrame (c : CycleContent) (d : Device) : Device :=
  ((((((d.takeTag c.tag).restartSilence).countFrame).takeBody c.body).takeSegments c.segments c.errors).takeGaitIndex
    c.gait).takeWalkFlag c.walk

/-- The work of a cycle after the engine's own (R67, R71, R75, R154): margins, brace check, compositions, status
frame. -/
def finishCycle (cause : CycleCause) (d : Device) : Device :=
  ((d.computeMargins.braceCheck.compose).postStatus cause).pump

/-- In WALK the frame makes a phase step (R9). -/
def stepInWalk (step : Nat) (d : Device) : Device := if d.mhu.mode = .walk then d.phaseStep step else d

/-- The cycle of an accepted frame (R151): counters, phase step, and the rest of the cycle. -/
def acceptFrame (c : CycleContent) (d : Device) : Device :=
  (((d.takeFrame c).updateCounters).stepInWalk c.step).finishCycle .atFrame

/-- A cycle frame received whole (R150): discarded while restart pending is yes (R160), counted as a duplicate when
its tag is the last accepted, and accepted otherwise. -/
def cycleFrame (c : CycleContent) (d : Device) : Device :=
  if d.upp.restartPending then d
  else if d.upp.lastTag = some c.tag then
    { d with upp := { d.upp with duplicateCount := saturate d.upp.duplicateCount } }
  else d.acceptFrame c

/-! ## Host silence (R152, R153) -/

/-- The local cycle timer starts, or restarts, with the period T_cyc read at the moment (R152, R153). -/
def startLocalTimer (d : Device) : Device :=
  { d with upp := { d.upp with localTimer := some d.tbs.deviceConfig.tCyc } }

/-- The silence timer runs out (R152): it stops, hold LINK_SILENT is requested, the body state becomes STALE and the
local cycle timer starts. -/
def silenceExpiry (d : Device) : Device :=
  ((request .linkSilent { d with upp := { d.upp with silenceTimer := none } }).staleBody).startLocalTimer

/-- A local cycle (R153): no phase step is made. -/
def localCycle (d : Device) : Device := ((d.startLocalTimer.updateCounters).ageBody).finishCycle .atTimer

/-! ## Dropped frames (R149) -/

def countFormDrop (d : Device) : Device := { d with upp := { d.upp with formCount := saturate d.upp.formCount } }

def countCrcDrop (d : Device) : Device := { d with upp := { d.upp with crcCount := saturate d.upp.crcCount } }

end Device

/-- CYCLE_FRAME (R150, R151). -/
def execCycleFrame (body : List Byte) (s : State) : Host.Outcome State Fault Refusal :=
  s.whenRunning
    (if body.length = Config.cycleBodyLength then s.onDevice (Device.cycleFrame (cycleContent body))
    else .refused .notThisEvent)

/-- FRAME_DROPPED (R149): a received frame, closed by its gap, that fails a check. -/
def execFrameDropped (run : List Bool) (s : State) : Host.Outcome State Fault Refusal :=
  s.whenRunning
    (match (frameChars run).map judgeFrame with
    | some .dropForm => s.onDevice Device.countFormDrop
    | some .dropCrc => s.onDevice Device.countCrcDrop
    | some (.cycle _) => .refused .notThisEvent
    | some (.management _) => .refused .notThisEvent
    | none => .refused .notThisEvent)

/-- SILENCE_EXPIRY (R152). -/
def execSilenceExpiry (s : State) : Host.Outcome State Fault Refusal :=
  s.whenPossible s.dev.upp.silenceTimer.isSome Device.silenceExpiry

/-- LOCAL_CYCLE (R153). -/
def execLocalCycle (s : State) : Host.Outcome State Fault Refusal :=
  s.whenPossible s.dev.upp.localTimer.isSome Device.localCycle

/-- TRANSMIT_COMPLETE (R155): the end of any frame but the RESTART reply, whose end is RESTART_RESET. -/
def execTransmitComplete (s : State) : Host.Outcome State Fault Refusal :=
  s.whenPossible (s.dev.upp.sending.isSome && !s.dev.restartReplyOnWire) Device.endTransmission

end Sys2Proof.Machine
end

