-- ==== Sys2Proof/Machine/LinkEvents.lean ====
section
/-!
DEFINITION. The events of a limb link: PREAMBLE_END, BREAK_END, COMMAND_FRAME_END, ECHO_MISMATCH, FRAME_ABANDONED and
the three ends of a reply slot (R120, R123 to R129).
-/

namespace Sys2Proof.Machine

namespace Device

/-- The break has been sent with a clean echo: the controller sends the command frame (R123). -/
def beginSending (l : Leg) (d : Device) : Device := d.modLink l fun k => { k with state := .sending }

end Device

/-- PREAMBLE_END (R120). -/
def execPreambleEnd (l : Leg) (s : State) : Host.Outcome State Fault Refusal :=
  s.whenPossible ((s.dev.link l).state = .preamble) (Device.lineFree l)

/-- BREAK_END (R123). -/
def execBreakEnd (l : Leg) (s : State) : Host.Outcome State Fault Refusal :=
  s.whenPossible ((s.dev.link l).state = .lowBreak && (s.dev.link l).abandoned.isNone) (Device.beginSending l)

/-- COMMAND_FRAME_END (R123). -/
def execCommandFrameEnd (l : Leg) (s : State) : Host.Outcome State Fault Refusal :=
  match (s.dev.link l).inFlight with
  | some c =>
    s.whenPossible ((s.dev.link l).state = .sending && (s.dev.link l).abandoned.isNone) (Device.commandDelivered l c)
  | none => s.whenPossible false id

/-- A bit time at which the controller checks its echo: the 14 of the break in BREAK, those of the command frame in
SENDING, up to the last one it sends (R124). -/
def echoChecked (l : Leg) (k : LinkController) (bitTime : Nat) : Bool :=
  (k.state = .lowBreak && bitTime < 14) || (k.state = .sending && 14 ≤ bitTime && bitTime < (linkBits l k).length)

/-- The read-back of one bit time (R124). A majority equal to the bit sent is no mismatch (log 12); a frame already
abandoned stays so (log 11). -/
def Device.readBackBit (l : Leg) (bitTime : Nat) (readBack : Sample3) (d : Device) : Device :=
  if majority3 readBack = (linkBits l (d.link l)).getD bitTime true ∨ (d.link l).abandoned.isSome then d
  else d.abandonFrame l bitTime

/-- ECHO_MISMATCH (R124). -/
def execEchoMismatch (l : Leg) (bitTime : Nat) (readBack : Sample3) (s : State) : Host.Outcome State Fault Refusal :=
  s.whenPossible ((s.dev.link l).inFlight.isSome && echoChecked l (s.dev.link l) bitTime)
    (Device.readBackBit l bitTime readBack)

/-- FRAME_ABANDONED (R124, R125). -/
def execFrameAbandoned (l : Leg) (s : State) : Host.Outcome State Fault Refusal :=
  s.whenPossible
    ((s.dev.link l).abandoned.isSome && ((s.dev.link l).state = .lowBreak || (s.dev.link l).state = .sending))
    (Device.frameAbandoned l)

/-- The open reply slot of a link. -/
def LinkState.openSlot : LinkState → Option Slot
  | .slot x => some x
  | _ => none

/-- The end of an open slot, with the samples taken since it opened, that brought a number of characters the event
allows (R126). Samples that do not end the slot, or end it otherwise, make up another event (log 9). -/
def State.slotEnds (s : State) (l : Leg) (heard : List Bool) (fits : Nat → Slot → Bool) :
    Host.Outcome State Fault Refusal :=
  match (s.dev.link l).state.openSlot with
  | none => s.whenPossible false id
  | some x =>
    s.whenRunning
      (match slotChars (s.dev.link l) x heard with
      | some cs =>
        if fits cs.length x then s.onDevice (Device.endSlot l x cs (carriedOver (s.dev.link l) x heard))
        else .refused .notThisEvent
      | none => .refused .notThisEvent)

/-- REPLY_WINDOW_EXPIRY (R126). -/
def execReplyWindowExpiry (l : Leg) (heard : List Bool) (s : State) : Host.Outcome State Fault Refusal :=
  s.slotEnds l heard fun n _ => n = 0

/-- SHORT_REPLY (R126). -/
def execShortReply (l : Leg) (heard : List Bool) (s : State) : Host.Outcome State Fault Refusal :=
  s.slotEnds l heard fun n x => 1 ≤ n && n < expectedChars x

/-- REPLY_COMPLETE (R126, R127). -/
def execReplyComplete (l : Leg) (heard : List Bool) (s : State) : Host.Outcome State Fault Refusal :=
  s.slotEnds l heard fun n x => n = expectedChars x

end Sys2Proof.Machine
end

