-- ==== Sys2Proof/Machine/Resets.lean ====
section
/-!
DEFINITION. The commands that reset the part: POWER_ON, RESET_PIN, LOGIC_BROWNOUT, RESET_END and RESTART_RESET (R145,
R160, R164).
-/

namespace Sys2Proof.Machine

/-- The value of the reset cause record for a power-up-class cause (R164). -/
def causeRecord : PowerCause → ResetCause
  | .powerUp => .powerUp
  | .logicBrownout => .logicBrownout
  | .resetPin => .resetPin

/-- POWER_ON (R164). -/
def execPowerOn (s : State) : Host.Outcome State Fault Refusal := s.onDevice (Device.beginReset .powerUp)

/-- RESET_PIN (R164). -/
def execResetPin (s : State) : Host.Outcome State Fault Refusal := s.onDevice (Device.beginReset .resetPin)

/-- LOGIC_BROWNOUT (R145). -/
def execLogicBrownout (s : State) : Host.Outcome State Fault Refusal := s.onDevice (Device.beginReset .logicBrownout)

/-- RESET_END (R164): the causes of the reset in progress have all ended, `last` being taken last. -/
def execResetEnd (last : PowerCause) (s : State) : Host.Outcome State Fault Refusal :=
  if s.dev.eeu.resetting.contains last then s.onDevice (Device.endReset (causeRecord last)) else .fault .eventImpossible

/-- RESTART_RESET (R160): the last stop bit of the RESTART reply has been sent. -/
def execRestartReset (s : State) : Host.Outcome State Fault Refusal :=
  s.whenPossible s.dev.restartReplyOnWire Device.restartReset

end Sys2Proof.Machine
end

