-- ==== Sys2Proof/Machine/Tables.lean ====
section
/-!
DEFINITION. The commands that write and read the tables: TABLE_WRITE and TABLE_READ (R157, R158).
-/

namespace Sys2Proof.Machine

namespace Device

/-- The part is armed in every mode but UNARMED. -/
def armed (d : Device) : Bool := d.mhu.mode ≠ .unarmed

def setTables (t : TableStore) (d : Device) : Device := { d with tbs := t }

/-! ## GAIT (R3, R5, R18) -/

/-- Whether a written record is valid as it is stored: validated while armed, its flag cleared in UNARMED (R5). -/
def gaitJudge (d : Device) (r : GaitRecord) : Bool := d.armed && r.isValid

/-- A write to the current record in STAND sets the master phase to its E, or to 0 when it is invalid (R18). -/
def currentRecordWritten (d : Device) : Device :=
  { d with gpe := { d.gpe with phase := if d.gaitEntry.valid then d.gaitRecord.e else 0 } }

def writeGait (r : EntryRange) (data : List Byte) (d : Device) : Answer × Device :=
  let stored := d.setTables (d.tbs.writeGaits r data d.gaitJudge)
  (.done [], if d.mhu.mode = .stand ∧ r.covers d.gpe.current = true then stored.currentRecordWritten else stored)

/-! ## JOINT (R89, R90) -/

/-- The first joint of a range whose limits exclude an angle of its leg's poses (R90). -/
def excludedJoint (t : TableStore) (r : EntryRange) : Option Joint :=
  Joint.all.find? fun j =>
    r.covers j.number &&
      !((t.jointAt j).allows ((t.pose.get j.leg).setDown.get j.ix)
        && (t.jointAt j).allows ((t.pose.get j.leg).reach.get j.ix)
        && (t.jointAt j).allows ((t.pose.get j.leg).sit.get j.ix))

def writeJoint (r : EntryRange) (data : List Byte) (d : Device) : Answer × Device :=
  let t := d.tbs.writeJoints r data
  if d.armed then
    match excludedJoint t r with
    | some j => (.refusedInvalid .joint j.number, d)
    | none => (.done [], d.setTables t)
  else (.done [], d.setTables { t with poseValid := false })

/-! ## POSE (R91) -/

/-- While armed all four records are judged as the write would leave them (R91; log 23). -/
def writePose (r : EntryRange) (data : List Byte) (d : Device) : Answer × Device :=
  let t := d.tbs.writePoses r data
  if d.armed then
    match t.firstInvalidPose with
    | some l => (.refusedInvalid .pose l.number, d)
    | none => (.done [], d.setTables t)
  else (.done [], d.setTables { t with poseValid := false })

/-! ## LIFT_PROFILE (R92) -/

def writeLiftProfile (r : EntryRange) (data : List Byte) (d : Device) : Answer × Device :=
  let t := d.tbs.writeProfile r data
  if d.armed then
    match peakBreak t.liftProfile with
    | some k => (.refusedInvalid .liftProfile k, d)
    | none => (.done [], d.setTables t)
  else (.done [], d.setTables t)

/-! ## LINK_CONFIG and DEVICE_CONFIG (R116, R162, R168) -/

def writeLinkConfig (data : List Byte) (d : Device) : Answer × Device :=
  (.done [], d.setTables { d.tbs with linkConfig := linkConfigOfBytes data })

/-- ALERT follows the new enables at once (R167, R168). -/
def writeDeviceConfig (data : List Byte) (d : Device) : Answer × Device :=
  (.done [], (d.setTables { d.tbs with deviceConfig := deviceConfigOfBytes data }).refreshAlert)

/-! ## The judgement of a write (R157) -/

/-- The modes in which a write is refused with REFUSED_MODE (R157). -/
def writeBarred (d : Device) (t : TableId) (r : EntryRange) : Bool :=
  let moving := d.mhu.mode = .walk || d.mhu.mode = .hold
  match t with
  | .gait => moving && r.covers d.gpe.current
  | .joint => false
  | .pose => false
  | .liftProfile => moving
  | .linkConfig => d.armed
  | .deviceConfig => d.armed

/-- A write that has passed structure, range and mode. -/
def writeTable (t : TableId) (r : EntryRange) (data : List Byte) (d : Device) : Answer × Device :=
  match t with
  | .gait => d.writeGait r data
  | .joint => d.writeJoint r data
  | .pose => d.writePose r data
  | .liftProfile => d.writeLiftProfile r data
  | .linkConfig => d.writeLinkConfig data
  | .deviceConfig => d.writeDeviceConfig data

/-- A write of a known table: structure, then range, then mode, then the table's own rules (R156, R157). -/
def judgeWrite (t : TableId) (r : EntryRange) (data : List Byte) (d : Device) : Answer × Device :=
  if data.length ≠ r.count * t.entrySize then (.malformed, d)
  else if !r.inTable t then (.refusedRange, d)
  else if d.writeBarred t r then (.refusedMode, d)
  else d.writeTable t r data

/-- TABLE_WRITE. A write naming an unknown table is REFUSED_RANGE whatever its size (R157); one too short to name its
table, first entry or count is MALFORMED (log 22). -/
def tableWrite (rest : List Byte) (d : Device) : Answer × Device :=
  match rest with
  | [] => (.malformed, d)
  | code :: more =>
    match TableId.ofCode code.toNat with
    | none => (.refusedRange, d)
    | some t =>
      match more with
      | first :: count :: data => d.judgeWrite t ⟨first.toNat, count.toNat⟩ data
      | _ => (.malformed, d)

/-! ## Reads (R158, R175) -/

/-- The payload of a read. -/
def readPayload (d : Device) (t : TableId) (r : EntryRange) : List Byte :=
  byte1 t.code ++ byte1 r.first ++ byte1 r.count ++ r.indexes.flatMap (d.tbs.readEntry t) ++ d.tbs.readFlags t r

/-- TABLE_READ (R158). -/
def tableRead (rest : List Byte) (d : Device) : Answer × Device :=
  match rest with
  | [code, first, count] =>
    match TableId.ofCode code.toNat with
    | none => (.refusedRange, d)
    | some t =>
      let r : EntryRange := ⟨first.toNat, count.toNat⟩
      if r.inTable t then (.done (d.readPayload t r), d) else (.refusedRange, d)
  | _ => (.malformed, d)

end Device

/-- TABLE_WRITE (R157). -/
def execTableWrite (tag : Byte) (rest : List Byte) (s : State) : Host.Outcome State Fault Refusal :=
  s.manage kindTableWrite tag (Device.tableWrite rest)

/-- TABLE_READ (R158). -/
def execTableRead (tag : Byte) (rest : List Byte) (s : State) : Host.Outcome State Fault Refusal :=
  s.manage kindTableRead tag (Device.tableRead rest)

end Sys2Proof.Machine
end

