-- ==== Sys2Proof/Machine/Dispatch.lean ====
section
/-! DEFINITION. The meaning of every command: one arm for each constructor of Instr. -/

namespace Sys2Proof.Machine

def exec (i : Instr) (s : State) : Host.Outcome State Fault Refusal :=
  match i with
  | .powerOn => Sys2Proof.Machine.execPowerOn s
  | .resetPin => Sys2Proof.Machine.execResetPin s
  | .logicBrownout => Sys2Proof.Machine.execLogicBrownout s
  | .resetEnd last => Sys2Proof.Machine.execResetEnd last s
  | .cycleFrame body => Sys2Proof.Machine.execCycleFrame body s
  | .frameDropped run => Sys2Proof.Machine.execFrameDropped run s
  | .malformedRequest body => Sys2Proof.Machine.execMalformedRequest body s
  | .tableWrite tag rest => Sys2Proof.Machine.execTableWrite tag rest s
  | .tableRead tag rest => Sys2Proof.Machine.execTableRead tag rest s
  | .readState tag rest => Sys2Proof.Machine.execReadState tag rest s
  | .arm tag rest => Sys2Proof.Machine.execArm tag rest s
  | .disarm tag rest => Sys2Proof.Machine.execDisarm tag rest s
  | .hold tag rest => Sys2Proof.Machine.execHold tag rest s
  | .resume tag rest => Sys2Proof.Machine.execResume tag rest s
  | .sit tag rest => Sys2Proof.Machine.execSit tag rest s
  | .restart tag rest => Sys2Proof.Machine.execRestart tag rest s
  | .clearFactors tag rest => Sys2Proof.Machine.execClearFactors tag rest s
  | .clearFaults tag rest => Sys2Proof.Machine.execClearFaults tag rest s
  | .ident tag rest => Sys2Proof.Machine.execIdent tag rest s
  | .restartReset => Sys2Proof.Machine.execRestartReset s
  | .transmitComplete => Sys2Proof.Machine.execTransmitComplete s
  | .silenceExpiry => Sys2Proof.Machine.execSilenceExpiry s
  | .localCycle => Sys2Proof.Machine.execLocalCycle s
  | .preambleEnd link => Sys2Proof.Machine.execPreambleEnd link s
  | .breakEnd link => Sys2Proof.Machine.execBreakEnd link s
  | .commandFrameEnd link => Sys2Proof.Machine.execCommandFrameEnd link s
  | .echoMismatch link bitTime readBack => Sys2Proof.Machine.execEchoMismatch link bitTime readBack s
  | .frameAbandoned link => Sys2Proof.Machine.execFrameAbandoned link s
  | .replyWindowExpiry link heard => Sys2Proof.Machine.execReplyWindowExpiry link heard s
  | .shortReply link heard => Sys2Proof.Machine.execShortReply link heard s
  | .replyComplete link heard => Sys2Proof.Machine.execReplyComplete link heard s

end Sys2Proof.Machine
end

