-- ==== Sys2Proof/WellFormed.lean ====
section
/-!
DEFINITION. The operands a command can carry: what the surroundings and the checks of R149 guarantee before the
event a constructor names can be said to have happened.
-/

namespace Sys2Proof

open Machine

/-- A management body that reached the part: it fits in the longest frame (R172). -/
def fitsFrame (i : Instr) : Bool :=
  match requestBody i with
  | some body => body.length + 5 ≤ Config.longestFrame
  | none => true

/-- Whether the operands make up the event the constructor names. A slot event is judged against its link (log 9); here
only the lengths that no window rules out are kept: a window of 8 to 64 bit times, and a false start's verification past
its end; a character is known at sample 10 of its stop bit, and a silence of 4 bit times ends a short reply (R126). -/
def Instr.wellFormed (i : Instr) : Bool :=
  match i with
  | .cycleFrame body => body.length = Config.cycleBodyLength
  | .frameDropped run => frameCommand run = some (.frameDropped run)
  | .malformedRequest body => managementCommand body = .malformedRequest body && fitsFrame i
  | .tableWrite _ _ => fitsFrame i
  | .tableRead _ _ => fitsFrame i
  | .readState _ _ => fitsFrame i
  | .arm _ _ => fitsFrame i
  | .disarm _ _ => fitsFrame i
  | .hold _ _ => fitsFrame i
  | .resume _ _ => fitsFrame i
  | .sit _ _ => fitsFrame i
  | .restart _ _ => fitsFrame i
  | .clearFactors _ _ => fitsFrame i
  | .clearFaults _ _ => fitsFrame i
  | .ident _ _ => fitsFrame i
  | .echoMismatch _ bitTime _ => bitTime < 14 + 18 * 10
  | .replyWindowExpiry _ heard => 16 * 8 - 7 ≤ heard.length && heard.length ≤ 16 * 64 + 7
  | .shortReply _ heard => 155 + 64 ≤ heard.length
  | .replyComplete _ heard => 155 * expectedChars .foot ≤ heard.length
  | .powerOn => true
  | .resetPin => true
  | .logicBrownout => true
  | .resetEnd _ => true
  | .restartReset => true
  | .transmitComplete => true
  | .silenceExpiry => true
  | .localCycle => true
  | .preambleEnd _ => true
  | .breakEnd _ => true
  | .commandFrameEnd _ => true
  | .frameAbandoned _ => true

end Sys2Proof
end

