-- ==== Sys2Proof/Safety.lean ====
section
/-!
DEFINITION. What the manual says always holds of the machine, block by block: the predicates of the invariants that
the statements name. Each is a Bool, so that it can be checked on a state.
-/

namespace Sys2Proof.Machine

/-- The bytes of a field of a report, by its offset and size. -/
def fieldAt (bs : List Byte) (off size : Nat) : List Byte := (bs.drop off).take size

namespace Device

/-! ## Factors and ALERT (R162, R168) -/

/-- Every flag is set exactly when its count is above 0, and every count stays within 0..255 (R162). -/
def factorsCoherent (d : Device) : Bool :=
  Factor.all.all fun f => (d.factor f).flag == decide (0 < (d.factor f).count) && decide ((d.factor f).count ≤ 255)

/-- ALERT follows its condition (R168). -/
def alertFollows (d : Device) : Bool := d.eeu.alert == d.alertDue

/-! ## Modes and holds (R96, R101, R112) -/

/-- The bottom record was pushed in STAND or WALK and every record above it in HOLD (R112). -/
def stackModes : List HoldRecord → Bool
  | [] => true
  | r :: rs => (r.modeAtPush = .stand || r.modeAtPush = .walk) && rs.all fun q => q.modeAtPush = .hold

/-- At most four records, no hold twice, HOLD exactly while the stack is not empty, a sit sub-state exactly in
SAFE_SIT, frames since silence within 0..2 (R96). -/
def holdsCoherent (d : Device) : Bool :=
  decide (d.mhu.stack.length ≤ 4) && decide (d.mhu.stack.map HoldRecord.hold).Nodup
  && (decide (d.mhu.mode = .hold) == !d.mhu.stack.isEmpty)
  && (d.mhu.sit.isSome == decide (d.mhu.mode = .safeSit))
  && decide (d.mhu.framesSinceSilence ≤ 2) && stackModes d.mhu.stack

/-! ## Legs (R22) -/

/-- The modes in which a leg state can be held (R22). -/
def stateFits : Mode → LegState → Bool
  | .unarmed, s => s = .unset
  | .safeSit, s => s = .unset
  | .stand, s => s = .stance
  | .walk, s => s = .stance || s = .liftWait || s = .swing || s = .landing
  | .hold, s => s = .stance || s = .liftWait || s = .setDown || s = .hang

def legsFitMode (d : Device) : Bool := Leg.all.all fun l => stateFits d.mhu.mode (d.legState l)

/-! ## Gait selection and the master phase (R7, R8) -/

/-- The pending gait index differs from the current one, and outside WALK and HOLD it is absent; in UNARMED and
SAFE_SIT the master phase is 0 (R7, R8, R15). -/
def gaitCoherent (d : Device) : Bool :=
  decide (d.gpe.waiting ≠ some d.gpe.current)
  && (d.mhu.mode = .walk || d.mhu.mode = .hold || d.gpe.waiting.isNone)
  && (d.mhu.mode = .stand || d.mhu.mode = .walk || d.mhu.mode = .hold || d.gpe.phase = 0)

/-- The current gait record is the ground of a walk: the mode is WALK, or the bottom hold record was pushed in WALK. -/
def walkUnderWay (d : Device) : Bool := d.mhu.mode = .walk || d.mhu.stack.any fun r => r.modeAtPush = .walk

/-- In STAND, WALK and HOLD the master phase, and the one of every hold record, lies on the ring of the current gait
record (R8). It rests on a gait being current and valid while a walk is under way, and on every valid flag being
earned (R4, R5). -/
def phaseOnRing (d : Device) : Bool :=
  d.tbs.gait.toList.all (fun g => !g.valid || g.record.isValid)
  && (d.mhu.mode = .unarmed || d.mhu.mode = .safeSit || decide (d.gpe.phase < d.gaitRecord.n))
  && d.mhu.stack.all (fun r => decide (r.phase < d.gaitRecord.n))
  && (!d.walkUnderWay || d.gaitEntry.valid)

/-! ## Margins (R56, R64) -/

def marginInRange (m : Int) : Bool := decide (-2047 ≤ m) && decide (m ≤ 2047)

def marginsInRange (d : Device) : Bool :=
  marginInRange d.bal.current && Leg.all.all fun l => marginInRange (d.bal.prospective.get l)

/-! ## Contact Filters (R43, R48) -/

/-- The contact state that the judgements of R48 give. -/
def contactOf (live : Bool) (r : FilterRecord) : Contact := if live && !r.faultSeen then r.majority else .unknown

def filterCoherent (d : Device) (l : Leg) : Bool :=
  decide (d.contact l = contactOf (d.node ⟨l, .foot⟩).live (d.cfl.get l))
  && decide ((d.cfl.get l).majority = (d.cfl.get l).samples.majority)
  && decide ((d.cfl.get l).chatter ≤ 255)

def filtersCoherent (d : Device) : Bool := Leg.all.all d.filterCoherent

/-! ## Limb links (R115, R121, R123) -/

def transmitting (k : LinkController) : Bool := k.state = .lowBreak || k.state = .sending

/-- The bit time at which a frame was abandoned or cut is one of the break's in BREAK, one of the command frame's in
SENDING, and there is none in any other state (R124, R125). -/
def abandonedInside (k : LinkController) : Bool :=
  match k.abandoned with
  | none => true
  | some t => (k.state = .lowBreak && t < 14) || (k.state = .sending && 14 ≤ t && t < 194)

/-- The receiver of an open slot has one to six samples before it and has taken at most seven of the slot's; outside the
slots the line before it is quiet (R118, R126). -/
def tailCoherent (k : LinkController) : Bool :=
  1 ≤ k.tail.length && k.tail.length ≤ 6 && k.early ≤ 7
  && (k.state.openSlot.isSome || (k.tail = quietLine && k.early = 0))

/-- A command is in flight exactly in BREAK and SENDING, only there can its frame be abandoned, an IDLE link has an
empty pending slot, the reply buffer is empty between the part's steps, and every count stays within 0..255. -/
def linkCoherent (k : LinkController) : Bool :=
  (k.inFlight.isSome == transmitting k) && abandonedInside k && tailCoherent k
  && (k.state ≠ .idle || k.waiting.isNone) && k.buffer.isEmpty
  && k.missTotals.toList.all (fun n => decide (n ≤ 255)) && decide (k.noise ≤ 255) && decide (k.bitErrors ≤ 255)

def linksCoherent (d : Device) : Bool := Leg.all.all fun l => linkCoherent (d.link l)

/-! ## Upstream Port (R147, R155, R160) -/

/-- At most two replies wait; an idle transmitter leaves nothing waiting; the two timers never run together; while
restart pending is yes both are stopped, no status frame waits and a frame is being sent; every count stays within
0..255. -/
def portCoherent (d : Device) : Bool :=
  decide (d.upp.replyQueue.length ≤ 2)
  && (d.upp.sending.isSome || (d.upp.statusSlot.isNone && d.upp.replyQueue.isEmpty))
  && (d.upp.silenceTimer.isNone || d.upp.localTimer.isNone)
  && (!d.upp.restartPending ||
      (d.upp.silenceTimer.isNone && d.upp.localTimer.isNone && d.upp.statusSlot.isNone && d.upp.sending.isSome
        && (d.restartReplyOnWire || !d.upp.replyQueue.isEmpty)))
  && decide (d.upp.crcCount ≤ 255) && decide (d.upp.formCount ≤ 255) && decide (d.upp.duplicateCount ≤ 255)
  && decide (d.upp.droppedCount ≤ 255)

/-! ## Tables (R89 to R92) -/

/-- The joint and lift-profile flags say what the tables hold, a set pose flag is earned, and while the part is armed
every pose lies within its joints' limits (R89 to R92). -/
def tablesCoherent (d : Device) : Bool :=
  (d.tbs.jointValid == d.tbs.firstInvalidJoint.isNone)
  && (d.tbs.liftValid == (peakBreak d.tbs.liftProfile).isNone)
  && (!d.tbs.poseValid || d.tbs.firstInvalidPose.isNone)
  && (d.mhu.mode = .unarmed || (d.tbs.jointValid && d.tbs.poseValid && d.tbs.liftValid))

/-! ## Node records (R134, R142) -/

/-- Three consecutive misses exactly mark a node that is not live or has never answered: a live node has fewer than
three; ages stay within 0..4. -/
def supervisorCoherent (d : Device) : Bool :=
  Node.all.all (fun n => decide ((d.node n).misses ≤ 3) && (!(d.node n).live || decide ((d.node n).misses ≤ 2)))
  && Joint.all.all (fun j => decide (((d.nsv.voltages.get j.leg).get j.ix).age ≤ 4))
  && decide (d.nsv.estimate = d.leastReport)

/-! ## Reports (R174, R177) -/

/-- What the body of a status frame of a cycle cause holds, field by field at the offsets of R174. -/
def statusReads (d : Device) (cause : Byte) (b : List Byte) : Prop :=
  b.length = 81
  ∧ fieldAt b 0 2 = [cause, d.upp.lastTag.getD 0xFF]
  ∧ fieldAt b 2 3 = [BitVec.ofNat 8 d.mhu.mode.code, BitVec.ofNat 8 (SitState.code d.mhu.sit),
      BitVec.ofNat 8 d.mhu.stack.length]
  ∧ (d.mhu.stack = [] → fieldAt b 5 2 = [0, 0xFF])
  ∧ (∀ below top, d.mhu.stack = below ++ [top] →
      fieldAt b 5 2 = [BitVec.ofNat 8 top.hold.causeCode, BitVec.ofNat 8 (top.hold.subject.getD 0xFF)])
  ∧ fieldAt b 7 2 = [BitVec.ofNat 8 d.gpe.current, BitVec.ofNat 8 ((d.gpe.waiting.map Fin.val).getD 0xFF)]
  ∧ fieldAt b 9 2 = bytes16 d.gpe.phase
  ∧ (∀ l : Leg, byteAt b (11 + l.number) = BitVec.ofNat 8 (d.legState l).code
      ∧ fieldAt b (15 + 2 * l.number) 2
          = bytes16 (if d.legState l = .swing then (d.leg l).progress.getD 0xFFFF else 0xFFFF)
      ∧ fieldAt b (25 + 2 * l.number) 2 = bytes16s (d.bal.prospective.get l)
      ∧ byteAt b (59 + l.number) = BitVec.ofNat 8 (d.contact l).code
      ∧ fieldAt b (63 + 2 * l.number) 2 = bytes16 (d.cfl.get l).lastLoad)
  ∧ fieldAt b 23 2 = bytes16s d.bal.current
  ∧ fieldAt b 33 2 = [BitVec.ofNat 8 d.bal.freshness.code, BitVec.ofNat 8 d.bal.age]
  ∧ (∀ j : Joint, fieldAt b (35 + 2 * j.number) 2 = (match (d.jointState j).reported with
      | some x => bytes16s x
      | none => [0x00, 0x80]))
  ∧ (∀ n : Node, (u16 b 71).testBit n.number = (d.node n).live)
  ∧ fieldAt b 73 2 = bytes16 (d.nsv.estimate.getD 0xFFFF)
  ∧ u8 b 75 = (if d.nsv.level1 = .low then 1 else 0) + (if d.nsv.level2 = .low then 2 else 0)
  ∧ (∀ f : Factor, (set32 b 76).getLsbD f.bit = (d.factor f).flag)
  ∧ byteAt b 80 = BitVec.ofNat 8 d.upp.droppedCount

/-! ## Requests -/

/-- The record of a factor raised once more (R163). -/
def raisedOnce (d : Device) (f : Factor) : FactorRecord := ⟨true, min ((d.factor f).count + 1) 255⟩

/-- A hold has been entered: from STAND or WALK with no hold the mode has become HOLD with that record alone, unless the
supply has then demanded the sit (R105, R144). -/
def heldFor (d e : Device) (h : Hold) : Prop :=
  (d.mhu.mode = .stand ∨ d.mhu.mode = .walk) → d.mhu.stack = [] →
    (e.mhu.mode = .hold ∧ ∃ r, e.mhu.stack = [r] ∧ r.hold = h)
    ∨ (e.mhu.mode = .safeSit ∧ (e.factor .supplySit).flag = true)

/-- No hold has been entered: modes and holds stand, unless the supply has demanded the sit (R144). -/
def noneHeld (d e : Device) : Prop :=
  e.mhu = d.mhu ∨ (e.mhu.mode = .safeSit ∧ (e.factor .supplySit).flag = true)

/-- The outcome of a slot in which a node gave no good reply (R135). A miss that is not the third in a row of a live
node counts and changes nothing else at the node. At that third the node is no longer live, NODE_LOST is latched, a
lost foot node's contact is UNKNOWN (R49), and the loss is reacted to: for a drive when NODE_LOST was not latched
already (R137; log 16), with hold NODE when its leg is supporting or in SWING or LANDING; for a foot node always, with
hold NODE when its leg is in SWING or LANDING (R139). -/
def missedBy (d e : Device) (n : Node) : Prop :=
  let lost := (d.node n).misses = 2 ∧ (d.node n).live = true
  let reacts := n.slot = .foot ∨ (d.node n).latched.nodeLost = false
  let inAir := d.legState n.leg = .swing ∨ d.legState n.leg = .landing
  let holds := inAir ∨ (n.slot ≠ .foot ∧ d.supporting n.leg = true)
  (¬ lost → e.node n = { d.node n with misses := min ((d.node n).misses + 1) 3 }
    ∧ e.cfl = d.cfl ∧ e.factor .nodeLost = d.factor .nodeLost ∧ d.noneHeld e)
  ∧ (lost →
    e.node n = { d.node n with live := false, misses := 3, latched := { (d.node n).latched with nodeLost := true } }
    ∧ (n.slot = .foot → e.contact n.leg = .unknown)
    ∧ e.factor .nodeLost = (if reacts then d.raisedOnce .nodeLost else d.factor .nodeLost)
    ∧ (reacts → holds → d.heldFor e (.node n))
    ∧ (¬ (reacts ∧ holds) → d.noneHeld e))
  ∧ ∀ m, m ≠ n → e.node m = d.node m

/-- The port once a reply has joined the queue and an idle transmitter has begun (R155). -/
def portReplied (d : Device) (kind tag : Byte) (a : Answer) : UpstreamPort :=
  ((d.enqueue (replyBody kind tag a)).pump).upp

/-- The device with another port. -/
def withPort (d : Device) (u : UpstreamPort) : Device := { d with upp := u }

/-- A request taken now is executed: no restart pending, fewer than two replies waiting (R155, R160). -/
def ready (d : Device) : Bool := d.running && !d.upp.restartPending && decide (d.upp.replyQueue.length < 2)

/-- A cycle frame received now is judged by its tag (R150, R160). -/
def listening (d : Device) : Bool := d.running && !d.upp.restartPending

end Device

/-- The state with another device. -/
def State.withDev (s : State) (d : Device) : State := { s with dev := d }

/-- The state with another port. -/
def State.withPort (s : State) (u : UpstreamPort) : State := s.withDev (s.dev.withPort u)

/-- The state in which a request of this kind and tag has been answered and nothing else has happened. -/
def State.replied (s : State) (kind tag : Byte) (a : Answer) : State := s.withPort (s.dev.portReplied kind tag a)

end Sys2Proof.Machine
end

