-- ==== Sys2Proof/Certificates/Slice0/Obligations.lean ====
section
/-!
DEFINITION. The statements for the provers, in the order of the blocks: step and resets, upstream link, cycles,
requests, tables, modes and holds, limb links, contact, supervision, balance, composition, gait, and the invariants.
-/

open Sys2Proof Sys2Proof.Machine

/-! ## The step and the resets -/

/-- The step takes the command at the front of the queue and runs it with the queue's rest, which the command leaves as
it is; on an empty queue the block idles, which is the model's choice (log 1). -/
def Obligations.StepRunsFrontCommand : Prop :=
  ∀ (c : Instr) (q : List Instr) (s : State),
    step (s.withPending (c :: q)) = exec c (s.withPending q)
    ∧ (∀ t, exec c s = .next t → t.pending = s.pending)
    ∧ step (s.withPending []) = .next (s.withPending [])

/-- POWER_ON, RESET_PIN and LOGIC_BROWNOUT put every block, the tables with it, in its power-up-class state and
release ALERT; the reset is then in progress (that a second cause joins the first is log 6, the value of a voltage
report log 28, the line before a slot log 41). -/
def Obligations.PowerUpClassResetStatesEveryBlock : Prop :=
  ∀ (s : State) (i : Instr) (c : PowerCause),
    (i = .powerOn ∧ c = .powerUp ∨ i = .resetPin ∧ c = .resetPin ∨ i = .logicBrownout ∧ c = .logicBrownout) →
    ∃ t, exec i s = .next t ∧ t.pending = s.pending
      ∧ c ∈ t.dev.eeu.resetting ∧ (∀ k ∈ s.dev.eeu.resetting, k ∈ t.dev.eeu.resetting) ∧ t.dev.eeu.alert = false
      ∧ (∀ f, t.dev.factor f = ⟨false, 0⟩)
      ∧ t.dev.gpe.current = 0 ∧ t.dev.gpe.waiting = none ∧ t.dev.gpe.phase = 0
      ∧ (∀ l, t.dev.leg l = ⟨.unset, none, none, 0, 0, 0, false, false, none, none⟩)
      ∧ t.dev.bal = ⟨none, .none, 0, -2047, ⟨-2047, -2047, -2047, -2047⟩⟩
      ∧ (∀ l, t.dev.cfl.get l
            = ⟨⟨false, false, false⟩, ⟨false, false, false⟩, .absent, .unknown, false, 0, false, 0⟩)
      ∧ (∀ l, (t.dev.lcc.lanes.get l).segment = none) ∧ (∀ j, t.dev.jointState j = ⟨none, 0, none, none⟩)
      ∧ t.dev.lcc.errors = ⟨0, 0, 0⟩
      ∧ t.dev.mhu = ⟨.unarmed, none, [], 0, false⟩
      ∧ (∀ l, t.dev.link l = ⟨.preamble, none, none, none, ⟨2, 24, 0xC867, 0xFFFF⟩, [], [true], 0, ⟨0, 0, 0, 0⟩, 0, 0,
            ⟨false, false, false⟩⟩)
      ∧ (∀ n, t.dev.node n = ⟨false, 0, noFaults, noFaults⟩)
      ∧ (∀ j : Joint, ((t.dev.nsv.voltages.get j.leg).get j.ix).age = 4)
      ∧ t.dev.nsv.estimate = none ∧ t.dev.nsv.level1 = .normal ∧ t.dev.nsv.level2 = .normal
      ∧ t.dev.upp = ⟨none, none, none, none, [], none, false, 0, 0, 0, 0⟩
      ∧ (∀ g, (t.dev.tbs.gaitAt g).valid = false
          ∧ (t.dev.tbs.gaitAt g).record.n = 0 ∧ (t.dev.tbs.gaitAt g).record.e = 0
          ∧ (t.dev.tbs.gaitAt g).record.mLift = 0 ∧ (t.dev.tbs.gaitAt g).record.sEarly = 0
          ∧ (t.dev.tbs.gaitAt g).record.tWait = 0 ∧ (t.dev.tbs.gaitAt g).record.tLand = 0
          ∧ ∀ l, (t.dev.tbs.gaitAt g).record.legs.get l
              = ⟨0, 0, ⟨false, false, false, false⟩, ⟨false, false, false, false⟩, ⟨0, 0, 0⟩⟩)
      ∧ (∀ j, t.dev.tbs.jointAt j = ⟨0, 0, 0, .off, 0, 0, 0, 0, 0, noFaults⟩) ∧ t.dev.tbs.jointValid = false
      ∧ (∀ l, t.dev.tbs.pose.get l = ⟨⟨0, 0, 0⟩, ⟨0, 0, 0⟩, ⟨0, 0, 0⟩, ⟨0, 0, 0⟩⟩) ∧ t.dev.tbs.poseValid = false
      ∧ t.dev.tbs.liftProfile.toList
          = [200, 400, 600, 760, 880, 960, 1010, 1024, 1010, 960, 880, 760, 600, 400, 200]
      ∧ t.dev.tbs.liftValid = true
      ∧ t.dev.tbs.linkConfig = ⟨2, 24, 0xC867, 0xFFFF⟩
      ∧ t.dev.tbs.deviceConfig
          = ⟨4, 6, 200, 120, 0, 20, 1024, 420, .flag, 380, .sit, 10, 768, 200, 4, 0, true, .explicit, .explicit⟩

/-- RESET_END starts the part: the reset cause record names the cause that ended last, RESET_DONE is raised, and every
limb link takes the link config and enters PREAMBLE; nothing else changes. -/
def Obligations.ResetEndStartsPart : Prop :=
  ∀ (s : State) (last : PowerCause), last ∈ s.dev.eeu.resetting →
    ∃ t, exec (.resetEnd last) s = .next t ∧ t.pending = s.pending ∧ t.dev.running = true
      ∧ t.dev.eeu.resetCause = (match last with
          | .powerUp => .powerUp
          | .logicBrownout => .logicBrownout
          | .resetPin => .resetPin)
      ∧ t.dev.factor .resetDone = ⟨true, min ((s.dev.factor .resetDone).count + 1) 255⟩
      ∧ (∀ f, f ≠ .resetDone → t.dev.factor f = s.dev.factor f)
      ∧ (∀ l, (t.dev.link l).state = .preamble ∧ (t.dev.link l).settings = s.dev.tbs.linkConfig)
      ∧ t.dev.eeu.alert = t.dev.alertDue
      ∧ t.dev.tbs = s.dev.tbs ∧ t.dev.gpe = s.dev.gpe ∧ t.dev.bal = s.dev.bal ∧ t.dev.cfl = s.dev.cfl
      ∧ t.dev.lcc = s.dev.lcc ∧ t.dev.mhu = s.dev.mhu ∧ t.dev.nsv = s.dev.nsv ∧ t.dev.upp = s.dev.upp

/-- A whole power-on reset, begun and ended, leaves the machine at its reset state whatever it held before: RESET_DONE
is the only factor set, with count 1. The model's own count of free values stands (log 31). -/
def Obligations.PowerOnResetReachesResetState : Prop :=
  ∀ s : State, ∃ t, exec .powerOn s = .next t
    ∧ exec (.resetEnd .powerUp) t
        = .next { dev := { State.reset.dev with freeCount := s.dev.freeCount }, pending := s.pending }
    ∧ State.reset.dev.factor .resetDone = ⟨true, 1⟩
    ∧ (∀ f, f ≠ .resetDone → State.reset.dev.factor f = ⟨false, 0⟩)
    ∧ State.reset.dev.eeu.alert = false

/-- While a reset is in progress every command but those that begin or end a reset leaves the machine as it is (the
model's reading of R145 and R164, log 5). -/
def Obligations.CommandDuringResetDoesNothing : Prop :=
  ∀ (c : Instr) (s : State), s.dev.running = false →
    c ≠ .powerOn → c ≠ .resetPin → c ≠ .logicBrownout → (∀ last, c ≠ .resetEnd last) → exec c s = .next s

/-- RESTART_RESET: when the RESTART reply has been sent every block takes its RESTART values, the tables and their
flags stand, the cause is recorded, RESET_DONE is the only factor set, and the limb links begin their preambles from
the kept link config. How the model knows the frame on the wire for the RESTART reply is log 25; the line before a
slot is log 41. -/
def Obligations.RestartResetKeepsTables : Prop :=
  ∀ s : State, s.dev.running = true → s.dev.restartReplyOnWire = true →
    ∃ t, exec .restartReset s = .next t ∧ t.pending = s.pending
      ∧ t.dev.tbs = s.dev.tbs
      ∧ t.dev.eeu.resetCause = .restartRequest ∧ t.dev.running = true
      ∧ t.dev.factor .resetDone = ⟨true, 1⟩ ∧ (∀ f, f ≠ .resetDone → t.dev.factor f = ⟨false, 0⟩)
      ∧ t.dev.eeu.alert = (s.dev.tbs.deviceConfig.alertEnable && s.dev.tbs.deviceConfig.eventEnables.getLsbD 10)
      ∧ t.dev.mhu = ⟨.unarmed, none, [], 0, false⟩
      ∧ t.dev.gpe.current = 0 ∧ t.dev.gpe.waiting = none ∧ t.dev.gpe.phase = 0
      ∧ (∀ l, t.dev.leg l = ⟨.unset, none, none, 0, 0, 0, false, false, none, none⟩)
      ∧ t.dev.bal = ⟨none, .none, 0, -2047, ⟨-2047, -2047, -2047, -2047⟩⟩
      ∧ (∀ l, t.dev.cfl.get l
            = ⟨⟨false, false, false⟩, ⟨false, false, false⟩, .absent, .unknown, false, 0, false, 0⟩)
      ∧ (∀ l, (t.dev.lcc.lanes.get l).segment = none) ∧ (∀ j, t.dev.jointState j = ⟨none, 0, none, none⟩)
      ∧ t.dev.lcc.errors = ⟨0, 0, 0⟩
      ∧ (∀ l, t.dev.link l = ⟨.preamble, none, none, none, s.dev.tbs.linkConfig, [], [true], 0, ⟨0, 0, 0, 0⟩, 0, 0,
            ⟨false, false, false⟩⟩)
      ∧ (∀ n, t.dev.node n = ⟨false, 0, noFaults, noFaults⟩)
      ∧ (∀ j : Joint, ((t.dev.nsv.voltages.get j.leg).get j.ix).age = 4)
      ∧ t.dev.nsv.estimate = none ∧ t.dev.nsv.level1 = .normal ∧ t.dev.nsv.level2 = .normal
      ∧ t.dev.upp = ⟨none, none, none, none, [], none, false, 0, 0, 0, 0⟩

/-! ## The upstream link -/

/-- The checks of a received frame, in their order (R149): the first that fails drops it, and one that passes them all
is a cycle frame or a management request with the body between its head and its CRC. A run too short for a head and a
CRC fails the length check (log 21). A frame is closed by the first 20 bit times in which every sample is high (R117,
R148; that a false start in them makes the gap begin again is log 43). FRAME_DROPPED of one that fails its CRC raises
the CRC count by 1, of one that fails another check the form count, each stopping at 255; nothing else changes, in any
mode. -/
def Obligations.ReceivedFrameChecksInOrder : Prop :=
  (∀ cs : List RxChar, let bs := cs.map (·.value)
    let body := (bs.take (bs.length - 2)).drop 3
    (cs.any (·.framing) = true → judgeFrame cs = .dropForm)
    ∧ (cs.any (·.framing) = false → 474 < bs.length → judgeFrame cs = .dropForm)
    ∧ (cs.any (·.framing) = false → bs.length ≤ 474 →
        (bs.length < 5 ∨ u8 bs 1 + 256 * u8 bs 2 ≠ bs.length - 5) → judgeFrame cs = .dropForm)
    ∧ (cs.any (·.framing) = false → bs.length ≤ 474 → 5 ≤ bs.length → u8 bs 1 + 256 * u8 bs 2 = bs.length - 5 →
        (crcHolds 0x1021 0xFFFF bs = false → judgeFrame cs = .dropCrc)
        ∧ (crcHolds 0x1021 0xFFFF bs = true →
            (byteAt bs 0 = 0x31 → body.length = 88 → judgeFrame cs = .cycle body)
            ∧ (byteAt bs 0 = 0x31 → body.length ≠ 88 → judgeFrame cs = .dropForm)
            ∧ (byteAt bs 0 = 0x32 → judgeFrame cs = .management body)
            ∧ (byteAt bs 0 ≠ 0x31 → byteAt bs 0 ≠ 0x32 → judgeFrame cs = .dropForm))))
  ∧ (∀ (run : List Bool) (cs : List RxChar), frameChars run = some cs → cs ≠ [] ∧ 320 ≤ run.length
      ∧ ∀ n, run.length - 320 ≤ n → sampleAt run n = true)
  ∧ ∀ (run : List Bool) (cs : List RxChar) (s : State), s.dev.running = true → frameChars run = some cs →
    (judgeFrame cs = .dropCrc →
      exec (.frameDropped run) s = .next (s.withPort { s.dev.upp with crcCount := min (s.dev.upp.crcCount + 1) 255 }))
    ∧ (judgeFrame cs = .dropForm →
      exec (.frameDropped run) s = .next (s.withPort { s.dev.upp with formCount := min (s.dev.upp.formCount + 1) 255 }))

/-- A frame command survives the wire: the frame the host sends for it, on an undisturbed line and followed by its gap,
is received whole, passes every check of R149 and is that command again, with its tag and every byte of its body. -/
def Obligations.HostFrameIsReadBack : Prop :=
  ∀ (i : Instr) (bs : List Byte), i.wellFormed = true → hostFrame i = some bs →
    frameCommand (frameOnLine bs) = some i

/-- The receiver (R118). Hunting, it passes over every sample that is not low after a high one; the first that is
starts a candidate. A start bit with at least two low samples of 3, 5 and 7 is accepted: each data bit and the stop
bit take the majority of their samples 8, 9 and 10, so that one disturbed sample in a bit is outvoted; a low stop bit
is a framing error; the character is noisy exactly when some start sample is high or the samples of a bit differ; and
the hunt goes on from sample 11 of the stop bit. With fewer than two low it is a false start, which gives no
character, and the hunt goes on from the next sample. -/
def Obligations.SingleSampleNoiseIsOutvoted : Prop :=
  (∀ (b : Byte) (line rest : List Bool) (now : Nat), line.length = 160 → sampleAt line 0 = false →
    majority3 ⟨sampleAt line 3, sampleAt line 5, sampleAt line 7⟩ = false →
    let vote : Nat → Bool := fun n =>
      majority3 ⟨sampleAt line (16 * n + 8), sampleAt line (16 * n + 9), sampleAt line (16 * n + 10)⟩
    (∀ i : Fin 8, vote (i + 1) = b.getLsbD i) →
    let c := sampledChar (line ++ rest)
    huntFrom now 0 true (line ++ rest)
      = ⟨now, c⟩ :: huntFrom (now + 155) 0 (sampleAt line 154) (line.drop 155 ++ rest)
    ∧ ∃ noisy, receiveChar c = some { value := b, noisy := noisy, framing := !vote 9 }
      ∧ (noisy = false ↔ sampleAt line 3 = false ∧ sampleAt line 5 = false ∧ sampleAt line 7 = false
          ∧ ∀ n, 1 ≤ n → n ≤ 9 → sampleAt line (16 * n + 8) = sampleAt line (16 * n + 9)
              ∧ sampleAt line (16 * n + 9) = sampleAt line (16 * n + 10)))
  ∧ (∀ (line rest : List Bool) (now : Nat), line.length = 8 → sampleAt line 0 = false →
      majority3 ⟨sampleAt line 3, sampleAt line 5, sampleAt line 7⟩ = true →
      receiveChar (sampledChar (line ++ rest)) = none
      ∧ huntFrom now 0 true (line ++ rest)
          = ⟨now, sampledChar (line ++ rest)⟩ :: huntFrom (now + 8) 0 (sampleAt line 7) rest)
  ∧ (∀ (before b : Bool) (line : List Bool) (now : Nat), (before = false ∨ b = true) →
      huntFrom now 0 before (b :: line) = huntFrom (now + 1) 0 b line)
  ∧ ∀ (x : Sample3) (b : Bool), majority3 x = b ↔ (x.a = b ∧ x.b = b) ∨ (x.a = b ∧ x.c = b) ∨ (x.b = b ∧ x.c = b)

/-- TRANSMIT_COMPLETE: when a frame that is not the RESTART reply and its gap end, the status frame that waits goes
next, else the oldest reply, else the transmitter is idle; nothing else changes. -/
def Obligations.TransmitterSendsStatusBeforeReplies : Prop :=
  ∀ s : State, s.dev.running = true → s.dev.upp.sending ≠ none → s.dev.restartReplyOnWire = false →
    (∀ body, s.dev.upp.statusSlot = some body →
      exec .transmitComplete s
        = .next (s.withPort { s.dev.upp with sending := some (.status body), statusSlot := none }))
    ∧ (s.dev.upp.statusSlot = none → ∀ reply more, s.dev.upp.replyQueue = reply :: more →
      exec .transmitComplete s
        = .next (s.withPort { s.dev.upp with sending := some (.reply reply), replyQueue := more }))
    ∧ (s.dev.upp.statusSlot = none → s.dev.upp.replyQueue = [] →
      exec .transmitComplete s = .next (s.withPort { s.dev.upp with sending := none }))

/-! ## Cycles -/

/-- A cycle frame received whole is judged by its tag (R150): a duplicate is counted and changes nothing else; any
other is accepted, its tag becomes the last accepted tag, and SEQ_GAP is raised once exactly when it does not follow
the last accepted tag. -/
def Obligations.CycleFrameJudgedByTag : Prop :=
  ∀ (body : List Byte) (s : State), body.length = 88 → s.dev.listening = true →
    (s.dev.upp.lastTag = some (byteAt body 0) →
      exec (.cycleFrame body) s
        = .next (s.withPort { s.dev.upp with duplicateCount := min (s.dev.upp.duplicateCount + 1) 255 }))
    ∧ (s.dev.upp.lastTag ≠ some (byteAt body 0) →
      ∃ t, exec (.cycleFrame body) s = .next t ∧ t.dev.upp.lastTag = some (byteAt body 0)
        ∧ t.dev.upp.duplicateCount = s.dev.upp.duplicateCount
        ∧ t.dev.factor .seqGap =
            match s.dev.upp.lastTag with
            | none => s.dev.factor .seqGap
            | some last => if byteAt body 0 = last + 1 then s.dev.factor .seqGap
                else ⟨true, min ((s.dev.factor .seqGap).count + 1) 255⟩)

/-- An accepted cycle frame: the local cycle timer stops and the silence timer restarts with the full silence limit;
the clamped body state replaces the Balance Unit's and is FRESH; the clamped segments and errors replace the lanes';
the frame counts toward frames since silence; the walk flag is kept; and one status frame of cause FRAME is formed,
which carries every field of R174 as the block then holds it (statusReads, with the codes of R171) and which an idle
transmitter begins to send. Tables, node records, filters and port counts stand. The cycle acts in the order of R151:
after the tag, the timers, the body state and the segments come the gait index, the walk flag, the counter update
(R24), in WALK the phase step (R9), the margins (R67), the brace check (R71) and the compositions (R75), each on what
the one before it has left. -/
def Obligations.AcceptedFrameHandsContentToBlocks : Prop :=
  (∀ (body : List Byte) (s : State), body.length = 88 → s.dev.listening = true →
    s.dev.upp.lastTag ≠ some (byteAt body 0) →
    ∃ t status, exec (.cycleFrame body) s = .next t ∧ t.pending = s.pending
      ∧ t.dev.upp.localTimer = none
      ∧ t.dev.upp.silenceTimer = some (s.dev.tbs.deviceConfig.lSil * s.dev.tbs.deviceConfig.tCyc)
      ∧ t.dev.bal.freshness = .fresh ∧ t.dev.bal.age = 0
      ∧ t.dev.bal.body = some
          { com := { x := clampInt (-500) 500 (s16 body 4), y := clampInt (-500) 500 (s16 body 6) }
            height := clampInt 100 800 (s16 body 8)
            roll := clampInt (-2048) 2048 (s16 body 10)
            pitch := clampInt (-2048) 2048 (s16 body 12)
            feet := .ofFn fun l => { x := clampInt (-2000) 2000 (s16 body (14 + 4 * l.number))
                                     y := clampInt (-2000) 2000 (s16 body (16 + 4 * l.number)) } }
      ∧ t.dev.lcc.errors = { roll := clampInt (-2048) 2048 (s16 body 30)
                             pitch := clampInt (-2048) 2048 (s16 body 32)
                             height := clampInt (-200) 200 (s16 body 34) }
      ∧ (∀ l, (t.dev.lcc.lanes.get l).segment = some
          { kind := if u8 body (36 + 13 * l.number) = 1 then .touchdown else .stance
            targets := .ofFn fun i => clampInt (-18000) 18000 (s16 body (37 + 13 * l.number + 2 * i.number))
            stiffness := .ofFn fun i => min (u16 body (43 + 13 * l.number + 2 * i.number)) 4095 })
      ∧ t.dev.mhu.framesSinceSilence = min (s.dev.mhu.framesSinceSilence + 1) 2
      ∧ t.dev.mhu.walkFlag = decide (byteAt body 3 ≠ 0)
      ∧ t.dev.tbs = s.dev.tbs ∧ t.dev.nsv = s.dev.nsv ∧ t.dev.cfl = s.dev.cfl
      ∧ t.dev.upp.replyQueue = s.dev.upp.replyQueue
      ∧ (s.dev.upp.sending = none →
          t.dev.upp.sending = some (.status status) ∧ t.dev.upp.statusSlot = none)
      ∧ (s.dev.upp.sending ≠ none →
          t.dev.upp.sending = s.dev.upp.sending ∧ t.dev.upp.statusSlot = some status)
      ∧ t.dev.statusReads 0 status
      ∧ t.dev.upp.crcCount = s.dev.upp.crcCount ∧ t.dev.upp.formCount = s.dev.upp.formCount
      ∧ t.dev.upp.droppedCount = s.dev.upp.droppedCount
      ∧ ∃ (a : Device) (g : Fin 8), g.val = min (u8 body 2) 7
        ∧ a.tbs = s.dev.tbs ∧ a.gpe = s.dev.gpe ∧ a.cfl = s.dev.cfl ∧ a.llc = s.dev.llc ∧ a.nsv = s.dev.nsv
        ∧ a.upp.lastTag = t.dev.upp.lastTag
        ∧ a.bal = { s.dev.bal with body := t.dev.bal.body, freshness := .fresh, age := 0 }
        ∧ a.mhu = { s.dev.mhu with framesSinceSilence := t.dev.mhu.framesSinceSilence }
        ∧ a.lcc.errors = t.dev.lcc.errors ∧ (∀ j, a.jointState j = s.dev.jointState j)
        ∧ (∀ l, (a.lcc.lanes.get l).segment = (t.dev.lcc.lanes.get l).segment)
        ∧ (∀ f, f ≠ .seqGap → a.factor f = s.dev.factor f)
        ∧ t.dev = (((((a.takeGaitIndex g).takeWalkFlag (decide (byteAt body 3 ≠ 0))).updateCounters).stepInWalk
            (min (u8 body 1) 64)).computeMargins.braceCheck.compose).withPort t.dev.upp)
  ∧ [Mode.unarmed, .stand, .walk, .hold, .safeSit].map Mode.code = [0, 1, 2, 3, 4]
  ∧ [none, some .lowering, some .seated].map SitState.code = [0, 1, 2]
  ∧ [LegState.unset, .stance, .liftWait, .swing, .landing, .setDown, .hang].map LegState.code = [0, 1, 2, 3, 4, 5, 6]
  ∧ [Contact.absent, .present, .unknown].map Contact.code = [0, 1, 2]
  ∧ [Freshness.none, .fresh, .stale].map Freshness.code = [0, 1, 2]
  ∧ ∀ (l : Leg) (n : Node) (j : Joint),
      [Hold.host, .margin, .noGround l, .snag l, .slip l, .node n, .limit j, .linkSilent].map
          (fun h => (h.causeCode, h.subject))
        = [(1, none), (2, none), (3, some l.number), (4, some l.number), (5, some l.number), (6, some n.number),
           (7, some j.number), (8, none)]

/-- An accepted cycle frame in UNARMED or SAFE_SIT moves no leg and starts no walk: the mode, the hold stack, the leg
records and the master phase stand; in UNARMED its gait index becomes current, in SAFE_SIT it has no effect. The legs
are in UNSET there (R22, and the invariant of the legs). -/
def Obligations.FrameOutsideGaitControlMovesNoLeg : Prop :=
  ∀ (body : List Byte) (s : State), body.length = 88 → s.dev.listening = true →
    s.dev.upp.lastTag ≠ some (byteAt body 0) →
    (s.dev.mhu.mode = .unarmed ∨ s.dev.mhu.mode = .safeSit) → (∀ l, s.dev.leg l = unsetLeg) →
    ∃ t, exec (.cycleFrame body) s = .next t
      ∧ t.dev.mhu.mode = s.dev.mhu.mode ∧ t.dev.mhu.stack = s.dev.mhu.stack ∧ t.dev.mhu.sit = s.dev.mhu.sit
      ∧ t.dev.gpe.legs = s.dev.gpe.legs ∧ t.dev.gpe.phase = s.dev.gpe.phase
      ∧ (s.dev.mhu.mode = .unarmed → t.dev.gpe.current.val = min (u8 body 2) 7)
      ∧ (s.dev.mhu.mode = .safeSit → t.dev.gpe.current = s.dev.gpe.current)

/-- SILENCE_EXPIRY: the silence timer stops, LINK_SILENT is raised and frames since silence is 0, a FRESH body state
becomes STALE with its age unchanged, and the local cycle timer starts with T_cyc. The expiry is a push
request of cause LINK_SILENT: in STAND, WALK and HOLD its record goes on a stack with room, from STAND and WALK with the
legs in the air set down and MODE_CHANGED raised, from HOLD with no leg converted; a full stack overflows into SAFE_SIT;
a second one is suppressed, and in UNARMED and SAFE_SIT nothing is pushed (R104 to R106). Tables, margins, filters,
lanes, links and node records stand. -/
def Obligations.SilenceExpiryHoldsAndStartsLocalCycles : Prop :=
  ∀ s : State, s.dev.running = true → s.dev.upp.silenceTimer ≠ none →
    ∃ t, exec .silenceExpiry s = .next t ∧ t.pending = s.pending
      ∧ t.dev.upp = { s.dev.upp with silenceTimer := none, localTimer := some s.dev.tbs.deviceConfig.tCyc }
      ∧ t.dev.mhu.framesSinceSilence = 0
      ∧ t.dev.factor .linkSilent = ⟨true, min ((s.dev.factor .linkSilent).count + 1) 255⟩
      ∧ t.dev.bal = { s.dev.bal with
          freshness := if s.dev.bal.freshness = .fresh then .stale else s.dev.bal.freshness }
      ∧ t.dev = { s.dev.request .linkSilent with upp := t.dev.upp, bal := t.dev.bal }
      ∧ (let down := s.dev.mhu.mode = .unarmed ∨ s.dev.mhu.mode = .safeSit
        let same := ∃ r ∈ s.dev.mhu.stack, r.hold = .linkSilent
        (down ∨ same → t.dev.mhu = { s.dev.mhu with framesSinceSilence := 0 } ∧ t.dev.gpe = s.dev.gpe
          ∧ ∀ f, f ≠ .linkSilent → t.dev.factor f = s.dev.factor f)
        ∧ (¬ down → ¬ same → s.dev.mhu.stack.length < 4 →
          t.dev.mhu.mode = .hold ∧ t.dev.mhu.stack = s.dev.mhu.stack ++ [s.dev.holdRecord .linkSilent]
          ∧ t.dev.gpe.phase = s.dev.gpe.phase
          ∧ (s.dev.mhu.mode = .hold → t.dev.gpe = s.dev.gpe ∧ t.dev.factor .modeChanged = s.dev.factor .modeChanged)
          ∧ (s.dev.mhu.mode ≠ .hold → t.dev.factor .modeChanged = s.dev.raisedOnce .modeChanged
            ∧ ∀ l, t.dev.leg l = (match (s.dev.leg l).state with
              | .swing => { s.dev.leg l with state := .setDown, progress := none }
              | .landing => { s.dev.leg l with state := .setDown, progress := none }
              | _ => s.dev.leg l)))
        ∧ (¬ down → ¬ same → 4 ≤ s.dev.mhu.stack.length →
          t.dev.mhu.mode = .safeSit ∧ t.dev.mhu.stack = [] ∧ (∀ l, t.dev.legState l = .unset)
          ∧ t.dev.factor .holdOverflow = s.dev.raisedOnce .holdOverflow))
      ∧ t.dev.tbs = s.dev.tbs ∧ t.dev.cfl = s.dev.cfl ∧ t.dev.lcc = s.dev.lcc ∧ t.dev.llc = s.dev.llc
      ∧ t.dev.nsv = s.dev.nsv

/-- LOCAL_CYCLE: the local timer restarts with T_cyc, the body state ages by 1 and stays what it is, no gait index,
walk flag or segment is taken, and a status frame of cause LOCAL is formed with every field of R174. No phase step is
made: the master phase stands, but where the cycle's holds overflow into SAFE_SIT and it becomes 0; no leg enters
LIFT_WAIT, SWING or LANDING and no swing progress grows; the counters of the legs that stay in LIFT_WAIT, SWING and
LANDING count the cycle (R24; that the clear counter stops at T_clear is log 20). The counter update (R24) comes
first, then the ageing, the margins (R67), the brace check (R71) and the compositions (R75). -/
def Obligations.LocalCycleRunsWithoutFrame : Prop :=
  ∀ s : State, s.dev.running = true → s.dev.upp.localTimer ≠ none →
    ∃ t status, exec .localCycle s = .next t ∧ t.pending = s.pending
      ∧ t.dev.upp.localTimer = some s.dev.tbs.deviceConfig.tCyc
      ∧ t.dev.upp.silenceTimer = s.dev.upp.silenceTimer ∧ t.dev.upp.lastTag = s.dev.upp.lastTag
      ∧ t.dev.bal.age = min (s.dev.bal.age + 1) 255
      ∧ t.dev.bal.body = s.dev.bal.body ∧ t.dev.bal.freshness = s.dev.bal.freshness
      ∧ (∀ l, (t.dev.lcc.lanes.get l).segment = (s.dev.lcc.lanes.get l).segment) ∧ t.dev.lcc.errors = s.dev.lcc.errors
      ∧ t.dev.mhu.walkFlag = s.dev.mhu.walkFlag ∧ t.dev.gpe.current = s.dev.gpe.current
      ∧ ((t.dev.mhu.mode ≠ .safeSit ∨ s.dev.mhu.mode = .safeSit) → t.dev.gpe.phase = s.dev.gpe.phase)
      ∧ (t.dev.mhu.mode = .safeSit → s.dev.mhu.mode ≠ .safeSit → t.dev.gpe.phase = 0)
      ∧ (∀ l, (t.dev.legState l = .swing → s.dev.legState l = .swing)
          ∧ (t.dev.legState l = .liftWait → s.dev.legState l = .liftWait
              ∧ (t.dev.leg l).wait = min ((s.dev.leg l).wait + 1) 4096)
          ∧ (∀ p, (t.dev.leg l).progress = some p → (s.dev.leg l).progress = some p)
          ∧ (t.dev.legState l = .landing → s.dev.legState l = .landing
              ∧ (t.dev.leg l).landing = min ((s.dev.leg l).landing + 1) 255)
          ∧ (t.dev.legState l = .swing → (t.dev.leg l).clear =
              if (s.dev.leg l).cleared = true ∨ s.dev.tbs.deviceConfig.tClear ≤ (s.dev.leg l).clear
              then (s.dev.leg l).clear else min ((s.dev.leg l).clear + 1) 15))
      ∧ (s.dev.upp.sending = none → t.dev.upp.sending = some (.status status))
      ∧ (s.dev.upp.sending ≠ none →
          t.dev.upp.sending = s.dev.upp.sending ∧ t.dev.upp.statusSlot = some status)
      ∧ t.dev.statusReads 1 status
      ∧ t.dev.tbs = s.dev.tbs ∧ t.dev.nsv = s.dev.nsv ∧ t.dev.cfl = s.dev.cfl
      ∧ (let a := (s.dev.withPort { s.dev.upp with localTimer := some s.dev.tbs.deviceConfig.tCyc }).updateCounters
        t.dev = (({ a with bal := { a.bal with age := min (s.dev.bal.age + 1) 255 } } : Device).computeMargins.braceCheck.compose
          ).withPort t.dev.upp)

/-! ## Requests -/

/-- A management request that finds two replies waiting is not executed: the dropped-request count rises by 1, stopping
at 255, and nothing else changes. While restart pending is yes, cycle frames and management requests are discarded
without effect and without a count. -/
def Obligations.RequestDroppedWhenTwoRepliesWait : Prop :=
  (∀ (i : Instr) (body : List Byte) (s : State), i.wellFormed = true → requestBody i = some body →
    s.dev.listening = true → 2 ≤ s.dev.upp.replyQueue.length →
    exec i s = .next (s.withPort { s.dev.upp with droppedCount := min (s.dev.upp.droppedCount + 1) 255 }))
  ∧ ∀ (i : Instr) (bs : List Byte) (s : State), i.wellFormed = true → hostFrame i = some bs →
    s.dev.running = true → s.dev.upp.restartPending = true → exec i s = .next s

/-- Every request that is executed is answered by one reply, which carries the request's kind and tag in its first two
bytes: an idle transmitter with nothing waiting sends it at once, and otherwise it waits as the newest. A reply is laid
out as R175 says, with the outcome and item codes of R171; the zeros of one that names no item are R175's "or 0" (log
24). -/
def Obligations.ExecutedRequestAnsweredOnce : Prop :=
  (∀ (i : Instr) (body : List Byte) (s : State), i.wellFormed = true → requestBody i = some body → 2 ≤ body.length →
    s.dev.ready = true →
    ∃ t reply, exec i s = .next t ∧ reply.take 2 = body.take 2 ∧ 5 ≤ reply.length
      ∧ (s.dev.upp.sending = none → s.dev.upp.statusSlot = none → s.dev.upp.replyQueue = [] →
          t.dev.upp.sending = some (.reply reply) ∧ t.dev.upp.replyQueue = [])
      ∧ (s.dev.upp.sending ≠ none →
          t.dev.upp.sending = s.dev.upp.sending ∧ t.dev.upp.replyQueue = s.dev.upp.replyQueue ++ [reply]))
  ∧ (∀ (d : Device) (kind tag : Byte) (a : Answer),
    (d.upp.sending ≠ none →
      d.portReplied kind tag a = { d.upp with replyQueue := d.upp.replyQueue ++ [replyBody kind tag a] })
    ∧ (d.upp.sending = none → d.upp.statusSlot = none → d.upp.replyQueue = [] →
      d.portReplied kind tag a = { d.upp with sending := some (.reply (replyBody kind tag a)) }))
  ∧ ∀ (kind tag : Byte) (payload : List Byte) (entry : Nat),
    replyBody kind tag (.done payload) = [kind, tag, 0, 0, 0] ++ payload
    ∧ replyBody kind tag .refusedMode = [kind, tag, 1, 0, 0]
    ∧ [Item.gait, .joint, .pose, .liftProfile, .nodes, .faults].map
        (fun item => replyBody kind tag (.refusedInvalid item entry))
      = [1, 2, 3, 4, 16, 17].map (fun code => [kind, tag, 2, code, BitVec.ofNat 8 entry])
    ∧ replyBody kind tag .refusedRange = [kind, tag, 3, 0, 0]
    ∧ replyBody kind tag .refusedCause = [kind, tag, 4, 0, 0]
    ∧ replyBody kind tag .refusedEmpty = [kind, tag, 5, 0, 0]
    ∧ replyBody kind tag .malformed = [kind, tag, 6, 0, 0]

/-- A request whose kind or control action is unknown, a control request with bytes its action does not call for, a
READ_STATE that names no section or has bit 7 set or another size, or a CLEAR_FACTORS of another size than four bytes
is answered MALFORMED and changes nothing but the port's replies. (A body too short to echo its kind and tag is log
10's.) -/
def Obligations.MalformedRequestsChangeNothing : Prop :=
  (∀ (kind tag action : Byte) (rest : List Byte),
    [1, 2, 4].map (fun k => managementCommand (k :: tag :: rest))
      = [.tableWrite tag rest, .tableRead tag rest, .readState tag rest]
    ∧ [1, 2, 3, 4, 5, 6, 7, 8, 9].map (fun a => managementCommand (3 :: tag :: a :: rest))
      = [.arm tag rest, .disarm tag rest, .hold tag rest, .resume tag rest, .sit tag rest, .restart tag rest,
         .clearFactors tag rest, .clearFaults tag rest, .ident tag rest]
    ∧ (kind = 0 ∨ 4 < kind.toNat →
        managementCommand (kind :: tag :: rest) = .malformedRequest (kind :: tag :: rest))
    ∧ (action = 0 ∨ 9 < action.toNat →
        managementCommand (3 :: tag :: action :: rest) = .malformedRequest (3 :: tag :: action :: rest))
    ∧ managementCommand [3, tag] = .malformedRequest [3, tag])
  ∧ (∀ (kind tag : Byte) (rest : List Byte) (s : State),
    managementCommand (kind :: tag :: rest) = .malformedRequest (kind :: tag :: rest) → s.dev.ready = true →
    exec (.malformedRequest (kind :: tag :: rest)) s = .next (s.replied kind tag .malformed))
  ∧ (∀ (i : Instr) (tag : Byte) (rest : List Byte) (s : State), rest ≠ [] → s.dev.ready = true →
    (i = .arm tag rest ∨ i = .disarm tag rest ∨ i = .hold tag rest ∨ i = .resume tag rest ∨ i = .sit tag rest
      ∨ i = .restart tag rest ∨ i = .clearFaults tag rest ∨ i = .ident tag rest) →
    exec i s = .next (s.replied 3 tag .malformed))
  ∧ ∀ (tag : Byte) (rest : List Byte) (s : State), s.dev.ready = true →
    ((rest.length ≠ 1 ∨ (∃ names : Byte, rest = [names] ∧ (names.getLsbD 7 = true ∨ names = 0))) →
      exec (.readState tag rest) s = .next (s.replied 4 tag .malformed))
    ∧ (rest.length ≠ 4 → exec (.clearFactors tag rest) s = .next (s.replied 3 tag .malformed))

/-- IDENT completes with DONE in every mode and changes nothing: its reply carries 0x0D6C, 0x0C12 and 3. -/
def Obligations.IdentReturnsIdentification : Prop :=
  ∀ (tag : Byte) (s : State), s.dev.ready = true →
    exec (.ident tag []) s = .next (s.replied 3 tag (.done [0x6C, 0x0D, 0x12, 0x0C, 3]))

/-- RESTART completes with DONE in every mode: its reply joins the queue, restart pending becomes yes, the waiting
status frame is discarded and both timers stop; nothing outside the port changes. -/
def Obligations.RestartStopsTimersAndPends : Prop :=
  ∀ (tag : Byte) (s : State), s.dev.ready = true →
    ∃ t, exec (.restart tag []) s = .next t ∧ t.pending = s.pending
      ∧ t.dev = { s.dev with upp := t.dev.upp }
      ∧ t.dev.upp.restartPending = true ∧ t.dev.upp.silenceTimer = none ∧ t.dev.upp.localTimer = none
      ∧ t.dev.upp.statusSlot = none
      ∧ (s.dev.upp.sending ≠ none → t.dev.upp.sending = s.dev.upp.sending
          ∧ t.dev.upp.replyQueue = s.dev.upp.replyQueue ++ [[3, tag, 0, 0, 0]])
      ∧ (s.dev.upp.sending = none → s.dev.upp.replyQueue = [] →
          t.dev.upp.sending = some (.reply [3, tag, 0, 0, 0]) ∧ t.dev.upp.replyQueue = [])

/-- READ_STATE of a good section set completes with DONE in every mode. Its reply carries the set and the sections as
they stand. Without FACTORS it clears nothing; with it, exactly the factors reported set whose class is under
READ_CLEARS are cleared, in the same act, and the chatter counts with CHATTER. The named sections follow one another in
the order of their bits, each laid out as R177 says. -/
def Obligations.ReadStateReportsAndClearsByPolicy : Prop :=
  (∀ (tag names : Byte) (s : State), s.dev.ready = true → names.getLsbD 7 = false → names ≠ 0 →
    ∃ t, exec (.readState tag [names]) s = .next t
      ∧ t.dev.upp = s.dev.portReplied 4 tag (.done (names :: s.dev.sections names))
      ∧ (∀ f, t.dev.factor f =
          if names.getLsbD 6 = true
              ∧ (if f.isError then s.dev.tbs.deviceConfig.errorPolicy else s.dev.tbs.deviceConfig.eventPolicy)
                  = .readClears
              ∧ (s.dev.factor f).flag = true
          then ⟨false, 0⟩ else s.dev.factor f)
      ∧ t.dev.eeu.resetCause = s.dev.eeu.resetCause
      ∧ (∀ l, t.dev.cfl.get l = { s.dev.cfl.get l with
            chatter := if names.getLsbD 6 = true ∧ s.dev.tbs.deviceConfig.eventPolicy = .readClears
                ∧ (s.dev.factor .chatter).flag = true then 0 else (s.dev.cfl.get l).chatter })
      ∧ t.dev.tbs = s.dev.tbs ∧ t.dev.gpe = s.dev.gpe ∧ t.dev.bal = s.dev.bal ∧ t.dev.lcc = s.dev.lcc
      ∧ t.dev.mhu = s.dev.mhu ∧ t.dev.llc = s.dev.llc ∧ t.dev.nsv = s.dev.nsv)
  ∧ ∀ d : Device,
    (∀ names : Byte, d.sections names =
      [d.holdsSection, d.nodesSection, d.linksSection, d.jointsSection, d.contactSection, d.upstreamSection,
        d.factorsSection].zipIdx.flatMap fun x => if names.getLsbD x.2 then x.1 else [])
    ∧ d.holdsSection.length = 2 + 12 * d.mhu.stack.length
    ∧ d.holdsSection.take 2 = [BitVec.ofNat 8 d.mhu.stack.length, BitVec.ofNat 8 d.mhu.framesSinceSilence]
    ∧ (∀ k r, d.mhu.stack[k]? = some r → fieldAt d.holdsSection (2 + 12 * k) 12
        = [BitVec.ofNat 8 r.hold.causeCode, BitVec.ofNat 8 (r.hold.subject.getD 0xFF),
           BitVec.ofNat 8 r.modeAtPush.code, BitVec.ofNat 8 r.gait] ++ bytes16 r.phase
          ++ [Leg.fl, .fr, .rr, .rl].map (fun l => BitVec.ofNat 8 (r.legStates.get l).code)
          ++ bytes16 ((r.tag.map BitVec.toNat).getD 0xFFFF))
    ∧ (∀ f : FaultSet, ∃ b : Byte, faultByte f = [b] ∧ (List.range 8).map b.getLsbD
        = [f.overcurrent, f.openPhase, f.encoder, f.overtemp, f.undervolt, f.nodeLost, f.sensorFault, false])
    ∧ d.nodesSection.length = 84
    ∧ (∀ n : Node, fieldAt d.nodesSection (3 * n.number) 3
        = faultByte (d.node n).latched ++ faultByte (d.node n).reported ++ [BitVec.ofNat 8 (d.node n).misses])
    ∧ (∀ j : Joint, let v := (d.nsv.voltages.get j.leg).get j.ix
        fieldAt d.nodesSection (48 + 3 * j.number) 3 = bytes16 v.volts ++ [BitVec.ofNat 8 v.age])
    ∧ d.linksSection.length = 30
    ∧ (∀ l : Leg, let k := d.link l
        fieldAt d.linksSection (6 * l.number) 6
          = [k.missTotals.ha, k.missTotals.hf, k.missTotals.kn, k.missTotals.foot, k.noise, k.bitErrors].map
              (BitVec.ofNat 8))
    ∧ fieldAt d.linksSection 24 6
        = [BitVec.ofNat 8 d.tbs.linkConfig.divisor, BitVec.ofNat 8 d.tbs.linkConfig.window]
          ++ bytes16 d.tbs.linkConfig.polynomial.toNat ++ bytes16 d.tbs.linkConfig.initial.toNat
    ∧ d.jointsSection.length = 72
    ∧ (∀ j : Joint, let k := d.jointState j
        let angle : Option Int → List Byte := fun x => match x with
          | some v => bytes16s v
          | none => [0x00, 0x80]
        fieldAt d.jointsSection (6 * j.number) 6
          = angle k.lastPosition ++ bytes16 k.lastStiffness ++ angle k.lastUnclamped)
    ∧ d.contactSection = [Leg.fl, .fr, .rr, .rl].map (fun l => BitVec.ofNat 8 (d.cfl.get l).chatter)
    ∧ d.upstreamSection = bytes16 ((d.upp.lastTag.map BitVec.toNat).getD 0xFFFF)
        ++ [d.upp.crcCount, d.upp.formCount, d.upp.duplicateCount, d.upp.droppedCount].map (BitVec.ofNat 8)
    ∧ d.factorsSection.length = 32
    ∧ (∀ f : Factor, byteAt d.factorsSection f.bit = BitVec.ofNat 8 (d.factor f).count)
    ∧ byteAt d.factorsSection 31 = (match d.eeu.resetCause with
        | .powerUp => 0
        | .logicBrownout => 1
        | .resetPin => 2
        | .restartRequest => 3)

/-- CLEAR_FACTORS with bit 31 clear completes with DONE in every mode: exactly the factors of its set become clear
with count 0, ALERT follows, and the chatter counts of all four filters become 0 when CHATTER is in the set, even when
CHATTER is clear already, which is the model's reading of R50 and R165 (log 35). With bit 31 set it is MALFORMED and
clears nothing. -/
def Obligations.ClearFactorsClearsNamedSet : Prop :=
  ∀ (tag b0 b1 b2 b3 : Byte) (s : State), s.dev.ready = true →
    (b3.getLsbD 7 = false →
      ∃ t, exec (.clearFactors tag [b0, b1, b2, b3]) s = .next t
        ∧ t.dev.upp = s.dev.portReplied 3 tag (.done [])
        ∧ (∀ f, t.dev.factor f = if (b3 ++ b2 ++ b1 ++ b0).getLsbD f.bit then ⟨false, 0⟩ else s.dev.factor f)
        ∧ t.dev.eeu.alert = t.dev.alertDue ∧ t.dev.eeu.resetCause = s.dev.eeu.resetCause
        ∧ (∀ l, t.dev.cfl.get l = { s.dev.cfl.get l with
              chatter := if b2.getLsbD 2 then 0 else (s.dev.cfl.get l).chatter })
        ∧ t.dev.tbs = s.dev.tbs ∧ t.dev.gpe = s.dev.gpe ∧ t.dev.bal = s.dev.bal ∧ t.dev.lcc = s.dev.lcc
        ∧ t.dev.mhu = s.dev.mhu ∧ t.dev.llc = s.dev.llc ∧ t.dev.nsv = s.dev.nsv)
    ∧ (b3.getLsbD 7 = true →
      exec (.clearFactors tag [b0, b1, b2, b3]) s
        = .next (s.replied 3 tag .malformed))

/-- CLEAR_FAULTS completes with DONE in every mode: of each node's latched set the categories still reported stay, and
NODE_LOST stays exactly on a node that is not live; the counters of the links and the four counts of the port become
0; liveness, misses, reported sets, voltage reports, supply record and holds stand. -/
def Obligations.ClearFaultsKeepsReportedFaults : Prop :=
  ∀ (tag : Byte) (s : State), s.dev.ready = true →
    ∃ t, exec (.clearFaults tag []) s = .next t
      ∧ (∀ n, t.dev.node n = { s.dev.node n with latched :=
          { overcurrent := (s.dev.node n).latched.overcurrent && (s.dev.node n).reported.overcurrent
            openPhase := (s.dev.node n).latched.openPhase && (s.dev.node n).reported.openPhase
            encoder := (s.dev.node n).latched.encoder && (s.dev.node n).reported.encoder
            overtemp := (s.dev.node n).latched.overtemp && (s.dev.node n).reported.overtemp
            undervolt := (s.dev.node n).latched.undervolt && (s.dev.node n).reported.undervolt
            nodeLost := (s.dev.node n).latched.nodeLost && !(s.dev.node n).live
            sensorFault := (s.dev.node n).latched.sensorFault && (s.dev.node n).reported.sensorFault } })
      ∧ t.dev.nsv.voltages = s.dev.nsv.voltages ∧ t.dev.nsv.estimate = s.dev.nsv.estimate
      ∧ t.dev.nsv.level1 = s.dev.nsv.level1 ∧ t.dev.nsv.level2 = s.dev.nsv.level2
      ∧ (∀ l, t.dev.link l = { s.dev.link l with missTotals := ⟨0, 0, 0, 0⟩, noise := 0, bitErrors := 0 })
      ∧ t.dev.upp = { s.dev.portReplied 3 tag (.done []) with
            crcCount := 0, formCount := 0, duplicateCount := 0, droppedCount := 0 }
      ∧ t.dev.tbs = s.dev.tbs ∧ t.dev.gpe = s.dev.gpe ∧ t.dev.bal = s.dev.bal ∧ t.dev.cfl = s.dev.cfl
      ∧ t.dev.lcc = s.dev.lcc ∧ t.dev.mhu = s.dev.mhu ∧ t.dev.eeu = s.dev.eeu

/-! ## Tables -/

/-- Structure, range and mode of a TABLE_WRITE, in that order: a body of another size is MALFORMED, an unknown table
whatever its size, a count of 0 or an entry outside the table is REFUSED_RANGE, and the modes of R157 are
REFUSED_MODE. A write that is not DONE stores none of its entries and changes nothing but the port's replies. -/
def Obligations.TableWriteJudgedInOrder : Prop :=
  (∀ (tag : Byte) (rest : List Byte) (s : State), s.dev.ready = true →
    (∀ payload, (Device.tableWrite rest s.dev).1 ≠ .done payload) →
    exec (.tableWrite tag rest) s = .next (s.replied 1 tag (Device.tableWrite rest s.dev).1))
  ∧ ∀ (code first count : Byte) (data : List Byte) (d : Device),
    (TableId.ofCode code.toNat = none → (Device.tableWrite (code :: first :: count :: data) d).1 = .refusedRange)
    ∧ ∀ t, TableId.ofCode code.toNat = some t →
      (data.length ≠ count.toNat * t.entrySize →
        (Device.tableWrite (code :: first :: count :: data) d).1 = .malformed)
      ∧ (data.length = count.toNat * t.entrySize →
          (count = 0 ∨ first.toNat < t.base ∨ t.base + t.entries ≤ first.toNat
            ∨ t.base + t.entries < first.toNat + count.toNat) →
          (Device.tableWrite (code :: first :: count :: data) d).1 = .refusedRange)
      ∧ (data.length = count.toNat * t.entrySize → 0 < count.toNat → t.base ≤ first.toNat →
          first.toNat + count.toNat ≤ t.base + t.entries →
          ((Device.tableWrite (code :: first :: count :: data) d).1 = .refusedMode ↔
            ((t = .linkConfig ∨ t = .deviceConfig) ∧ d.mhu.mode ≠ .unarmed)
            ∨ (t = .liftProfile ∧ (d.mhu.mode = .walk ∨ d.mhu.mode = .hold))
            ∨ (t = .gait ∧ (d.mhu.mode = .walk ∨ d.mhu.mode = .hold) ∧ first.toNat ≤ d.gpe.current.val
                ∧ d.gpe.current.val < first.toNat + count.toNat)))

/-- A GAIT write that the mode allows completes with DONE and stores its entries with every field clamped to its range
and each leg's own bit dropped from its masks (R3): each valid flag is the validation of the record while armed and
clear in UNARMED; the other records stand; and the master phase changes only for the current record in STAND, to its E
or to 0. -/
def Obligations.GaitWriteStoresClampedRecords : Prop :=
  ∀ (tag first count : Byte) (data : List Byte) (s : State), s.dev.ready = true →
    data.length = count.toNat * 58 → 0 < count.toNat → first.toNat + count.toNat ≤ 8 →
    ((s.dev.mhu.mode = .walk ∨ s.dev.mhu.mode = .hold) →
      ¬ (first.toNat ≤ s.dev.gpe.current.val ∧ s.dev.gpe.current.val < first.toNat + count.toNat)) →
    ∃ t, exec (.tableWrite tag (1 :: first :: count :: data)) s = .next t
      ∧ t.dev.upp = s.dev.portReplied 1 tag (.done [])
      ∧ (∀ g : Fin 8, first.toNat ≤ g.val → g.val < first.toNat + count.toNat →
          (t.dev.tbs.gaitAt g).record = gaitOfBytes ((data.drop ((g.val - first.toNat) * 58)).take 58)
          ∧ (let bs := (data.drop ((g.val - first.toNat) * 58)).take 58
            let r := (t.dev.tbs.gaitAt g).record
            r.n = max 16 (min 4096 (u16 bs 0)) ∧ r.e = min 4095 (u16 bs 2)
            ∧ r.mLift = max (-300) (min 500 (s16 bs 4)) ∧ r.sEarly = min 16 (u8 bs 6)
            ∧ r.tWait = min 4095 (u16 bs 7) ∧ r.tLand = max 1 (u8 bs 9)
            ∧ ∀ l : Leg, let k := r.legs.get l
              let off := 10 + 12 * l.number
              k.liftPoint = min 4095 (u16 bs off) ∧ k.swing = max 1 (min 4095 (u16 bs (off + 2)))
              ∧ k.prereq.get l = false ∧ k.partner.get l = false
              ∧ (∀ m, m ≠ l → k.prereq.get m = (byteAt bs (off + 4)).getLsbD m.number
                  ∧ k.partner.get m = (byteAt bs (off + 5)).getLsbD m.number)
              ∧ ∀ i : JointIx, k.clearance.get i = max (-9000) (min 9000 (s16 bs (off + 6 + 2 * i.number))))
          ∧ (t.dev.tbs.gaitAt g).valid
              = (decide (s.dev.mhu.mode ≠ .unarmed) && (t.dev.tbs.gaitAt g).record.isValid))
      ∧ (∀ g : Fin 8, (g.val < first.toNat ∨ first.toNat + count.toNat ≤ g.val) →
          t.dev.tbs.gaitAt g = s.dev.tbs.gaitAt g)
      ∧ t.dev.gpe = { s.dev.gpe with phase :=
          if s.dev.mhu.mode = .stand ∧ first.toNat ≤ s.dev.gpe.current.val
              ∧ s.dev.gpe.current.val < first.toNat + count.toNat then
            if (t.dev.tbs.gaitAt s.dev.gpe.current).valid then (t.dev.tbs.gaitAt s.dev.gpe.current).record.e else 0
          else s.dev.gpe.phase }
      ∧ t.dev.tbs.joint = s.dev.tbs.joint ∧ t.dev.tbs.pose = s.dev.tbs.pose ∧ t.dev.mhu = s.dev.mhu
      ∧ t.dev.eeu = s.dev.eeu

/-- A JOINT write in UNARMED completes with DONE: every written record has lo < hi and a step limit of at least 1, the
others stand, the joint flag says whether all twelve are valid, and the pose flag is cleared. While armed the write
stores its records and leaves the pose flag, unless the limits of a written joint exclude an angle of its leg's poses:
then it is refused, naming the first such joint: the written joint of the lowest number for which the set-down, the
reach or the sit angle lies outside [lo, hi] (R90). Each field is stored clamped to the range of R89, lo before hi, with
an unknown limit mode taken as CLAMP and bits 5 to 7 of the fault mask dropped (R170). -/
def Obligations.JointWriteKeepsPosesReachable : Prop :=
  (∀ (tag first count : Byte) (data : List Byte) (s : State), s.dev.ready = true →
    data.length = count.toNat * 18 → 0 < count.toNat → first.toNat + count.toNat ≤ 12 →
    (s.dev.mhu.mode = .unarmed →
      ∃ t, exec (.tableWrite tag (2 :: first :: count :: data)) s = .next t
        ∧ t.dev.upp = s.dev.portReplied 1 tag (.done [])
        ∧ (∀ j : Joint, first.toNat ≤ j.number → j.number < first.toNat + count.toNat →
            t.dev.tbs.jointAt j = jointOfBytes ((data.drop ((j.number - first.toNat) * 18)).take 18)
            ∧ (t.dev.tbs.jointAt j).lo < (t.dev.tbs.jointAt j).hi ∧ 1 ≤ (t.dev.tbs.jointAt j).stepMax)
        ∧ (∀ j : Joint, (j.number < first.toNat ∨ first.toNat + count.toNat ≤ j.number) →
            t.dev.tbs.jointAt j = s.dev.tbs.jointAt j)
        ∧ (t.dev.tbs.jointValid = true ↔ ∀ j, (t.dev.tbs.jointAt j).isValid = true)
        ∧ t.dev.tbs.poseValid = false ∧ t.dev.tbs.pose = s.dev.tbs.pose ∧ t.dev.tbs.gait = s.dev.tbs.gait
        ∧ t.dev.mhu = s.dev.mhu ∧ t.dev.gpe = s.dev.gpe ∧ t.dev.eeu = s.dev.eeu)
    ∧ (s.dev.mhu.mode ≠ .unarmed →
        Device.excludedJoint (s.dev.tbs.writeJoints ⟨first.toNat, count.toNat⟩ data) ⟨first.toNat, count.toNat⟩
          = none →
        exec (.tableWrite tag (2 :: first :: count :: data)) s
          = .next (s.withDev ((s.dev.setTables (s.dev.tbs.writeJoints ⟨first.toNat, count.toNat⟩ data)).withPort
              (s.dev.portReplied 1 tag (.done [])))))
    ∧ (s.dev.mhu.mode ≠ .unarmed → ∀ j : Joint,
        Device.excludedJoint (s.dev.tbs.writeJoints ⟨first.toNat, count.toNat⟩ data) ⟨first.toNat, count.toNat⟩
          = some j →
        exec (.tableWrite tag (2 :: first :: count :: data)) s
          = .next (s.replied 1 tag (.refusedInvalid .joint j.number))))
  ∧ (∀ (t : TableStore) (r : EntryRange),
    let excludes : Joint → Prop := fun j => r.first ≤ j.number ∧ j.number < r.first + r.count
      ∧ ∃ p, (p = (t.pose.get j.leg).setDown ∨ p = (t.pose.get j.leg).reach ∨ p = (t.pose.get j.leg).sit)
        ∧ (p.get j.ix < (t.jointAt j).lo ∨ (t.jointAt j).hi < p.get j.ix)
    (Device.excludedJoint t r = none ↔ ∀ j, ¬ excludes j)
    ∧ ∀ j, Device.excludedJoint t r = some j ↔ excludes j ∧ ∀ k : Joint, k.number < j.number → ¬ excludes k)
  ∧ (∀ (t : TableStore) (r : EntryRange) (data : List Byte),
    let u := t.writeJoints r data
    (∀ j : Joint, u.jointAt j = if r.first ≤ j.number ∧ j.number < r.first + r.count
        then jointOfBytes ((data.drop ((j.number - r.first) * 18)).take 18) else t.jointAt j)
    ∧ (u.jointValid = true ↔ ∀ j, (u.jointAt j).isValid = true)
    ∧ u = { t with joint := u.joint, jointValid := u.jointValid })
  ∧ (∀ r : JointRecord, r.isValid = true ↔ r.lo < r.hi ∧ 1 ≤ r.stepMax)
  ∧ ∀ bs : List Byte,
    let r := jointOfBytes bs
    let mask := byteAt bs 17
    r.lo = max (-18000) (min 17999 (s16 bs 0)) ∧ r.hi = max (r.lo + 1) (min 18000 (s16 bs 2))
    ∧ r.stepMax = max 1 (min 3000 (u16 bs 4))
    ∧ r.limitMode = (if u8 bs 6 = 0 then .off else if u8 bs 6 = 1 then .note
        else if u8 bs 6 = 3 then .freeze else .clamp)
    ∧ r.gj = min 1024 (u16 bs 7) ∧ r.kr = max (-4096) (min 4096 (s16 bs 9))
    ∧ r.kp = max (-4096) (min 4096 (s16 bs 11)) ∧ r.kh = max (-4096) (min 4096 (s16 bs 13))
    ∧ r.cMax = min 3000 (u16 bs 15)
    ∧ r.faultMask = ⟨mask.getLsbD 0, mask.getLsbD 1, mask.getLsbD 2, mask.getLsbD 3, mask.getLsbD 4, false, false⟩

/-- A POSE write completes with DONE in UNARMED, where the flag is cleared, and while armed exactly when it leaves all
four records within their joints' limits, the flag standing; the angles are stored clamped. R91 has a write refused
"naming the first failing record, when it would leave a record invalid"; that all four records are judged, and the
lowest failing leg named, is the model's reading of it (log 23). A record fails when one of its nine angles lies
outside [lo, hi] of its joint; its fields are stored clamped to the ranges of R91. A LIFT_PROFILE write in UNARMED,
and in STAND and SAFE_SIT one that keeps the single peak, is stored clamped to 1024 and its flag judged at once; one
that breaks the peak there is refused whole, naming the first entry that breaks it. A profile has a single peak when
some p has every entry up to p at least the one before it and every entry after p at most the one before it (R92); the
first entry that breaks it is the first that rises after a fall. -/
def Obligations.PoseAndProfileWritesJudged : Prop :=
  (∀ (tag first count : Byte) (data : List Byte) (s : State), s.dev.ready = true → 0 < count.toNat →
    let r : EntryRange := ⟨first.toNat, count.toNat⟩
    let p := s.dev.tbs.writePoses r data
    let u := s.dev.tbs.writeProfile r data
    p = { s.dev.tbs with pose := p.pose }
    ∧ (∀ l : Leg, p.pose.get l = if first.toNat ≤ l.number ∧ l.number < first.toNat + count.toNat
        then poseOfBytes ((data.drop ((l.number - first.toNat) * 24)).take 24) else s.dev.tbs.pose.get l)
    ∧ u = { s.dev.tbs with liftProfile := u.liftProfile, liftValid := u.liftValid }
    ∧ (∀ k : Fin 15, ¬ (first.toNat ≤ k.val + 1 ∧ k.val + 1 < first.toNat + count.toNat) →
        u.liftProfile.get k = s.dev.tbs.liftProfile.get k)
    ∧ (data.length = count.toNat * 24 → first.toNat + count.toNat ≤ 4 →
      ((s.dev.mhu.mode = .unarmed ∨ p.firstInvalidPose = none) →
        ∃ t, exec (.tableWrite tag (3 :: first :: count :: data)) s = .next t
          ∧ t.dev.upp = s.dev.portReplied 1 tag (.done [])
          ∧ (∀ l : Leg, first.toNat ≤ l.number → l.number < first.toNat + count.toNat →
              t.dev.tbs.pose.get l = poseOfBytes ((data.drop ((l.number - first.toNat) * 24)).take 24))
          ∧ (∀ l : Leg, (l.number < first.toNat ∨ first.toNat + count.toNat ≤ l.number) →
              t.dev.tbs.pose.get l = s.dev.tbs.pose.get l)
          ∧ t.dev.tbs.poseValid = (decide (s.dev.mhu.mode ≠ .unarmed) && s.dev.tbs.poseValid)
          ∧ t.dev.tbs.joint = s.dev.tbs.joint ∧ t.dev.tbs.gait = s.dev.tbs.gait ∧ t.dev.mhu = s.dev.mhu
          ∧ t.dev.gpe = s.dev.gpe ∧ t.dev.eeu = s.dev.eeu)
      ∧ (s.dev.mhu.mode ≠ .unarmed → ∀ l, p.firstInvalidPose = some l →
        exec (.tableWrite tag (3 :: first :: count :: data)) s
          = .next (s.replied 1 tag (.refusedInvalid .pose l.number))))
    ∧ (data.length = count.toNat * 2 → 1 ≤ first.toNat → first.toNat + count.toNat ≤ 16 →
      ((s.dev.mhu.mode = .unarmed
          ∨ (s.dev.mhu.mode = .stand ∨ s.dev.mhu.mode = .safeSit) ∧ peakBreak u.liftProfile = none) →
        exec (.tableWrite tag (4 :: first :: count :: data)) s
          = .next (s.withDev ((s.dev.setTables u).withPort (s.dev.portReplied 1 tag (.done [])))))
      ∧ (u.liftValid = true ↔ peakBreak u.liftProfile = none)
      ∧ (∀ k : Fin 15, first.toNat ≤ k.val + 1 → k.val + 1 < first.toNat + count.toNat →
          u.liftProfile.get k = min (u16 data ((k.val + 1 - first.toNat) * 2)) 1024)
      ∧ ∀ b, (s.dev.mhu.mode = .stand ∨ s.dev.mhu.mode = .safeSit) → peakBreak u.liftProfile = some b →
        exec (.tableWrite tag (4 :: first :: count :: data)) s
          = .next (s.replied 1 tag (.refusedInvalid .liftProfile b))))
  ∧ (∀ (p : PoseRecord) (limits : PerJoint JointRecord), p.isValid limits = true ↔
    ∀ i : JointIx, ∀ q, (q = p.setDown ∨ q = p.reach ∨ q = p.sit) →
      (limits.get i).lo ≤ q.get i ∧ q.get i ≤ (limits.get i).hi)
  ∧ (∀ t : TableStore,
    let fails : Leg → Prop := fun l => ∃ i : JointIx, ∃ q,
      (q = (t.pose.get l).setDown ∨ q = (t.pose.get l).reach ∨ q = (t.pose.get l).sit)
      ∧ (q.get i < (t.jointAt ⟨l, i⟩).lo ∨ (t.jointAt ⟨l, i⟩).hi < q.get i)
    (t.firstInvalidPose = none ↔ ∀ l, ¬ fails l)
    ∧ ∀ l, t.firstInvalidPose = some l ↔ fails l ∧ ∀ m : Leg, m.number < l.number → ¬ fails m)
  ∧ (∀ (bs : List Byte) (i : JointIx),
    let angle : Nat → Int := fun off => max (-18000) (min 18000 (s16 bs (off + 2 * i.number)))
    (poseOfBytes bs).setDown.get i = angle 0 ∧ (poseOfBytes bs).reach.get i = angle 6
    ∧ (poseOfBytes bs).sit.get i = angle 12
    ∧ (poseOfBytes bs).sitStiffness.get i = min 4095 (u16 bs (18 + 2 * i.number)))
  ∧ ∀ lp : Vector Nat 15,
    let LP : Nat → Nat := fun k => if h : 1 ≤ k ∧ k ≤ 15 then lp.get ⟨k - 1, by omega⟩ else 0
    (∀ k, k ≤ 16 → profileAt lp k = LP k)
    ∧ (peakBreak lp = none ↔ ∃ p, p ≤ 16 ∧ (∀ k, 1 ≤ k → k ≤ p → LP (k - 1) ≤ LP k)
      ∧ ∀ k, p < k → k ≤ 16 → LP k ≤ LP (k - 1))
    ∧ ∀ b, peakBreak lp = some b ↔ b ≤ 16
        ∧ (∃ i, 1 ≤ i ∧ i < b ∧ LP i < LP (i - 1)) ∧ LP (b - 1) < LP b
        ∧ ∀ k, k < b → ¬ ((∃ i, 1 ≤ i ∧ i < k ∧ LP i < LP (i - 1)) ∧ LP (k - 1) < LP k)

/-- LINK_CONFIG and DEVICE_CONFIG writes complete with DONE in UNARMED. Whatever bytes they carry, the stored fields
keep their order: T_off < T_on, V2 < V1, R_win within 8..64, an odd polynomial, T_cyc a multiple of 0.25 ms, no error
factor enabled; and ALERT follows the new enables at once. Links in progress keep their settings. Each field is read
at its offset (R176) and clamped to the range of the rule that owns it, T_off before T_on and V1 before V2 (R46, R143),
with an unknown action code taken as FLAG and an unknown policy as EXPLICIT (R170). -/
def Obligations.ConfigWritesStoreClampedFields : Prop :=
  (∀ (tag : Byte) (data : List Byte) (s : State), s.dev.ready = true → s.dev.mhu.mode = .unarmed →
    (data.length = 6 →
      ∃ t, exec (.tableWrite tag (5 :: 0 :: 1 :: data)) s = .next t ∧ t.dev.upp = s.dev.portReplied 1 tag (.done [])
        ∧ t.dev.tbs = { s.dev.tbs with linkConfig := linkConfigOfBytes data } ∧ t.dev.llc = s.dev.llc
        ∧ t.dev.eeu = s.dev.eeu
        ∧ 1 ≤ t.dev.tbs.linkConfig.divisor ∧ 8 ≤ t.dev.tbs.linkConfig.window ∧ t.dev.tbs.linkConfig.window ≤ 64
        ∧ t.dev.tbs.linkConfig.polynomial.getLsbD 0 = true)
    ∧ (data.length = 30 →
      ∃ t, exec (.tableWrite tag (6 :: 0 :: 1 :: data)) s = .next t ∧ t.dev.upp = s.dev.portReplied 1 tag (.done [])
        ∧ t.dev.tbs = { s.dev.tbs with deviceConfig := deviceConfigOfBytes data } ∧ t.dev.nsv = s.dev.nsv
        ∧ t.dev.eeu = { s.dev.eeu with alert := t.dev.alertDue }
        ∧ t.dev.tbs.deviceConfig.tOff < t.dev.tbs.deviceConfig.tOn
        ∧ t.dev.tbs.deviceConfig.v2 < t.dev.tbs.deviceConfig.v1
        ∧ t.dev.tbs.deviceConfig.tCyc % 25 = 0 ∧ 100 ≤ t.dev.tbs.deviceConfig.tCyc
        ∧ t.dev.tbs.deviceConfig.tCyc ≤ 800
        ∧ (∀ f : Factor, f.isError = true → t.dev.tbs.deviceConfig.eventEnables.getLsbD f.bit = false)))
  ∧ ∀ bs : List Byte,
    let k := linkConfigOfBytes bs
    let c := deviceConfigOfBytes bs
    k.divisor = max 1 (u8 bs 0) ∧ k.window = max 8 (min 64 (u8 bs 1))
    ∧ k.polynomial = (byteAt bs 3 ++ byteAt bs 2) ||| 1 ∧ k.initial = byteAt bs 5 ++ byteAt bs 4
    ∧ c.deltaDerate = min 64 (u8 bs 0) ∧ c.tClear = max 1 (min 15 (u8 bs 1))
    ∧ c.tOff = min 4094 (u16 bs 4) ∧ c.tOn = max (c.tOff + 1) (min 4095 (u16 bs 2))
    ∧ c.mBrace = max (-100) (min 300 (s16 bs 6)) ∧ c.hBrace = min 100 (u8 bs 8) ∧ c.gg = min 1024 (u16 bs 9)
    ∧ c.v1 = max 1 (min 1023 (u16 bs 11)) ∧ c.v2 = min (c.v1 - 1) (u16 bs 14)
    ∧ c.action1 = (if u8 bs 13 = 1 then .derate else .flag)
    ∧ c.action2 = (if u8 bs 16 = 1 then .derate else if u8 bs 16 = 2 then .sit else .flag)
    ∧ c.vh = min 100 (u8 bs 17) ∧ c.gDerate = min 1024 (u16 bs 18)
    ∧ c.tCyc = max 100 (min 800 (u16 bs 20)) / 25 * 25 ∧ c.lSil = max 2 (min 64 (u8 bs 22))
    ∧ (∀ n, n < 32 → c.eventEnables.getLsbD n
        = (decide (10 ≤ n ∧ n ≤ 30) && (byteAt bs (23 + n / 8)).getLsbD (n % 8)))
    ∧ c.alertEnable = decide (byteAt bs 27 ≠ 0)
    ∧ c.errorPolicy = (if u8 bs 28 = 1 then .readClears else .explicit)
    ∧ c.eventPolicy = (if u8 bs 29 = 1 then .readClears else .explicit)

/-- TABLE_READ (R158): judged for its size and its range, accepted in every mode; its reply is DONE with the entries as
stored, in index order, and the flags of R158; it changes nothing. -/
def Obligations.TableReadReturnsStoredEntries : Prop :=
  ∀ (tag : Byte) (rest : List Byte) (s : State), s.dev.ready = true →
    (rest.length ≠ 3 → exec (.tableRead tag rest) s
      = .next (s.replied 2 tag .malformed))
    ∧ ∀ code first count : Byte, rest = [code, first, count] →
      (TableId.ofCode code.toNat = none → exec (.tableRead tag rest) s
        = .next (s.replied 2 tag .refusedRange))
      ∧ ∀ t, TableId.ofCode code.toNat = some t →
        ((count = 0 ∨ first.toNat < t.base ∨ t.base + t.entries < first.toNat + count.toNat) →
          exec (.tableRead tag rest) s
            = .next (s.replied 2 tag .refusedRange))
        ∧ (0 < count.toNat → t.base ≤ first.toNat → first.toNat + count.toNat ≤ t.base + t.entries →
          exec (.tableRead tag rest) s = .next (s.replied 2 tag (.done ([code, first, count]
              ++ (List.range count.toNat).flatMap (fun k => s.dev.tbs.readEntry t (first.toNat + k))
              ++ (match t with
                  | .gait => (List.range count.toNat).flatMap fun k =>
                      [if (s.dev.tbs.gait.toList[first.toNat + k]?).any GaitEntry.valid then 1 else 0]
                  | .joint => [if s.dev.tbs.jointValid then 1 else 0]
                  | .pose => [if s.dev.tbs.poseValid then 1 else 0]
                  | .liftProfile => [if s.dev.tbs.liftValid then 1 else 0]
                  | .linkConfig => []
                  | .deviceConfig => [])))))

/-- A stored record is read back as it is: what TABLE_READ sends of a written gait, joint or pose record, profile
entry, link config or device config is stored again as the same record. What it sends of an entry is the layout of the
record that stands at its index, in the entry size of R176; a field of two bytes has its least significant byte first
(R170). -/
def Obligations.ReadEntriesStoreBackUnchanged : Prop :=
  (∀ bs : List Byte,
    gaitOfBytes (gaitBytes (gaitOfBytes bs)) = gaitOfBytes bs
    ∧ jointOfBytes (jointBytes (jointOfBytes bs)) = jointOfBytes bs
    ∧ poseOfBytes (poseRecordBytes (poseOfBytes bs)) = poseOfBytes bs
    ∧ profileOfBytes (bytes16 (profileOfBytes bs)) = profileOfBytes bs
    ∧ linkConfigOfBytes (linkConfigBytes (linkConfigOfBytes bs)) = linkConfigOfBytes bs
    ∧ deviceConfigOfBytes (deviceConfigBytes (deviceConfigOfBytes bs)) = deviceConfigOfBytes bs)
  ∧ (∀ t : TableStore,
    (∀ g : Fin 8, t.readEntry .gait g.val = gaitBytes (t.gaitAt g).record)
    ∧ (∀ j : Joint, t.readEntry .joint j.number = jointBytes (t.jointAt j))
    ∧ (∀ l : Leg, t.readEntry .pose l.number = poseRecordBytes (t.pose.get l))
    ∧ (∀ k : Fin 15, t.readEntry .liftProfile (k.val + 1) = bytes16 (t.liftProfile.get k))
    ∧ t.readEntry .linkConfig 0 = linkConfigBytes t.linkConfig
    ∧ t.readEntry .deviceConfig 0 = deviceConfigBytes t.deviceConfig
    ∧ ∀ (id : TableId) (i : Nat), id.base ≤ i → i < id.base + id.entries → (t.readEntry id i).length = id.entrySize)
  ∧ (∀ n : Nat, n < 65536 → bytes16 n = [BitVec.ofNat 8 (n % 256), BitVec.ofNat 8 (n / 256)] ∧ u16 (bytes16 n) 0 = n)
  ∧ ∀ x : Int, -32768 ≤ x → x ≤ 32767 → s16 (bytes16s x) 0 = x

/-- Validation of a gait record (R4): E, every lift point and every swing length below N with W at least 1, and E in no
leg's swing window (the W phases after the lift point, on the ring of N). Validation writes the flags of the records
and nothing else. -/
def Obligations.GaitValidationJudgesRecord : Prop :=
  (∀ r : GaitRecord, r.isValid = true ↔
    r.e < r.n ∧ (∀ l, (r.legs.get l).liftPoint < r.n) ∧ (∀ l, 1 ≤ (r.legs.get l).swing ∧ (r.legs.get l).swing < r.n)
    ∧ ∀ l k, 1 ≤ k → k ≤ (r.legs.get l).swing → r.e ≠ ((r.legs.get l).liftPoint + k) % r.n)
  ∧ ∀ t : TableStore,
    (∀ g, t.judgeGaits.gaitAt g = { t.gaitAt g with valid := (t.gaitAt g).record.isValid })
    ∧ t.judgeGaits = { t with gait := t.judgeGaits.gait }

/-! ## Modes and holds -/

/-- An ARM that R98 accepts: the mode becomes STAND, every leg STANCE with its stance base at its last delivered
positions, its latch set and its counters 0, the master phase E, MODE_CHANGED raised, DONE. The unmasked faults are
spelled out in ArmRefusedNamesFirstObstacle. -/
def Obligations.ArmEntersStand : Prop :=
  ∀ (tag : Byte) (s : State), s.dev.ready = true → s.dev.mhu.mode = .unarmed →
    (∀ n, (s.dev.node n).live = true) → (∀ n, (s.dev.unmasked n).any = false) →
    s.dev.gaitRecord.isValid = true → s.dev.tbs.jointValid = true →
    (∀ l, (s.dev.tbs.pose.get l).isValid (s.dev.tbs.joint.get l) = true) → peakBreak s.dev.tbs.liftProfile = none →
    ∃ t, exec (.arm tag []) s = .next t ∧ t.dev.upp = s.dev.portReplied 3 tag (.done [])
      ∧ t.dev.mhu = { s.dev.mhu with mode := .stand }
      ∧ (∀ l, t.dev.leg l = { s.dev.leg l with state := .stance, stanceBase := s.dev.lastPose l, partnerLatch := true,
                                               wait := 0, landing := 0, clear := 0, cleared := false })
      ∧ t.dev.gpe.phase = s.dev.gaitRecord.e ∧ t.dev.gpe.current = s.dev.gpe.current
      ∧ t.dev.factor .modeChanged = ⟨true, min ((s.dev.factor .modeChanged).count + 1) 255⟩
      ∧ (∀ f, f ≠ .modeChanged → t.dev.factor f = s.dev.factor f)
      ∧ (∀ g, t.dev.tbs.gaitAt g = { s.dev.tbs.gaitAt g with valid := (s.dev.tbs.gaitAt g).record.isValid })
      ∧ t.dev.tbs.poseValid = true ∧ t.dev.tbs.liftValid = true
      ∧ t.dev.bal = s.dev.bal ∧ t.dev.cfl = s.dev.cfl ∧ t.dev.lcc = s.dev.lcc ∧ t.dev.llc = s.dev.llc
      ∧ t.dev.nsv = s.dev.nsv

/-- A refused ARM: outside UNARMED with REFUSED_MODE and nothing changed; in UNARMED with the first failing condition
of R98 and the number it names, no factor raised, the mode and the legs unchanged, and the valid flags of the gait
records, the poses and the profile as the validations at the start of the request judge them. The unmasked faults of a
node (R141) are, for a foot node, all it holds latched, and for a drive those not in the fault mask of its joint's
record as it stands, NODE_LOST always among them. -/
def Obligations.ArmRefusedNamesFirstObstacle : Prop :=
  (∀ (tag : Byte) (s : State), s.dev.ready = true →
    (s.dev.mhu.mode ≠ .unarmed → exec (.arm tag []) s = .next (s.replied 3 tag .refusedMode))
    ∧ (s.dev.mhu.mode = .unarmed →
      let refused : Item → Nat → Prop := fun item entry =>
        ∃ t, exec (.arm tag []) s = .next t ∧ t.dev.upp = s.dev.portReplied 3 tag (.refusedInvalid item entry)
          ∧ t.dev.mhu = s.dev.mhu ∧ t.dev.gpe = s.dev.gpe ∧ t.dev.eeu = s.dev.eeu
          ∧ (∀ g, t.dev.tbs.gaitAt g = { s.dev.tbs.gaitAt g with valid := (s.dev.tbs.gaitAt g).record.isValid })
          ∧ (t.dev.tbs.poseValid = true ↔ ∀ l, (s.dev.tbs.pose.get l).isValid (s.dev.tbs.joint.get l) = true)
          ∧ (t.dev.tbs.liftValid = true ↔ peakBreak s.dev.tbs.liftProfile = none)
          ∧ t.dev.tbs = { s.dev.tbs with
              gait := t.dev.tbs.gait, poseValid := t.dev.tbs.poseValid, liftValid := t.dev.tbs.liftValid }
          ∧ t.dev = { s.dev with tbs := t.dev.tbs, upp := t.dev.upp }
      let live := ∀ n, (s.dev.node n).live = true
      let sound := ∀ n, (s.dev.unmasked n).any = false
      let gait := s.dev.gaitRecord.isValid = true
      let joints := s.dev.tbs.jointValid = true
      let posed : Leg → Bool := fun l => (s.dev.tbs.pose.get l).isValid (s.dev.tbs.joint.get l)
      (∀ n, (s.dev.node n).live = false → (∀ m : Node, m.number < n.number → (s.dev.node m).live = true) →
        refused .nodes n.number)
      ∧ (live → ∀ n, (s.dev.unmasked n).any = true →
          (∀ m : Node, m.number < n.number → (s.dev.unmasked m).any = false) → refused .faults n.number)
      ∧ (live → sound → ¬ gait → refused .gait s.dev.gpe.current.val)
      ∧ (live → sound → gait → ¬ joints → ∀ j, (s.dev.tbs.jointAt j).isValid = false →
          (∀ k : Joint, k.number < j.number → (s.dev.tbs.jointAt k).isValid = true) → refused .joint j.number)
      ∧ (live → sound → gait → joints → ∀ l, posed l = false →
          (∀ m : Leg, m.number < l.number → posed m = true) → refused .pose l.number)
      ∧ (live → sound → gait → joints → (∀ l, posed l = true) →
          ∀ k, peakBreak s.dev.tbs.liftProfile = some k → refused .liftProfile k)))
  ∧ (∀ (d : Device) (n : Node),
    let f := (d.node n).latched
    (n.slot = .foot → d.unmasked n = f)
    ∧ ∀ i : JointIx, n.slot = i.slot →
      let m := (d.tbs.jointAt ⟨n.leg, i⟩).faultMask
      d.unmasked n =
        { overcurrent := f.overcurrent && !m.overcurrent
          openPhase := f.openPhase && !m.openPhase
          encoder := f.encoder && !m.encoder
          overtemp := f.overtemp && !m.overtemp
          undervolt := f.undervolt && !m.undervolt
          nodeLost := f.nodeLost
          sensorFault := f.sensorFault && !m.sensorFault })
  ∧ ∀ f : FaultSet, f.any = true ↔ f.overcurrent = true ∨ f.openPhase = true ∨ f.encoder = true ∨ f.overtemp = true
      ∨ f.undervolt = true ∨ f.nodeLost = true ∨ f.sensorFault = true

/-- DISARM in STAND, HOLD or SAFE_SIT: UNARMED, no sub-state, empty stack, every leg UNSET with its reset values,
master phase 0, no pending gait; every waiting command is withdrawn and a frame in BREAK or SENDING is cut at the bit
time it has reached (a free value, log 30), any other link state standing; MODE_CHANGED is raised and nothing else; a
composition then carries every engage flag clear and every stiffness 0. In WALK and UNARMED it is refused with
REFUSED_MODE. -/
def Obligations.DisarmReleasesEveryLeg : Prop :=
  ∀ (tag : Byte) (s : State), s.dev.ready = true →
    ((s.dev.mhu.mode = .stand ∨ s.dev.mhu.mode = .hold ∨ s.dev.mhu.mode = .safeSit) →
      ∃ t, exec (.disarm tag []) s = .next t ∧ t.dev.upp = s.dev.portReplied 3 tag (.done [])
        ∧ t.dev.mhu = { s.dev.mhu with mode := .unarmed, sit := none, stack := [] }
        ∧ (∀ l, t.dev.leg l = ⟨.unset, none, none, 0, 0, 0, false, false, none, none⟩)
        ∧ t.dev.gpe.phase = 0 ∧ t.dev.gpe.waiting = none ∧ t.dev.gpe.current = s.dev.gpe.current
        ∧ (∀ l, ∃ cut, t.dev.link l = { s.dev.link l with waiting := none, abandoned := cut }
            ∧ (∀ k, (s.dev.link l).abandoned = some k → cut = some k)
            ∧ ((s.dev.link l).abandoned = none →
                ((s.dev.link l).state = .lowBreak → ∃ k, k < 14 ∧ cut = some k)
                ∧ ((s.dev.link l).state = .sending → ∃ k, 14 ≤ k ∧ k < 194 ∧ cut = some k)
                ∧ ((s.dev.link l).state ≠ .lowBreak → (s.dev.link l).state ≠ .sending → cut = none)))
        ∧ t.dev.factor .modeChanged = ⟨true, min ((s.dev.factor .modeChanged).count + 1) 255⟩
        ∧ (∀ f, f ≠ .modeChanged → t.dev.factor f = s.dev.factor f)
        ∧ t.dev.tbs = s.dev.tbs ∧ t.dev.bal = s.dev.bal ∧ t.dev.cfl = s.dev.cfl ∧ t.dev.lcc = s.dev.lcc
        ∧ t.dev.nsv = s.dev.nsv
        ∧ (∀ j, (t.dev.composeJoint j).entry.engage = false ∧ (t.dev.composeJoint j).entry.stiffness = 0))
    ∧ ((s.dev.mhu.mode = .unarmed ∨ s.dev.mhu.mode = .walk) → exec (.disarm tag []) s
      = .next (s.replied 3 tag .refusedMode))

/-- SIT in STAND, WALK or HOLD: SAFE_SIT, SEATED when every leg already holds its sit pose and LOWERING otherwise, an
empty stack, every leg UNSET, master phase 0, no pending gait, MODE_CHANGED raised once; refused elsewhere. -/
def Obligations.SitEntersSafeSit : Prop :=
  ∀ (tag : Byte) (s : State), s.dev.ready = true →
    ((s.dev.mhu.mode = .stand ∨ s.dev.mhu.mode = .walk ∨ s.dev.mhu.mode = .hold) →
      ∃ t, exec (.sit tag []) s = .next t ∧ t.dev.upp = s.dev.portReplied 3 tag (.done [])
        ∧ t.dev.mhu = { s.dev.mhu with
            mode := .safeSit
            sit := some (if s.dev.loweringComplete then .seated else .lowering)
            stack := [] }
        ∧ (∀ l, t.dev.leg l = ⟨.unset, none, none, 0, 0, 0, false, false, none, none⟩)
        ∧ t.dev.gpe.phase = 0 ∧ t.dev.gpe.waiting = none ∧ t.dev.gpe.current = s.dev.gpe.current
        ∧ t.dev.factor .modeChanged = ⟨true, min ((s.dev.factor .modeChanged).count + 1) 255⟩
        ∧ (∀ f, f ≠ .modeChanged → t.dev.factor f = s.dev.factor f)
        ∧ t.dev.tbs = s.dev.tbs ∧ t.dev.bal = s.dev.bal ∧ t.dev.cfl = s.dev.cfl ∧ t.dev.lcc = s.dev.lcc
        ∧ t.dev.llc = s.dev.llc ∧ t.dev.nsv = s.dev.nsv)
    ∧ (s.dev.loweringComplete = true ↔ ∀ l, s.dev.lastPose l = some (s.dev.tbs.pose.get l).sit)
    ∧ ((s.dev.mhu.mode = .unarmed ∨ s.dev.mhu.mode = .safeSit) → exec (.sit tag []) s
      = .next (s.replied 3 tag .refusedMode))

/-- HOLD of the host (R107): refused in UNARMED and SAFE_SIT; DONE elsewhere, where it is a push request of cause HOST:
it pushes a HOST record, is suppressed when one is on the stack, and overflows a full stack into SAFE_SIT. -/
def Obligations.HostHoldOutcomes : Prop :=
  ∀ (tag : Byte) (s : State), s.dev.ready = true →
    ((s.dev.mhu.mode = .unarmed ∨ s.dev.mhu.mode = .safeSit) → exec (.hold tag []) s
      = .next (s.replied 3 tag .refusedMode))
    ∧ ((s.dev.mhu.mode = .stand ∨ s.dev.mhu.mode = .walk ∨ s.dev.mhu.mode = .hold) →
      ∃ t, exec (.hold tag []) s = .next t ∧ t.dev.upp = s.dev.portReplied 3 tag (.done [])
        ∧ t.dev = (s.dev.request .host).withPort t.dev.upp
        ∧ ((∃ r ∈ s.dev.mhu.stack, r.hold = .host) →
            t.dev = { s.dev with upp := t.dev.upp })
        ∧ ((∀ r ∈ s.dev.mhu.stack, r.hold ≠ .host) → s.dev.mhu.stack.length < 4 →
            t.dev.mhu.mode = .hold
            ∧ t.dev.mhu.stack = s.dev.mhu.stack ++ [s.dev.holdRecord .host]
            ∧ t.dev.gpe.phase = s.dev.gpe.phase)
        ∧ ((∀ r ∈ s.dev.mhu.stack, r.hold ≠ .host) → 4 ≤ s.dev.mhu.stack.length →
            t.dev.mhu.mode = .safeSit ∧ t.dev.mhu.stack = []
            ∧ t.dev.factor .holdOverflow = ⟨true, min ((s.dev.factor .holdOverflow).count + 1) 255⟩))

/-- A push request of any cause (R104 to R106). The factor it names is raised once, in every mode; LINK_SILENT sets
frames since silence to 0. In UNARMED and SAFE_SIT, or when the same hold is on the stack, nothing else happens.
Otherwise a stack with room takes a record of the state at that moment on its top and the mode is HOLD: from STAND and
WALK the legs are converted (SWING to SETDOWN, the LANDING subject of the NO_GROUND pushed to HANG, any other LANDING
leg to SETDOWN, the swing progress of a converted leg absent, its counters and cleared flag standing) and MODE_CHANGED
is raised; from HOLD no leg is converted. A full stack is emptied, HOLD_OVERFLOW is raised and the sit demand takes the
mode to SAFE_SIT. -/
def Obligations.PushRequestJudgedAgainstStack : Prop :=
  ∀ (d : Device) (q : PushRequest),
    let e := d.request q
    let named : Option Factor := match q with
      | .host => none
      | .margin => some .brace
      | .noGround _ => some .noGround
      | .snag _ => some .snag
      | .slip _ => some .slip
      | .node _ .lost => some .nodeLost
      | .node _ .fault => some .driveFault
      | .limit _ => some .limitFreeze
      | .linkSilent => some .linkSilent
    let down := d.mhu.mode = .unarmed ∨ d.mhu.mode = .safeSit
    let same := ∃ r ∈ d.mhu.stack, r.hold = q.hold
    (∀ f, named = some f → e.factor f = d.raisedOnce f)
    ∧ e.mhu.framesSinceSilence = (if q = .linkSilent then 0 else d.mhu.framesSinceSilence)
    ∧ e.mhu.walkFlag = d.mhu.walkFlag
    ∧ (down ∨ same → e.mhu = { d.mhu with framesSinceSilence := e.mhu.framesSinceSilence } ∧ e.gpe = d.gpe
        ∧ ∀ f, named ≠ some f → e.factor f = d.factor f)
    ∧ (¬ down → ¬ same → d.mhu.stack.length < 4 →
        e.mhu.mode = .hold ∧ e.mhu.sit = d.mhu.sit
        ∧ (∃ r, e.mhu.stack = d.mhu.stack ++ [r] ∧ r.hold = q.hold ∧ r.modeAtPush = d.mhu.mode
            ∧ r.gait = d.gpe.current ∧ r.phase = d.gpe.phase ∧ (∀ l, r.legStates.get l = d.legState l)
            ∧ r.tag = d.upp.lastTag)
        ∧ e.gpe.phase = d.gpe.phase ∧ e.gpe.current = d.gpe.current ∧ e.gpe.waiting = d.gpe.waiting
        ∧ (d.mhu.mode = .hold → e.gpe = d.gpe ∧ ∀ f, named ≠ some f → e.factor f = d.factor f)
        ∧ (d.mhu.mode ≠ .hold →
            (∀ l, e.leg l = (match (d.leg l).state with
              | .swing => { d.leg l with state := .setDown, progress := none }
              | .landing => { d.leg l with state := if q = .noGround l then .hang else .setDown, progress := none }
              | _ => d.leg l))
            ∧ e.factor .modeChanged = d.raisedOnce .modeChanged
            ∧ ∀ f, named ≠ some f → f ≠ .modeChanged → e.factor f = d.factor f))
    ∧ (¬ down → ¬ same → 4 ≤ d.mhu.stack.length →
        e.mhu.mode = .safeSit ∧ e.mhu.stack = []
        ∧ e.mhu.sit = some (if d.loweringComplete then .seated else .lowering)
        ∧ (∀ l, e.leg l = ⟨.unset, none, none, 0, 0, 0, false, false, none, none⟩)
        ∧ e.gpe.phase = 0 ∧ e.gpe.waiting = none ∧ e.gpe.current = d.gpe.current
        ∧ e.factor .holdOverflow = d.raisedOnce .holdOverflow ∧ e.factor .modeChanged = d.raisedOnce .modeChanged
        ∧ ∀ f, named ≠ some f → f ≠ .holdOverflow → f ≠ .modeChanged → e.factor f = d.factor f)
    ∧ e.tbs = d.tbs ∧ e.bal = d.bal ∧ e.cfl = d.cfl ∧ e.lcc = d.lcc ∧ e.llc = d.llc ∧ e.nsv = d.nsv ∧ e.upp = d.upp

/-- RESUME judged against the top record (R109): REFUSED_EMPTY on an empty stack and REFUSED_CAUSE on an unmet
condition, nothing changed; on a met condition DONE, one record popped, HOLD_RESUMED raised. The condition of each
cause is that of R110, read from the block that owns it (the unmasked faults are spelled out in
ArmRefusedNamesFirstObstacle). A pop that leaves records leaves mode, phase and gait as they are (R111): the subject
of a popped NO_GROUND record that is in HANG enters STANCE and touches down with its last delivered positions as its
stance base, which sets the latch of the legs whose partner mask names it (R34), and no other leg changes. -/
def Obligations.ResumePopsTopWhenConditionMet : Prop :=
  (∀ (tag : Byte) (s : State), s.dev.ready = true →
    (s.dev.mhu.stack = [] → exec (.resume tag []) s
      = .next (s.replied 3 tag .refusedEmpty))
    ∧ ∀ below top, s.dev.mhu.stack = below ++ [top] →
      (s.dev.resumable top.hold = false → exec (.resume tag []) s
        = .next (s.replied 3 tag .refusedCause))
      ∧ (s.dev.resumable top.hold = true →
        ∃ t, exec (.resume tag []) s = .next t ∧ t.dev.upp = s.dev.portReplied 3 tag (.done [])
          ∧ t.dev = (s.dev.popRecord top).withPort t.dev.upp
          ∧ t.dev.mhu.stack = below
          ∧ t.dev.factor .holdResumed = ⟨true, min ((s.dev.factor .holdResumed).count + 1) 255⟩
          ∧ (below ≠ [] → t.dev.mhu.mode = s.dev.mhu.mode ∧ t.dev.gpe.phase = s.dev.gpe.phase
              ∧ t.dev.factor .modeChanged = s.dev.factor .modeChanged)
          ∧ t.dev.tbs = s.dev.tbs ∧ t.dev.bal = s.dev.bal ∧ t.dev.cfl = s.dev.cfl ∧ t.dev.lcc = s.dev.lcc
          ∧ t.dev.llc = s.dev.llc ∧ t.dev.nsv = s.dev.nsv))
  ∧ (∀ d : Device,
    d.resumable .host = true
    ∧ (d.resumable .margin = true ↔ d.tbs.deviceConfig.mBrace + d.tbs.deviceConfig.hBrace ≤ d.bal.current)
    ∧ (∀ l, d.resumable (.noGround l) = true ↔ d.contact l = .present)
    ∧ (∀ l, d.resumable (.snag l) = true ↔ d.legState l = .stance)
    ∧ (∀ l, d.resumable (.slip l) = true ↔ (d.cfl.get l).shear = ⟨false, false, false⟩)
    ∧ (∀ n, d.resumable (.node n) = true ↔ (d.node n).live = true ∧ (d.unmasked n).any = false)
    ∧ (∀ j, d.resumable (.limit j) = true ↔ ∃ x, (d.jointState j).lastUnclamped = some x
        ∧ (d.tbs.jointAt j).lo ≤ x ∧ x ≤ (d.tbs.jointAt j).hi)
    ∧ (d.resumable .linkSilent = true ↔ d.mhu.framesSinceSilence = 2))
  ∧ ∀ (d : Device) (below : List HoldRecord) (top : HoldRecord), d.mhu.stack = below ++ [top] →
    let e := d.popRecord top
    let lands : Leg → Prop := fun l => top.hold = .noGround l ∧ d.legState l = .hang
    (∀ l, lands l → (e.leg l).stanceBase = d.lastPose l)
    ∧ (below ≠ [] →
      e.mhu = { d.mhu with stack := below }
      ∧ e.gpe = { d.gpe with legs := e.gpe.legs }
      ∧ (∀ l, lands l → e.leg l = { d.leg l with
          state := .stance, partnerLatch := false, progress := none, landing := 0, clear := 0, cleared := false,
          stanceBase := d.lastPose l })
      ∧ (∀ m, ¬ lands m →
          (∀ l, lands l → (d.gaitLeg m).partner.get l = true → e.leg m = { d.leg m with partnerLatch := true })
          ∧ ((∀ l, lands l → (d.gaitLeg m).partner.get l = false) → e.leg m = d.leg m))
      ∧ ∀ f, f ≠ .holdResumed → e.factor f = d.factor f)

/-- The pop of the last record leaves HOLD (R112, R113): WALK when the record was pushed in WALK and the walk flag is
set, with the recorded phase and leg states when no leg was in the air and from E otherwise; STAND in every other
case, with every leg in STANCE. -/
def Obligations.LastPopLeavesHold : Prop :=
  ∀ (d : Device) (r : HoldRecord), d.mhu.mode = .hold → d.mhu.stack = [r] → d.legsFitMode = true →
    let e := d.popRecord r
    (r.modeAtPush = .walk → d.mhu.walkFlag = true →
      e.mhu.mode = .walk
      ∧ ((∀ l, r.legStates.get l = .stance ∨ r.legStates.get l = .liftWait) →
          e.gpe.phase = r.phase ∧ ∀ l, e.legState l = r.legStates.get l)
      ∧ ((∃ l, r.legStates.get l = .swing ∨ r.legStates.get l = .landing) →
          e.gpe.phase = d.gaitRecord.e ∧ (∀ l, e.legState l = .stance) ∧ ∀ l, (e.leg l).partnerLatch = true)
      ∧ e.gpe.waiting = d.gpe.waiting)
    ∧ ((r.modeAtPush ≠ .walk ∨ d.mhu.walkFlag = false) →
      e.mhu.mode = .stand ∧ (∀ l, e.legState l = .stance) ∧ e.gpe.waiting = none
      ∧ (d.gpe.waiting = none → e.gpe.phase = d.gpe.phase ∧ e.gpe.current = d.gpe.current))

/-- A permission attempt (R26, R29) on a waiting leg whose foot node is live without a sensor fault: it is granted when
conditions 1 to 5 hold, and the record is then that of R29; when one of conditions 1 to 4 fails nothing happens, and
when the margin is short no leg record changes. A touchdown (R34): the leg enters STANCE, its own latch is cleared and
the latch of every other leg whose partner mask names it is set, its progress and counters end, and its stance base
becomes its last delivered positions. The counter update of a cycle (R24) goes leg by leg in leg order, each leg by the
state it has as its turn comes, which is the model's reading of R24 (log 39): the wait counter
rises to at most 4096, raising LIFT_STARVED as it passes T_wait, unless that is 0 (R30); the clear counter of an
uncleared swing rises until T_clear (log 20), where a foot in contact requests SNAG (R31); the landing counter rises to
at most 255, requesting NO_GROUND at T_land or with the reach pose delivered (R36); a SETDOWN leg in contact whose
set-down pose is delivered touches down (R39); the others do nothing. -/
def Obligations.LiftAndTouchdownWriteLegRecords : Prop :=
  (∀ (d : Device) (l : Leg), d.legState l = .liftWait → (d.node ⟨l, .foot⟩).live = true →
      (d.node ⟨l, .foot⟩).reported.sensorFault = false →
      let granted := d.mhu.mode = .walk ∧ d.mhu.walkFlag = true ∧ d.contact l ≠ .unknown
        ∧ (∀ m, (d.gaitLeg l).prereq.get m = true → d.supporting m = true)
        ∧ ((∀ m, (d.gaitLeg l).partner.get m = false) ∨ (d.leg l).partnerLatch = true)
      (¬ granted → d.tryLift l = d)
      ∧ (granted → d.gaitRecord.mLift ≤ (marginOf d.bal.body (d.supportSet.set l false)).value →
        (d.tryLift l).leg l = { d.leg l with
          state := .swing, progress := some 0, liftoff := d.lastPose l, partnerLatch := false, touchdownTarget := none,
          clear := 0, cleared := decide (d.contact l = .absent), wait := 0 })
      ∧ (granted → (marginOf d.bal.body (d.supportSet.set l false)).value < d.gaitRecord.mLift →
        (d.tryLift l).gpe = d.gpe)
      ∧ ∀ m, m ≠ l → (d.tryLift l).leg m = d.leg m)
  ∧ (∀ (d : Device) (l m : Leg),
    (d.touchDown l).leg m =
      if m = l then
        { d.leg m with state := .stance, partnerLatch := false, progress := none, landing := 0, clear := 0,
                       cleared := false, stanceBase := d.lastPose l }
      else if (d.gaitLeg m).partner.get l then { d.leg m with partnerLatch := true } else d.leg m)
  ∧ (∀ (d : Device) (l : Leg) (p : Pose),
      d.lastPose l = some p ↔ ∀ i : JointIx, (d.jointState ⟨l, i⟩).lastPosition = some (p.get i))
  ∧ (∀ d : Device,
      d.updateCounters = (((d.updateCounter .fl).updateCounter .fr).updateCounter .rr).updateCounter .rl)
  ∧ ∀ (d : Device) (l : Leg),
    let e := d.updateCounter l
    let r := d.leg l
    (r.state = .liftWait →
        (∀ m, m ≠ l → e.leg m = d.leg m) ∧ e.leg l = { r with wait := min (r.wait + 1) 4096 } ∧ e.mhu = d.mhu
        ∧ e.factor .liftStarved = (if d.gaitRecord.tWait ≠ 0 ∧ r.wait = d.gaitRecord.tWait ∧ r.wait < 4096
            then d.raisedOnce .liftStarved else d.factor .liftStarved))
    ∧ (r.state = .swing → (r.cleared = true ∨ d.tbs.deviceConfig.tClear ≤ r.clear) → e = d)
    ∧ (r.state = .swing → r.cleared = false → r.clear < d.tbs.deviceConfig.tClear →
        let n := min (r.clear + 1) 15
        (n = d.tbs.deviceConfig.tClear → d.contact l = .present →
          e.factor .snag = d.raisedOnce .snag ∧ d.heldFor e (.snag l)
          ∧ ((d.mhu.mode = .stand ∨ d.mhu.mode = .walk) → d.mhu.stack = [] →
              e.leg l = { r with state := .setDown, progress := none, clear := n }))
        ∧ ((n ≠ d.tbs.deviceConfig.tClear ∨ d.contact l ≠ .present) →
          (∀ m, m ≠ l → e.leg m = d.leg m) ∧ e.leg l = { r with clear := n } ∧ e.mhu = d.mhu
          ∧ e.factor .snag = d.factor .snag))
    ∧ (r.state = .landing →
        let n := min (r.landing + 1) 255
        let spent := d.gaitRecord.tLand ≤ n ∨ d.lastPose l = some (d.tbs.pose.get l).reach
        (spent → e.factor .noGround = d.raisedOnce .noGround ∧ d.heldFor e (.noGround l)
          ∧ ((d.mhu.mode = .stand ∨ d.mhu.mode = .walk) → d.mhu.stack = [] →
              e.leg l = { r with state := .hang, progress := none, landing := n }))
        ∧ (¬ spent → (∀ m, m ≠ l → e.leg m = d.leg m) ∧ e.leg l = { r with landing := n } ∧ e.mhu = d.mhu
            ∧ e.factor .noGround = d.factor .noGround))
    ∧ (r.state = .setDown →
        let down := d.lastPose l = some (d.tbs.pose.get l).setDown ∧ d.contact l = .present
        (down → e.leg l = { r with state := .stance, partnerLatch := false, progress := none, landing := 0, clear := 0,
                                   cleared := false, stanceBase := d.lastPose l } ∧ e.mhu = d.mhu)
        ∧ (¬ down → e = d))
    ∧ ((r.state = .stance ∨ r.state = .hang ∨ r.state = .unset) → e = d)

/-! ## Limb links -/

/-- PREAMBLE_END: a waiting command begins its transaction with a break, taking the link config into the settings,
also while a restart is pending, which is the model's reading of R129 and R160 (log 26); an empty slot makes the link
IDLE. BREAK_END: a break with a clean echo passes to SENDING, the command still in flight. The other links and blocks
stand. A command handed over by its lane (R121) begins its transaction on an IDLE link and waits on any other, where
it replaces one that waits already, raising CYCLE_OVERRUN; at the end of a cycle's compositions every lane hands its
command over so, all four composed from the one state that the engine's work and the brace check have left, before a
LIMIT request is judged: the model's reading of R75 and R95 (log 13). -/
def Obligations.PreambleAndBreakEndPassOn : Prop :=
  (∀ (s : State) (l : Leg), s.dev.running = true →
    ((s.dev.link l).state = .preamble →
      ∃ t, exec (.preambleEnd l) s = .next t ∧ t.pending = s.pending
        ∧ t.dev = { s.dev with llc := s.dev.llc.set l (t.dev.link l) }
        ∧ ((s.dev.link l).waiting = none → t.dev.link l = { s.dev.link l with state := .idle })
        ∧ (∀ c, (s.dev.link l).waiting = some c →
            t.dev.link l = { s.dev.link l with
              state := .lowBreak, inFlight := some c, waiting := none, abandoned := none,
              settings := s.dev.tbs.linkConfig, answered := ⟨false, false, false⟩ }))
    ∧ ((s.dev.link l).state = .lowBreak → (s.dev.link l).abandoned = none →
      exec (.breakEnd l) s
        = .next (s.withDev { s.dev with llc := s.dev.llc.set l { s.dev.link l with state := .sending } })))
  ∧ ∀ (d : Device) (l : Leg) (c : LimbCommand),
    ((d.link l).state = .idle → d.handOff l c = { d with llc := d.llc.set l { d.link l with
        state := .lowBreak, inFlight := some c, abandoned := none, settings := d.tbs.linkConfig,
        answered := ⟨false, false, false⟩ } })
    ∧ ((d.link l).state ≠ .idle →
        (d.handOff l c).llc = d.llc.set l { d.link l with waiting := some c }
        ∧ ((d.link l).waiting = none → (d.handOff l c).eeu = d.eeu)
        ∧ ((d.link l).waiting ≠ none → (d.handOff l c).factor .cycleOverrun = d.raisedOnce .cycleOverrun
            ∧ ∀ f, f ≠ .cycleOverrun → (d.handOff l c).factor f = d.factor f))
    ∧ d.compose.link l = (d.handOff l ((d.composeLeg l).map (·.entry))).link l

/-- COMMAND_FRAME_END: a command frame sent with a clean echo is delivered (R87): each entry that carries a position
becomes the last delivered position and stiffness of its joint, an absent one changes nothing; the in-flight command
becomes absent and SLOT 0 opens, the line before it quiet (log 41). In SAFE_SIT LOWERING the sub-state becomes SEATED
when every leg then holds its sit pose (R101). -/
def Obligations.DeliveredCommandBecomesLastDelivered : Prop :=
  ∀ (s : State) (l : Leg) (c : LimbCommand), s.dev.running = true → (s.dev.link l).state = .sending →
    (s.dev.link l).abandoned = none → (s.dev.link l).inFlight = some c →
    ∃ t, exec (.commandFrameEnd l) s = .next t
      ∧ t.dev.link l = { s.dev.link l with state := .slot .ha, inFlight := none, buffer := [], tail := [true], early := 0 }
      ∧ (∀ m, m ≠ l → t.dev.link m = s.dev.link m)
      ∧ (∀ i, t.dev.jointState ⟨l, i⟩ = (match (c.get i).position with
          | some x => { s.dev.jointState ⟨l, i⟩ with lastPosition := some x, lastStiffness := (c.get i).stiffness }
          | none => s.dev.jointState ⟨l, i⟩))
      ∧ (∀ m i, m ≠ l → t.dev.jointState ⟨m, i⟩ = s.dev.jointState ⟨m, i⟩)
      ∧ (let seated := s.dev.mhu.mode = .safeSit ∧ s.dev.mhu.sit = some .lowering
          ∧ ∀ m, t.dev.lastPose m = some (s.dev.tbs.pose.get m).sit
        (seated → t.dev.mhu = { s.dev.mhu with sit := some .seated }
          ∧ t.dev.factor .modeChanged = ⟨true, min ((s.dev.factor .modeChanged).count + 1) 255⟩)
        ∧ (¬ seated → t.dev.mhu = s.dev.mhu ∧ t.dev.eeu = s.dev.eeu))
      ∧ t.dev.tbs = s.dev.tbs ∧ t.dev.gpe = s.dev.gpe ∧ t.dev.bal = s.dev.bal ∧ t.dev.cfl = s.dev.cfl
      ∧ t.dev.nsv = s.dev.nsv ∧ t.dev.upp = s.dev.upp

/-- ECHO_MISMATCH (R124): a read-back majority that differs from the bit being sent abandons the frame at that bit
time, raises the bit-error count by 1, stopping at 255, and raises LIMB_BIT_ERROR; an equal majority changes nothing,
whatever its third sample. From the mismatch on the controller sends ones to the end of the present character (the
whole 14 bit times in the break) and no later character. What is being sent is 13 low bit times and a high one (R122),
then the 18 bytes of the command frame (R123, R178), each as a low bit, its eight bits from the least significant and
a high one (R117): the header with the leg, the entries of HA, HF and KN, and the CRC of R119 over them, most
significant byte first. -/
def Obligations.EchoMismatchAbandonsFrame : Prop :=
  (∀ (s : State) (l : Leg) (c : LimbCommand) (k : Nat) (r : Sample3), s.dev.running = true →
    (s.dev.link l).inFlight = some c → (s.dev.link l).abandoned = none →
    ((s.dev.link l).state = .lowBreak ∧ k < 14 ∨ (s.dev.link l).state = .sending ∧ 14 ≤ k ∧ k < 194) →
    (majority3 r ≠ (transmissionBits (s.dev.link l).settings l c).getD k true →
      ∃ t, exec (.echoMismatch l k r) s = .next t
        ∧ lineDrive l (s.dev.link l) = .sending (transmissionBits (s.dev.link l).settings l c)
        ∧ (∃ bits, lineDrive l (t.dev.link l) = .sending bits
            ∧ bits.length = (if k < 14 then 14 else 14 + 10 * ((k - 14) / 10 + 1))
            ∧ ∀ n, bits.getD n true
                = if n ≤ k then (transmissionBits (s.dev.link l).settings l c).getD n true else true)
        ∧ t.dev.llc = s.dev.llc.set l { s.dev.link l with
            abandoned := some k, bitErrors := min ((s.dev.link l).bitErrors + 1) 255 }
        ∧ t.dev.factor .limbBitError = ⟨true, min ((s.dev.factor .limbBitError).count + 1) 255⟩
        ∧ (∀ f, f ≠ .limbBitError → t.dev.factor f = s.dev.factor f)
        ∧ t.dev.tbs = s.dev.tbs ∧ t.dev.gpe = s.dev.gpe ∧ t.dev.bal = s.dev.bal ∧ t.dev.cfl = s.dev.cfl
        ∧ t.dev.lcc = s.dev.lcc ∧ t.dev.mhu = s.dev.mhu ∧ t.dev.nsv = s.dev.nsv ∧ t.dev.upp = s.dev.upp)
    ∧ (majority3 r = (transmissionBits (s.dev.link l).settings l c).getD k true →
      exec (.echoMismatch l k r) s = .next s))
  ∧ (∀ (settings : LinkConfig) (l : Leg) (c : LimbCommand),
    let bytes := commandBytes settings l c
    let bits := transmissionBits settings l c
    bytes.length = 18 ∧ byteAt bytes 0 = BitVec.ofNat 8 (0xC0 + l.number)
    ∧ (∀ i : JointIx, let e := c.get i
        fieldAt bytes (1 + 5 * i.number) 5 = (match e.position with
            | some x => bytes16s x
            | none => [0x00, 0x80]) ++ bytes16 e.stiffness ++ [if e.engage then 1 else 0])
    ∧ crcHolds settings.polynomial settings.initial bytes = true
    ∧ bits.length = 194 ∧ (∀ n, n < 13 → bits.getD n true = false) ∧ bits.getD 13 true = true
    ∧ ∀ k, k < 18 → bits.getD (14 + 10 * k) true = false
        ∧ (∀ i, i < 8 → bits.getD (14 + 10 * k + 1 + i) true = (byteAt bytes k).getLsbD i)
        ∧ bits.getD (14 + 10 * k + 9) true = true)
  ∧ (∀ (polynomial register : Word16) (b : Byte) (bs : List Byte),
    let step : Word16 → Bool → Word16 := fun r bit =>
      if r.getLsbD 15 ^^ bit then (r <<< 1) ^^^ polynomial else r <<< 1
    crc16 polynomial register [] = register
    ∧ crc16 polynomial register (b :: bs) = crc16 polynomial ([b.getLsbD 7, b.getLsbD 6, b.getLsbD 5, b.getLsbD 4,
        b.getLsbD 3, b.getLsbD 2, b.getLsbD 1, b.getLsbD 0].foldl step register) bs)
  ∧ ∀ (polynomial initial : Word16) (bs : List Byte),
    crcHolds polynomial initial bs = true ↔
      ∃ front hi lo, bs = front ++ [hi, lo] ∧ hi ++ lo = crc16 polynomial initial front

/-- An abandoned or cut frame (R87, R124, R125): while it is being ended the line carries the bits up to the bit time
of the mismatch or the cut, then ones to the end of that character or of the break, and nothing after it; BREAK_END
and COMMAND_FRAME_END cannot come, and that they answer a fault is the model's choice (log 8); the bit time the link
keeps for this is log 30. FRAME_ABANDONED then ends the transaction (R129, R142): the link is IDLE with no command in
flight and none waiting, the voltage reports age and the estimate is formed again, and no last delivered value
changes. -/
def Obligations.AbandonedFrameDeliversNothing : Prop :=
  ∀ (s : State) (l : Leg) (k : Nat), s.dev.running = true → (s.dev.link l).abandoned = some k →
    ((s.dev.link l).state = .lowBreak ∨ (s.dev.link l).state = .sending) →
    (∀ c, (s.dev.link l).inFlight = some c → k < 194 →
      ∃ bits, lineDrive l (s.dev.link l) = .sending bits
        ∧ bits.length = (if k < 14 then 14 else 14 + 10 * ((k - 14) / 10 + 1))
        ∧ ∀ n, bits.getD n true = if n ≤ k then (transmissionBits (s.dev.link l).settings l c).getD n true else true)
    ∧ exec (.breakEnd l) s = .fault .eventImpossible ∧ exec (.commandFrameEnd l) s = .fault .eventImpossible
    ∧ ∃ t, exec (.frameAbandoned l) s = .next t
      ∧ t.dev.llc = s.dev.llc.set l { s.dev.link l with
          state := .idle, inFlight := none, waiting := none, abandoned := none }
      ∧ t.dev = { s.dev.transactionEnded l with llc := t.dev.llc }
      ∧ t.dev.lcc = s.dev.lcc ∧ t.dev.tbs = s.dev.tbs ∧ t.dev.bal = s.dev.bal ∧ t.dev.cfl = s.dev.cfl
      ∧ t.dev.upp = s.dev.upp

/-- A slot that ends with no reply or a short one (REPLY_WINDOW_EXPIRY, SHORT_REPLY) is a miss: the node's slot miss
total rises by 1, stopping at 255, no position or sample is taken, and the next slot opens. A miss that is not the
third in a row of a live node counts and changes nothing else at the node; at that third the node is no longer live
and NODE_LOST is latched, and is reacted to (R137, R139; a drive's only when it was not latched already, log 16):
NODE_LOST is raised once, and hold NODE entered when the drive's leg is supporting or in SWING or LANDING, or the foot
node's leg in SWING or LANDING. SLOT 3 ends the transaction (R129, R142), and a waiting command then begins its break,
also while a restart is pending, which is the model's reading of R129 and R160 (log 26). A line quiet for exactly the
window brings no reply; fewer characters than a full reply, begun within the window, end the slot 4 bit times after
the last; a reply begun after the window is none of the slot's (R126; the line taken for quiet before a slot is log
41). A false start that straddles the window's end leaves the slot's end there, and the samples taken past it count in
the next slot's window, which is the model's reading of R126 (log 42). -/
def Obligations.EmptyAndShortSlotsAreMisses : Prop :=
  (∀ (s : State) (l : Leg) (x : Slot) (heard : List Bool) (cs : List RxChar) (i : Instr), s.dev.running = true →
    (s.dev.link l).state = .slot x → slotChars (s.dev.link l) x heard = some cs →
    (i = .replyWindowExpiry l heard ∧ cs = []
      ∨ i = .shortReply l heard ∧ cs ≠ [] ∧ cs.length < (if x = .foot then 7 else 8)) →
    let n : Node := ⟨l, x⟩
    let h := s.dev.missedOutcome n
    ∃ t, exec i s = .next t
      ∧ (x ≠ .foot → t.dev = { h with llc := t.dev.llc })
      ∧ (x = .foot → t.dev = { h.transactionEnded l with llc := t.dev.llc })
      ∧ (t.dev.link l).missTotals
          = (s.dev.link l).missTotals.set x (min ((s.dev.link l).missTotals.get x + 1) 255)
      ∧ (t.dev.link l).noise = (s.dev.link l).noise ∧ (t.dev.link l).buffer = []
      ∧ (t.dev.link l).state = (match x with
          | .ha => .slot .hf
          | .hf => .slot .kn
          | .kn => .slot .foot
          | .foot => if (s.dev.link l).waiting = none then .idle else .lowBreak)
      ∧ (x ≠ .foot → (t.dev.link l).answered = (s.dev.link l).answered
          ∧ (t.dev.link l).early = (slotReception (s.dev.link l) x heard).known
              - (slotReception (s.dev.link l) x heard).ended
          ∧ (t.dev.link l).tail = (slotLine (s.dev.link l) heard).drop ((slotLine (s.dev.link l) heard).length - 1))
      ∧ t.dev.lcc = s.dev.lcc ∧ s.dev.missedBy t.dev n
      ∧ (∀ m, m ≠ l → t.dev.link m = s.dev.link m) ∧ t.dev.tbs = s.dev.tbs ∧ t.dev.bal = s.dev.bal
      ∧ t.dev.upp = s.dev.upp)
  ∧ ∀ (k : LinkController) (x : Slot), k.tail = [true] → k.early < 16 * k.settings.window →
    let window := 16 * k.settings.window - k.early
    (∀ w, slotChars k x (List.replicate w true) = if w = window then some [] else none)
    ∧ (∀ j, j ≤ 7 → j < window →
      let heard := List.replicate (window - 1 - j) true ++ false :: List.replicate 7 true
      slotChars k x heard = some []
      ∧ (slotReception k x heard).known - (slotReception k x heard).ended = 7 - j)
    ∧ ∀ (bs : List Byte) (w : Nat), bs ≠ [] → bs.length < (if x = .foot then 7 else 8) →
      (w < window →
        slotChars k x (List.replicate w true ++ bs.flatMap charOnLine ++ List.replicate 64 true)
          = some (bs.map fun b => { value := b, noisy := false, framing := false }))
      ∧ (window ≤ w →
        slotChars k x (List.replicate w true ++ bs.flatMap charOnLine ++ List.replicate 64 true) = none)

/-- The judgement of a reply slot, in the order of R127; and REPLY_COMPLETE: a reply that fails its CRC raises
REPLY_CRC and counts a miss, as every reply does that is not good; a good one counts no miss, makes the node live with
no misses, marks its drive as answered, and raises the noise count when a character of it is noisy. The judgement is
handed on (R128): a good reply with its bytes (GoodRepliesReachTheirBlocks), any other as a missed outcome, whose
third in a row loses a live node (log 16); SLOT 3 then ends the transaction (R129, R142), and a waiting command begins
its break, also while a restart is pending, which is the model's reading of R129 and R160 (log 26). The mark of a
drive that has answered is log 29's, and the window less the samples that the slot before carried log 42's. The hunt
of the next slot goes on from sample 11 of the last stop bit (R118, log 41). A full reply begun within the window on
an undisturbed line is complete with its last stop bit (R126). -/
def Obligations.ReplySlotJudgedAndCounted : Prop :=
  (∀ (settings : LinkConfig) (n : Node) (cs : List RxChar),
    let bs := cs.map (·.value)
    let full := if n.slot = .foot then 7 else 8
    (cs = [] → judgeSlot settings n cs = .noReply)
    ∧ (cs ≠ [] → cs.length < full → judgeSlot settings n cs = .short)
    ∧ (cs.length = full → cs.any (·.framing) = true → judgeSlot settings n cs = .framing)
    ∧ (cs.length = full → cs.any (·.framing) = false → crcHolds settings.polynomial settings.initial bs = false →
        judgeSlot settings n cs = .crcFailed)
    ∧ (cs.length = full → cs.any (·.framing) = false → crcHolds settings.polynomial settings.initial bs = true →
        u8 bs 0 ≠ n.number → judgeSlot settings n cs = .wrongNode)
    ∧ (cs.length = full → cs.any (·.framing) = false → crcHolds settings.polynomial settings.initial bs = true →
        u8 bs 0 = n.number → judgeSlot settings n cs = .good (cs.any (·.noisy))))
  ∧ (∀ (s : State) (l : Leg) (x : Slot) (heard : List Bool) (cs : List RxChar), s.dev.running = true →
    (s.dev.link l).state = .slot x → slotChars (s.dev.link l) x heard = some cs →
    cs.length = (if x = .foot then 7 else 8) →
    let j := judgeSlot (s.dev.link l).settings ⟨l, x⟩ cs
    let counted := if j = .crcFailed then s.dev.raise .replyCrc else s.dev
    let h := counted.handOn l x j (cs.map (·.value))
    ∃ t, exec (.replyComplete l heard) s = .next t
      ∧ (x ≠ .foot → t.dev = { h with llc := t.dev.llc })
      ∧ (x = .foot → t.dev = { h.transactionEnded l with llc := t.dev.llc })
      ∧ ((∀ noisy, j ≠ .good noisy) → h = counted.missedOutcome ⟨l, x⟩ ∧ s.dev.missedBy t.dev ⟨l, x⟩)
      ∧ (∀ i : JointIx, x = i.slot →
          (∀ noisy, j = .good noisy → (t.dev.link l).answered = (s.dev.link l).answered.set i true)
          ∧ ((∀ noisy, j ≠ .good noisy) → (t.dev.link l).answered = (s.dev.link l).answered))
      ∧ (∀ noisy, j = .good noisy →
          (t.dev.link l).missTotals = (s.dev.link l).missTotals
          ∧ (t.dev.link l).noise = (if noisy then min ((s.dev.link l).noise + 1) 255 else (s.dev.link l).noise)
          ∧ (t.dev.node ⟨l, x⟩).live = true ∧ (t.dev.node ⟨l, x⟩).misses = 0
          ∧ t.dev.factor .replyCrc = s.dev.factor .replyCrc)
      ∧ ((∀ noisy, j ≠ .good noisy) →
          (t.dev.link l).missTotals
            = (s.dev.link l).missTotals.set x (min ((s.dev.link l).missTotals.get x + 1) 255)
          ∧ (t.dev.link l).noise = (s.dev.link l).noise ∧ t.dev.lcc = s.dev.lcc
          ∧ t.dev.factor .replyCrc = if j = .crcFailed
              then ⟨true, min ((s.dev.factor .replyCrc).count + 1) 255⟩ else s.dev.factor .replyCrc)
      ∧ (t.dev.link l).state = (match x with
          | .ha => .slot .hf
          | .hf => .slot .kn
          | .kn => .slot .foot
          | .foot => if (s.dev.link l).waiting = none then .idle else .lowBreak)
      ∧ (x ≠ .foot → (t.dev.link l).early = 0 ∧ (t.dev.link l).tail = (slotLine (s.dev.link l) heard).drop
          ((slotLine (s.dev.link l) heard).length - 6))
      ∧ (t.dev.link l).buffer = [] ∧ (∀ m, m ≠ l → t.dev.link m = s.dev.link m)
      ∧ t.dev.tbs = s.dev.tbs ∧ t.dev.bal = s.dev.bal ∧ t.dev.upp = s.dev.upp)
  ∧ ∀ (k : LinkController) (x : Slot) (bs : List Byte) (w : Nat), k.tail = [true] →
    w < 16 * k.settings.window - k.early →
    bs.length = (if x = .foot then 7 else 8) →
    slotChars k x (List.replicate w true ++ bs.flatMap charOnLine)
      = some (bs.map fun b => { value := b, noisy := false, framing := false })

/-! ## Supervision, contact and supply -/

/-- A good drive reply at the lane and the supervisor (R88, R136, R137, R142): the reported position is the reply's,
clamped; the last delivered position becomes it, with stiffness 0, only while unknown; the reported set is the reply's
flags, which join the latched set; the voltage report is the reply's with age 0; newly latched, OVERTEMP is raised,
and the unmasked others raise DRIVE_FAULT once, with hold NODE when the leg is supporting or in SWING or LANDING. A
good foot reply at the supervisor (R139): its reported set is SENSOR_FAULT or empty, newly latched it raises
DRIVE_FAULT once, with hold NODE when the leg is in SWING or LANDING. The same reply at the Contact Filter (R47 to
R51): with a sensor fault only the fault is noted and the contact state is UNKNOWN; without one the load is kept, its
sample (1 at T_on or more, 0 at T_off or less, else the newest) joins the window, the contact state is the majority,
CHATTER is raised when the three samples differ (R50), and the shear flag joins the shear window. A changed contact is
handed to the engine at once (R32, R35, R37, R39, R40): a leg in STANCE or LIFT_WAIT keeps its record, UNLOAD raised
when it is ABSENT; a swing is cleared by ABSENT, and when cleared touches down early or scuffs at PRESENT by its
threshold; LANDING and SETDOWN touch down at PRESENT; HANG and UNSET do nothing. A touchdown that leaves every leg in
STANCE completes a pending stop (R41). The slip judgement (R54) requests hold SLIP once in a run of shear of a
supporting leg, one that has just touched down among them. -/
def Obligations.GoodRepliesReachTheirBlocks : Prop :=
  (∀ (d : Device) (j : Joint) (bs : List Byte) (noisy : Bool),
    let n : Node := ⟨j.leg, j.ix.slot⟩
    let e := d.handOn j.leg j.ix.slot (.good noisy) bs
    let r := driveReply bs
    let old := (d.node n).latched
    let mask := (d.tbs.jointAt j).faultMask
    let bad := (r.faults.overcurrent && !old.overcurrent && !mask.overcurrent)
      || (r.faults.openPhase && !old.openPhase && !mask.openPhase)
      || (r.faults.encoder && !old.encoder && !mask.encoder)
      || (r.faults.undervolt && !old.undervolt && !mask.undervolt)
    let holds := d.supporting j.leg = true ∨ d.legState j.leg = .swing ∨ d.legState j.leg = .landing
    e.jointState j = (match (d.jointState j).lastPosition with
      | some _ => { d.jointState j with reported := some r.position }
      | none => { d.jointState j with
          reported := some r.position, lastPosition := some r.position, lastStiffness := 0 })
    ∧ r = { faults := ⟨(byteAt bs 1).getLsbD 0, (byteAt bs 1).getLsbD 1, (byteAt bs 1).getLsbD 2,
              (byteAt bs 1).getLsbD 3, (byteAt bs 1).getLsbD 4, false, false⟩
            position := max (-18000) (min 18000 (s16 bs 2))
            volts := min 1023 (u16 bs 4) }
    ∧ e.node n = { live := true, misses := 0, reported := r.faults, latched :=
        { overcurrent := old.overcurrent || r.faults.overcurrent
          openPhase := old.openPhase || r.faults.openPhase
          encoder := old.encoder || r.faults.encoder
          overtemp := old.overtemp || r.faults.overtemp
          undervolt := old.undervolt || r.faults.undervolt
          nodeLost := old.nodeLost
          sensorFault := old.sensorFault } }
    ∧ (e.nsv.voltages.get j.leg).get j.ix = { volts := r.volts, age := 0 }
    ∧ e.factor .overtemp
        = (if r.faults.overtemp = true ∧ old.overtemp = false then d.raisedOnce .overtemp else d.factor .overtemp)
    ∧ e.factor .driveFault = (if bad then d.raisedOnce .driveFault else d.factor .driveFault)
    ∧ (bad = true → holds → d.heldFor e (.node n))
    ∧ (¬ (bad = true ∧ holds) → d.noneHeld e)
    ∧ (∀ k, k ≠ j → e.jointState k = d.jointState k) ∧ (∀ m, m ≠ n → e.node m = d.node m) ∧ e.cfl = d.cfl)
  ∧ (∀ (d : Device) (l : Leg) (bs : List Byte) (noisy : Bool),
    let n : Node := ⟨l, .foot⟩
    let e := d.handOn l .foot (.good noisy) bs
    let fault := flagAt bs 4
    let old := (d.node n).latched
    let newly := fault = true ∧ old.sensorFault = false
    e.node n = { live := true, misses := 0, reported := { noFaults with sensorFault := fault },
                 latched := { old with sensorFault := old.sensorFault || fault } }
    ∧ e.factor .driveFault = (if newly then d.raisedOnce .driveFault else d.factor .driveFault)
    ∧ (newly → (d.legState l = .swing ∨ d.legState l = .landing) → d.heldFor e (.node n))
    ∧ (∀ m, m ≠ n → e.node m = d.node m) ∧ e.lcc = d.lcc ∧ e.nsv.voltages = d.nsv.voltages
    ∧ e = (d.superviseFoot l (footReply bs)).filterReply l (footReply bs)
    ∧ (d.superviseFoot l (footReply bs)).cfl = d.cfl
    ∧ footReply bs = { load := min (u16 bs 1) 4095, shear := decide (byteAt bs 3 ≠ 0), sensorFault := fault })
  ∧ ∀ (d : Device) (l : Leg) (reply : FootReply),
    let e := d.filterReply l reply
    let old := d.cfl.get l
    let w := old.samples
    let sample := if d.tbs.deviceConfig.tOn ≤ reply.load then true
      else if reply.load ≤ d.tbs.deviceConfig.tOff then false else w.newest
    let sheared := 2 ≤ old.shear.middle.toNat + old.shear.newest.toNat + reply.shear.toNat
    let r := d.leg l
    let new := e.contact l
    let touched : LegRecord := { r with state := .stance, partnerLatch := false, progress := none, landing := 0,
                                        clear := 0, cleared := false, stanceBase := d.lastPose l }
    (reply.sensorFault = true → e.cfl.get l = { old with faultSeen := true, contact := .unknown })
    ∧ (reply.sensorFault = false →
      (e.cfl.get l).samples = ⟨w.middle, w.newest, sample⟩
      ∧ (e.cfl.get l).lastLoad = reply.load ∧ (e.cfl.get l).faultSeen = false
      ∧ (e.cfl.get l).contact = (if 2 ≤ w.middle.toNat + w.newest.toNat + sample.toNat then .present else .absent)
      ∧ (e.cfl.get l).majority = (e.cfl.get l).contact
      ∧ (e.cfl.get l).shear = ⟨old.shear.middle, old.shear.newest, reply.shear⟩
      ∧ (e.cfl.get l).chatter = (if w.middle = w.newest ∧ w.newest = sample then old.chatter
          else min (old.chatter + 1) 255))
    ∧ e.factor .chatter = (if reply.sensorFault = true ∨ (w.middle = w.newest ∧ w.newest = sample) then d.factor .chatter
        else d.raisedOnce .chatter)
    ∧ (∀ m, m ≠ l → e.cfl.get m = d.cfl.get m)
    ∧ (reply.sensorFault = true ∨ ¬ sheared →
        e.factor .slip = d.factor .slip
        ∧ ((r.state = .swing ∨ r.state = .landing) → e.legState l = .stance → d.mhu.mode = .walk → d.mhu.walkFlag = false →
            (∀ m, m ≠ l → d.legState m = .stance) → e.mhu.mode = .stand)
        ∧ (new = d.contact l → e.gpe = d.gpe ∧ e.mhu = d.mhu)
        ∧ (new ≠ d.contact l →
          ((r.state = .stance ∨ r.state = .liftWait) → e.gpe = d.gpe ∧ e.mhu = d.mhu
            ∧ e.factor .unload = if new = .absent then d.raisedOnce .unload else d.factor .unload)
          ∧ (r.state = .swing → new = .absent → e.leg l = { r with cleared := true })
          ∧ (r.state = .swing → (new = .unknown ∨ (new = .present ∧ r.cleared = false)) → e.leg l = r)
          ∧ (r.state = .swing → new = .present → r.cleared = true → ∀ p, r.progress = some p →
              let threshold := (d.gaitLeg l).swing * d.gaitRecord.sEarly / 16
              (p < threshold → e.leg l = r ∧ e.factor .scuff = d.raisedOnce .scuff)
              ∧ (threshold ≤ p → e.legState l = .stance ∧ (e.leg l).stanceBase = d.lastPose l
                  ∧ e.factor .touchdownEarly = d.raisedOnce .touchdownEarly))
          ∧ (r.state = .landing → (new = .present → e.legState l = .stance ∧ (e.leg l).stanceBase = d.lastPose l)
              ∧ (new ≠ .present → e.leg l = r))
          ∧ (r.state = .setDown → (new = .present → e.leg l = touched) ∧ (new ≠ .present → e.leg l = r))
          ∧ ((r.state = .hang ∨ r.state = .unset) → e.gpe = d.gpe ∧ e.mhu = d.mhu)))
    ∧ (reply.sensorFault = false → ¬ sheared → (e.cfl.get l).slipReported = false)
    ∧ (reply.sensorFault = false → sheared → old.slipReported = true →
        (e.cfl.get l).slipReported = true ∧ e.factor .slip = d.factor .slip)
    ∧ (reply.sensorFault = false → sheared → old.slipReported = false → (r.state = .stance ∨ r.state = .liftWait) →
        (new ≠ .absent → (e.cfl.get l).slipReported = true ∧ e.factor .slip = d.raisedOnce .slip
          ∧ d.heldFor e (.slip l))
        ∧ (new = .absent → (e.cfl.get l).slipReported = false ∧ e.factor .slip = d.factor .slip))
    ∧ (reply.sensorFault = false → sheared → old.slipReported = false →
        (r.state = .swing ∨ r.state = .landing ∨ r.state = .setDown) →
        let lands := new = .present ∧ d.contact l ≠ .present ∧ (r.state = .swing → r.cleared = true
          ∧ (d.gaitLeg l).swing * d.gaitRecord.sEarly / 16 ≤ r.progress.getD 0)
        (lands → (e.cfl.get l).slipReported = true ∧ e.factor .slip = d.raisedOnce .slip ∧ d.heldFor e (.slip l))
        ∧ (¬ lands → (e.cfl.get l).slipReported = false ∧ e.factor .slip = d.factor .slip))
    ∧ (reply.sensorFault = false → sheared → old.slipReported = false → (r.state = .hang ∨ r.state = .unset) →
        (e.cfl.get l).slipReported = false ∧ e.factor .slip = d.factor .slip)

/-- Raising a factor (R163): its flag is set and its count rises by 1, stopping at 255, whatever the flag held; no
other factor and nothing outside the unit changes, and ALERT follows its condition. A raising taken before a clear of
the factor is removed by it; one taken after gives the count 1. -/
def Obligations.RaisingCountsOneFactor : Prop :=
  ∀ (d : Device) (f : Factor),
    (d.raise f).factor f = ⟨true, min ((d.factor f).count + 1) 255⟩
    ∧ (∀ g, g ≠ f → (d.raise f).factor g = d.factor g)
    ∧ d.raise f = { d with eeu := { d.eeu with factors := (d.raise f).eeu.factors, alert := (d.raise f).eeu.alert } }
    ∧ (d.raise f).eeu.alert = (d.raise f).alertDue
    ∧ ((d.raise f).alertDue = true ↔ d.running = true ∧ d.tbs.deviceConfig.alertEnable = true
        ∧ ∃ g, ((d.raise f).factor g).flag = true
            ∧ (g.isError = true ∨ d.tbs.deviceConfig.eventEnables.getLsbD g.bit = true))
    ∧ ((d.raise f).clearFactors (· = f)).factor f = ⟨false, 0⟩
    ∧ ((d.clearFactors (· = f)).raise f).factor f = ⟨true, 1⟩

/-- Forming the supply estimate again (R142 to R144): it is the least counting report, or none, where a report counts
while its age is 0..3 and its drive is live; a NORMAL level becomes LOW
below its limit, a LOW one NORMAL at its limit plus V_h or with no estimate; a level that becomes LOW raises
SUPPLY_LOW or, with action SIT, SUPPLY_SIT and demands the sit; without such a change nothing but the supply record
changes. At the end of a transaction the report of each drive of the leg that gave no good reply in it ages by 1,
stopping at 4, and the estimate is formed again (R142; the mark of the drives that answered is log 29). -/
def Obligations.SupplyLevelsFollowEstimate : Prop :=
  (∀ d : Device,
    let e := d.formEstimate
    let c := d.tbs.deviceConfig
    let fell1 := d.nsv.level1 = .normal ∧ e.nsv.level1 = .low
    let fell2 := d.nsv.level2 = .normal ∧ e.nsv.level2 = .low
    e.nsv.estimate = d.countingReports.min?
    ∧ (∀ v, v ∈ d.countingReports ↔ ∃ j : Joint, ((d.nsv.voltages.get j.leg).get j.ix).volts = v
        ∧ ((d.nsv.voltages.get j.leg).get j.ix).age ≤ 3 ∧ (d.node ⟨j.leg, j.ix.slot⟩).live = true)
    ∧ (d.nsv.level1 = .normal → (e.nsv.level1 = .low ↔ ∃ v, e.nsv.estimate = some v ∧ v < c.v1))
    ∧ (d.nsv.level1 = .low → (e.nsv.level1 = .low ↔ ∃ v, e.nsv.estimate = some v ∧ v < c.v1 + c.vh))
    ∧ (d.nsv.level2 = .normal → (e.nsv.level2 = .low ↔ ∃ v, e.nsv.estimate = some v ∧ v < c.v2))
    ∧ (d.nsv.level2 = .low → (e.nsv.level2 = .low ↔ ∃ v, e.nsv.estimate = some v ∧ v < c.v2 + c.vh))
    ∧ (fell1 → (e.factor (if c.action1 = .sit then .supplySit else .supplyLow)).flag = true)
    ∧ (fell2 → (e.factor (if c.action2 = .sit then .supplySit else .supplyLow)).flag = true)
    ∧ ((fell1 ∧ c.action1 = .sit ∨ fell2 ∧ c.action2 = .sit) → d.mhu.mode ≠ .unarmed →
        e.mhu.mode = .safeSit ∧ e.mhu.stack = if d.mhu.mode = .safeSit then d.mhu.stack else [])
    ∧ (¬ fell1 → ¬ fell2 → e = { d with nsv := e.nsv })
    ∧ e.nsv.nodes = d.nsv.nodes ∧ e.nsv.voltages = d.nsv.voltages)
  ∧ ∀ (d : Device) (l : Leg),
    let a := d.ageReports l
    d.transactionEnded l = a.formEstimate
    ∧ a = { d with nsv := { d.nsv with voltages := a.nsv.voltages } }
    ∧ ∀ j : Joint, let v := (d.nsv.voltages.get j.leg).get j.ix
      (a.nsv.voltages.get j.leg).get j.ix
        = if j.leg = l ∧ (d.link l).answered.get j.ix = false then { v with age := min (v.age + 1) 4 } else v

/-! ## Balance and composition -/

/-- The projected centre of mass (R60), and the margin of fewer than three feet (R65, R66): −2047 for none or one, or
with no body state; for two the negated distance to the line through them, and −2047 when they coincide; no such set is
degenerate. Three or four feet whose doubled signed area is at most 0 are degenerate with margin −2047 (R62); otherwise
the margin is the least edge distance, the edges of length 0 skipped, clamped (R63, R64). A margin always lies within
−2047..+2047. A cycle stores the margin of the support set and for each leg that of the set without it, copied where it
does not support, and raises POLY_DEGENERATE once for each degenerate computation (R67, R68, R70); the brace check then
requests MARGIN in STAND, WALK and HOLD exactly when the current margin is below M_brace (R71). -/
def Obligations.ProjectionAndMarginOfFewFeet : Prop :=
  (∀ b : BodyState,
    projection b = { x := b.com.x + (b.height * b.pitch).tdiv 4096
                     y := b.com.y - (b.height * b.roll).tdiv 4096 }
    ∧ (-500 ≤ b.com.x → b.com.x ≤ 500 → -500 ≤ b.com.y → b.com.y ≤ 500 → 100 ≤ b.height → b.height ≤ 800 →
        -2048 ≤ b.roll → b.roll ≤ 2048 → -2048 ≤ b.pitch → b.pitch ≤ 2048 →
        -1638400 ≤ b.height * b.pitch ∧ b.height * b.pitch ≤ 1638400
        ∧ -1638400 ≤ b.height * b.roll ∧ b.height * b.roll ≤ 1638400
        ∧ -400 ≤ (b.height * b.pitch).tdiv 4096 ∧ (b.height * b.pitch).tdiv 4096 ≤ 400
        ∧ -400 ≤ (b.height * b.roll).tdiv 4096 ∧ (b.height * b.roll).tdiv 4096 ≤ 400
        ∧ -900 ≤ (projection b).x ∧ (projection b).x ≤ 900 ∧ -900 ≤ (projection b).y ∧ (projection b).y ≤ 900))
  ∧ (∀ (b : BodyState) (set : LegSet),
      feetOf b set = ([Leg.fl, Leg.rl, Leg.rr, Leg.fr].filter set.get).map b.feet.get
      ∧ ∀ p q, feetOf b set = [p, q] →
        let c := projection b
        let len := Nat.sqrt ((q.x - p.x) ^ 2 + (q.y - p.y) ^ 2).toNat
        let cross := (q.x - p.x) * (c.y - p.y) - (q.y - p.y) * (c.x - p.x)
        (marginOf (some b) set).value
          = if len = 0 then -2047 else clampInt (-2047) 2047 (-((cross.natAbs / len : Nat) : Int)))
  ∧ (∀ (b : BodyState) (set : LegSet), 3 ≤ (feetOf b set).length →
      let edges := (feetOf b set).zip ((feetOf b set).rotate 1)
      let area := (edges.map fun e => e.1.x * e.2.y - e.2.x * e.1.y).sum
      let c := projection b
      let len : Point × Point → Nat := fun e => Nat.sqrt ((e.2.x - e.1.x) ^ 2 + (e.2.y - e.1.y) ^ 2).toNat
      let dist : Point × Point → Int := fun e =>
        ((e.2.x - e.1.x) * (c.y - e.1.y) - (e.2.y - e.1.y) * (c.x - e.1.x)).tdiv (len e)
      (area ≤ 0 → marginOf (some b) set = { value := -2047, degenerate := true })
      ∧ (0 < area → ∃ least, (∃ e ∈ edges, len e ≠ 0 ∧ least = dist e) ∧ (∀ e ∈ edges, len e ≠ 0 → least ≤ dist e)
          ∧ marginOf (some b) set = { value := clampInt (-2047) 2047 least, degenerate := false }))
  ∧ (∀ d : Device,
      let current := marginOf d.bal.body d.supportSet
      let without : Leg → Margin := fun l => marginOf d.bal.body (d.supportSet.set l false)
      let asked := Leg.all.filter fun l => d.supporting l && (without l).degenerate
      let found := asked.length + if current.degenerate then 1 else 0
      d.computeMargins.bal.current = current.value
      ∧ (∀ l, d.supporting l = true ↔ (d.legState l = .stance ∨ d.legState l = .liftWait) ∧ d.contact l ≠ .absent)
      ∧ (∀ l, d.supportSet.get l = d.supporting l ∧ d.computeMargins.bal.prospective.get l
          = if d.supporting l then (without l).value else current.value)
      ∧ d.computeMargins.factor .polyDegenerate = (if found = 0 then d.factor .polyDegenerate
          else ⟨true, min ((d.factor .polyDegenerate).count + found) 255⟩)
      ∧ (((d.mhu.mode = .stand ∨ d.mhu.mode = .walk ∨ d.mhu.mode = .hold)
            ∧ d.bal.current < d.tbs.deviceConfig.mBrace) → d.braceCheck = d.request .margin)
      ∧ (¬ ((d.mhu.mode = .stand ∨ d.mhu.mode = .walk ∨ d.mhu.mode = .hold)
            ∧ d.bal.current < d.tbs.deviceConfig.mBrace) → d.braceCheck = d))
  ∧ ∀ (body : Option BodyState) (set : LegSet),
    -2047 ≤ (marginOf body set).value ∧ (marginOf body set).value ≤ 2047
    ∧ ((set.toList.filter id).length ≤ 2 → (marginOf body set).degenerate = false ∧ (marginOf body set).value ≤ 0)
    ∧ ((set.toList.filter id).length ≤ 1 ∨ body = none → (marginOf body set).value = -2047)
    ∧ (body = none → (marginOf body set).degenerate = false)

/-- The composition of a joint. An unknown last delivered position gives an absent entry, to which no stage is applied
(R75). Otherwise the base target of its leg's state (R77 to R81) and the balance correction (R82) are added and
clamped; the step limit holds the sum within step_max of the step reference, raising STEP_LIMITED when it moves it
(R84); what it gives is the last unclamped position; and under CLAMP or FREEZE the soft limit then holds the entry
within [lo, hi], a position outside them raising LIMIT_NOTE under NOTE and LIMIT_CLAMP under CLAMP and requesting hold
LIMIT under FREEZE (R85). Its stiffness is the floor of R83 over the input stiffness of the mode, the global gain,
limited under DERATE, and the joint gain, halved while the drive reports OVERTEMP (R138); 0 in UNARMED, and at gains
of at most 1024 no more than the input stiffness. A composition writes a STANCE segment into the stance base of a leg
in STANCE or LIFT_WAIT, and a TOUCHDOWN segment into the touchdown target of a leg in SWING; a segment of the other
kind raises TARGET_MISMATCH once for its leg (R77, R78). The LIMIT requests are judged in the order of joint numbers
when all lanes have composed (log 13). What an absent segment gives in STANCE, LIFT_WAIT and SWING is the model's
choice (log 18): the rules rule it out. -/
def Obligations.ComposedPositionWithinLimits : Prop :=
  (∀ (d : Device) (j : Joint), (d.jointState j).lastPosition = none →
    d.composeJoint j = { entry := ⟨none, 0, false⟩, unclamped := (d.jointState j).lastUnclamped, raised := [],
                         freeze := false })
  ∧ (∀ (d : Device) (j : Joint) (last : Int), (d.jointState j).lastPosition = some last →
    let jr := d.tbs.jointAt j
    let ref := (match (d.link j.leg).inFlight with
      | some c => (c.get j.ix).position.getD last
      | none => last)
    let wanted := clampInt (-18000) 18000 (d.baseTarget j ref last + d.correction j)
    let y := if ref + jr.stepMax < wanted then ref + jr.stepMax
      else if wanted < ref - jr.stepMax then ref - jr.stepMax else wanted
    ∃ x, (d.composeJoint j).entry.position = some x ∧ (d.composeJoint j).unclamped = some y
      ∧ (d.composeJoint j).raised = (if y = wanted then [] else [.stepLimited])
          ++ (if jr.lo ≤ y ∧ y ≤ jr.hi then [] else match jr.limitMode with
            | .note => [.limitNote]
            | .clamp => [.limitClamp]
            | _ => [])
      ∧ ((d.composeJoint j).freeze = true ↔ jr.limitMode = .freeze ∧ ¬ (jr.lo ≤ y ∧ y ≤ jr.hi))
      ∧ (jr.lo ≤ y ∧ y ≤ jr.hi → x = y)
      ∧ ((jr.limitMode = .off ∨ jr.limitMode = .note) → x = y)
      ∧ (jr.limitMode = .clamp ∨ jr.limitMode = .freeze → jr.lo ≤ jr.hi → x = clampInt jr.lo jr.hi y
          ∧ jr.lo ≤ x ∧ x ≤ jr.hi)
      ∧ (d.composeJoint j).entry.engage = decide (d.mhu.mode ≠ .unarmed)
      ∧ (d.mhu.mode = .unarmed → (d.composeJoint j).entry.stiffness = 0)
      ∧ (d.composeJoint j).entry.stiffness = d.inputStiffness j * d.globalGain * d.jointGain j / 2 ^ 20
      ∧ (d.globalGain ≤ 1024 → d.jointGain j ≤ 1024 → (d.composeJoint j).entry.stiffness ≤ d.inputStiffness j))
  ∧ (∀ (d : Device) (j : Joint),
    let jr := d.tbs.jointAt j
    let e := d.lcc.errors
    let sum := jr.kr * e.roll + jr.kp * e.pitch + jr.kh * e.height
    let rounded := if 0 ≤ sum then (sum + 512) / 1024 else -((-sum + 512) / 1024)
    d.correction j = if d.supporting j.leg = true ∧ d.bal.freshness = .fresh
      then clampInt (-jr.cMax) jr.cMax rounded else 0)
  ∧ (∀ (d : Device) (j : Joint),
    let c := d.tbs.deviceConfig
    (d.mhu.mode = .unarmed → d.inputStiffness j = 0)
    ∧ (d.mhu.mode = .safeSit → d.inputStiffness j = (d.tbs.pose.get j.leg).sitStiffness.get j.ix)
    ∧ ((d.mhu.mode = .stand ∨ d.mhu.mode = .walk ∨ d.mhu.mode = .hold) →
        ∀ g, (d.lcc.lanes.get j.leg).segment = some g → d.inputStiffness j = g.stiffness.get j.ix)
    ∧ d.globalGain = (if d.derate then min c.gg c.gDerate else c.gg)
    ∧ d.jointGain j = (if (d.node ⟨j.leg, j.ix.slot⟩).reported.overtemp then (d.tbs.jointAt j).gj / 2
        else (d.tbs.jointAt j).gj))
  ∧ (∀ (d : Device) (j : Joint) (ref last : Int),
    let r := d.leg j.leg
    let seg := (d.lcc.lanes.get j.leg).segment
    let base := d.baseTarget j ref last
    let most : Int := (d.tbs.jointAt j).stepMax
    let toward : Pose → Int := fun p => if ref + most < p.get j.ix then ref + most
      else if p.get j.ix < ref - most then ref - most else p.get j.ix
    ((r.state = .stance ∨ r.state = .liftWait) →
      (∀ g, seg = some g → g.kind = .stance → base = g.targets.get j.ix)
      ∧ ((∀ g, seg = some g → g.kind = .touchdown) →
          (∀ p, r.stanceBase = some p → base = p.get j.ix) ∧ (r.stanceBase = none → base = last)))
    ∧ (r.state = .swing → ∀ lift s, r.liftoff = some lift → r.progress = some s →
        let end_ := (match seg with
          | some g => if g.kind = .touchdown then g.targets.get j.ix
              else (r.touchdownTarget.map (·.get j.ix)).getD (lift.get j.ix)
          | none => (r.touchdownTarget.map (·.get j.ix)).getD (lift.get j.ix))
        let k := 16 * s / (d.gaitLeg j.leg).swing
        base = clampInt (-18000) 18000
          (lift.get j.ix + ((end_ - lift.get j.ix) * s).tdiv (d.gaitLeg j.leg).swing
            + ((d.gaitLeg j.leg).clearance.get j.ix * profileAt d.tbs.liftProfile k).tdiv 1024))
    ∧ (r.state = .landing → base = toward (d.tbs.pose.get j.leg).reach)
    ∧ (r.state = .setDown → base = toward (d.tbs.pose.get j.leg).setDown)
    ∧ (r.state = .hang → ∀ g, seg = some g → base = g.targets.get j.ix)
    ∧ (r.state = .unset → d.mhu.mode = .safeSit → base = toward (d.tbs.pose.get j.leg).sit)
    ∧ (r.state = .unset → d.mhu.mode = .unarmed → base = (d.jointState j).reported.getD last))
  ∧ ∀ d : Device,
    let kept : Leg → LegRecord := fun l => match (d.lcc.lanes.get l).segment with
      | none => d.leg l
      | some g =>
        if ((d.leg l).state = .stance ∨ (d.leg l).state = .liftWait) ∧ g.kind = .stance then
          { d.leg l with stanceBase := some g.targets }
        else if (d.leg l).state = .swing ∧ g.kind = .touchdown then { d.leg l with touchdownTarget := some g.targets }
        else d.leg l
    let e : Device := { d with gpe := { d.gpe with legs := .ofFn kept } }
    let frozen := Joint.all.filter fun j => (d.composeJoint j).freeze
    let judged := frozen.foldl (fun e j => e.request (.limit j)) e
    let wrong := Leg.all.filter fun l => match (d.lcc.lanes.get l).segment with
      | none => false
      | some g => decide (((d.leg l).state = .stance ∨ (d.leg l).state = .liftWait) ∧ g.kind = .touchdown
          ∨ (d.leg l).state = .swing ∧ g.kind = .stance)
    let raisedBy : Factor → Nat := fun f => match f with
      | .targetMismatch => wrong.length
      | .limitFreeze => frozen.length
      | _ => (Joint.all.filter fun j => decide (f ∈ (d.composeJoint j).raised)).length
    d.compose.gpe = judged.gpe ∧ d.compose.mhu = judged.mhu
    ∧ (∀ f, (f = .targetMismatch ∨ f = .limitFreeze ∨ f = .stepLimited ∨ f = .limitNote ∨ f = .limitClamp) →
        d.compose.factor f = if raisedBy f = 0 then d.factor f
          else ⟨true, min ((d.factor f).count + raisedBy f) 255⟩)
    ∧ (∀ j, d.compose.jointState j = { d.jointState j with lastUnclamped := (d.composeJoint j).unclamped })
    ∧ d.compose.tbs = d.tbs ∧ d.compose.bal = d.bal ∧ d.compose.cfl = d.cfl ∧ d.compose.nsv = d.nsv

/-! ## Gait -/

/-- The gait index and the walk flag of a frame accepted in STAND (R17, R102): a differing index is adopted at once
when its record is valid, with its E, every latch set and GAIT_ADOPTED, and refused with GAIT_REFUSED otherwise; the
walk flag then starts WALK exactly when the current record is valid, with MODE_CHANGED raised, and raises GAIT_REFUSED
otherwise. No leg changes its state. In WALK and HOLD the index becomes the pending one, or ends it when it is the
current one (R15); in UNARMED it becomes current and in SAFE_SIT it has no effect; outside STAND the walk flag is only
kept (R14, R102). On entry to STAND a pending index is judged at once: adopted when its record is valid, refused with
GAIT_REFUSED otherwise, and pending no more (R17). -/
def Obligations.FrameInStandSelectsAndStarts : Prop :=
  (∀ (d : Device) (g : Fin 8) (w : Bool), d.mhu.mode = .stand →
    let e := (d.takeGaitIndex g).takeWalkFlag w
    let adopted := g ≠ d.gpe.current ∧ (d.tbs.gaitAt g).valid = true
    let starts := w = true ∧ (d.tbs.gaitAt e.gpe.current).valid = true
    (adopted → e.gpe.current = g ∧ e.gpe.phase = (d.tbs.gaitAt g).record.e ∧ (∀ l, (e.leg l).partnerLatch = true)
      ∧ e.factor .gaitAdopted = ⟨true, min ((d.factor .gaitAdopted).count + 1) 255⟩)
    ∧ (¬ adopted → e.gpe.current = d.gpe.current ∧ e.gpe.phase = d.gpe.phase ∧ e.gpe.legs = d.gpe.legs
      ∧ e.factor .gaitAdopted = d.factor .gaitAdopted)
    ∧ (g ≠ d.gpe.current → ¬ adopted → (e.factor .gaitRefused).flag = true)
    ∧ (starts → e.mhu.mode = .walk ∧ e.factor .modeChanged = ⟨true, min ((d.factor .modeChanged).count + 1) 255⟩)
    ∧ (¬ starts → e.mhu.mode = .stand ∧ e.factor .modeChanged = d.factor .modeChanged)
    ∧ (w = true → ¬ starts → (e.factor .gaitRefused).flag = true)
    ∧ (∀ l, e.legState l = d.legState l) ∧ e.mhu.walkFlag = w ∧ e.mhu.stack = d.mhu.stack
    ∧ e.tbs = d.tbs ∧ e.bal = d.bal ∧ e.cfl = d.cfl ∧ e.lcc = d.lcc ∧ e.llc = d.llc ∧ e.nsv = d.nsv ∧ e.upp = d.upp)
  ∧ (∀ (d : Device) (g : Fin 8) (w : Bool),
    (d.mhu.mode = .unarmed → d.takeGaitIndex g = { d with gpe := { d.gpe with current := g } })
    ∧ (d.mhu.mode = .safeSit → d.takeGaitIndex g = d)
    ∧ ((d.mhu.mode = .walk ∨ d.mhu.mode = .hold) → d.takeGaitIndex g
        = { d with gpe := { d.gpe with waiting := if g = d.gpe.current then none else some g } })
    ∧ (d.mhu.mode ≠ .stand → d.takeWalkFlag w = { d with mhu := { d.mhu with walkFlag := w } }))
  ∧ ∀ d : Device,
    let e := d.enterStand
    e.mhu = { d.mhu with mode := .stand } ∧ e.factor .modeChanged = d.raisedOnce .modeChanged ∧ e.gpe.waiting = none
    ∧ (d.gpe.waiting = none → e.gpe = d.gpe ∧ e.factor .gaitAdopted = d.factor .gaitAdopted
        ∧ e.factor .gaitRefused = d.factor .gaitRefused)
    ∧ ∀ g, d.gpe.waiting = some g →
      ((d.tbs.gaitAt g).valid = true → e.gpe.current = g ∧ e.gpe.phase = (d.tbs.gaitAt g).record.e
        ∧ (∀ l, e.leg l = { d.leg l with partnerLatch := true })
        ∧ e.factor .gaitAdopted = d.raisedOnce .gaitAdopted ∧ e.factor .gaitRefused = d.factor .gaitRefused)
      ∧ ((d.tbs.gaitAt g).valid = false → e.gpe = { d.gpe with waiting := none }
        ∧ e.factor .gaitRefused = d.raisedOnce .gaitRefused ∧ e.factor .gaitAdopted = d.factor .gaitAdopted)

/-- How far the master moves (R9 to R14). The effective step is the frame's, or the smaller of it and delta_derate
under DERATE. The event points are the lift point of a leg in STANCE, unless a stop is pending, and the touchdown
point of a leg in SWING, each at its distance forward from the master when it differs from it. The advance is the step
when no distance is at most it and the least distance otherwise; with a stop pending and no leg in SWING it is 0. A
phase step whose stages 1 to 3 leave no leg waiting or landing moves the master by exactly the advance, unless the
stop it completes adopts a gait, and the progress of every leg that swings on by the same; a stalled one moves
nothing. Every leg whose event point is the stopping point is judged there: from STANCE it waits or lifts, from SWING
it stands with contact PRESENT and lands without, or is set down by a hold taken there (log 14). Stage 1 judges a
pending index when every leg is in STANCE: adopted with its E and every latch set, or refused, pending no more (R16).
Stage 2 makes every leg in STANCE whose lift point is underfoot wait, unless a stop is pending. Stage 3 tries every
leg in leg order; with a stop pending the waiting legs return to STANCE instead (R14; the wait counter there is log
19). A stop is complete, and the mode STAND, when every leg is in STANCE (R41). -/
def Obligations.AdvanceSkipsNoEventPoint : Prop :=
  (∀ (d : Device) (step : Nat),
    let stop := d.mhu.mode = .walk ∧ d.mhu.walkFlag = false
    let swings := ∃ l, d.legState l = .swing
    let n := d.gaitRecord.n
    let point : Leg → Option Nat := fun l => match d.legState l with
      | .stance => if d.mhu.mode = .walk ∧ d.mhu.walkFlag = false then none else some (d.gaitLeg l).liftPoint
      | .swing => some (((d.gaitLeg l).liftPoint + (d.gaitLeg l).swing) % n)
      | _ => none
    let dist : Leg → Option Nat := fun l => (point l).bind fun p =>
      if p = d.gpe.phase then none else some (if d.gpe.phase < p then p - d.gpe.phase else p + n - d.gpe.phase)
    (d.effectiveStep step = if d.derate then min step d.tbs.deviceConfig.deltaDerate else step)
    ∧ (d.derate = true ↔ (d.nsv.level1 = .low ∧ d.tbs.deviceConfig.action1 = .derate)
        ∨ (d.nsv.level2 = .low ∧ d.tbs.deviceConfig.action2 = .derate))
    ∧ (∀ l, d.eventPoint l = point l)
    ∧ (stop → ¬ swings → d.advanceOf step = 0)
    ∧ (d.gpe.phase < n → (∀ l p, point l = some p → p < n) →
        (∀ l, d.eventDistance l = dist l ∧ ∀ k, dist l = some k → 1 ≤ k ∧ k < n)
        ∧ (¬ (stop ∧ ¬ swings) →
            ((∀ l k, dist l = some k → step < k) → d.advanceOf step = step)
            ∧ (∀ l k, dist l = some k → k ≤ step → (∀ m i, dist m = some i → k ≤ i) → d.advanceOf step = k))))
  ∧ (∀ d : Device,
    let stop := d.mhu.mode = .walk ∧ d.mhu.walkFlag = false
    let together := ∀ l, d.legState l = .stance
    let a := d.stageAdoption
    let u := d.liftPointsUnderfoot
    let r : Device := { d with gpe := { d.gpe with legs := .ofFn fun l =>
      if (d.leg l).state = .liftWait then { d.leg l with state := .stance, wait := 0 } else d.leg l } }
    ((d.gpe.waiting = none ∨ ¬ together) → a = d)
    ∧ (∀ g, d.gpe.waiting = some g → together →
        ((d.tbs.gaitAt g).valid = true → a.gpe.current = g ∧ a.gpe.waiting = none
          ∧ a.gpe.phase = (d.tbs.gaitAt g).record.e ∧ a.factor .gaitAdopted = d.raisedOnce .gaitAdopted ∧ a.mhu = d.mhu
          ∧ ∀ l, a.leg l = if ¬ stop ∧ ((d.tbs.gaitAt g).record.legs.get l).liftPoint = (d.tbs.gaitAt g).record.e
              then { d.leg l with partnerLatch := true, state := .liftWait, wait := 0 }
              else { d.leg l with partnerLatch := true })
        ∧ ((d.tbs.gaitAt g).valid = false → a.gpe = { d.gpe with waiting := none }
          ∧ a.factor .gaitRefused = d.raisedOnce .gaitRefused ∧ a.mhu = d.mhu))
    ∧ (stop → u = d)
    ∧ (¬ stop → u = { d with gpe := { d.gpe with legs := u.gpe.legs } }
        ∧ ∀ l, u.leg l = if (d.leg l).state = .stance ∧ (d.gaitLeg l).liftPoint = d.gpe.phase
            then { d.leg l with state := .liftWait, wait := 0 } else d.leg l)
    ∧ (¬ stop → d.stagePermission = (((d.tryLift .fl).tryLift .fr).tryLift .rr).tryLift .rl)
    ∧ (stop → (∀ l, r.legState l = .stance) → d.stagePermission = r.enterStand)
    ∧ (stop → (∃ l, r.legState l ≠ .stance) → d.stagePermission = r)
    ∧ (stop → together → d.completeStop = d.enterStand) ∧ (¬ (stop ∧ together) → d.completeStop = d)
    ∧ ∀ step, d.mhu.mode ≠ .walk → d.stepInWalk step = d)
  ∧ ∀ (d : Device) (step : Nat), d.mhu.mode = .walk → d.mhu.stack = [] →
    let b := d.stageAdoption.liftPointsUnderfoot.stagePermission
    let e := d.stepInWalk step
    let k := b.advanceOf (b.effectiveStep step)
    let waits := ∃ l, b.legState l = .liftWait ∨ b.legState l = .landing
    (e.mhu.mode = .walk → e.mhu.walkFlag = false → ∃ l, e.legState l ≠ .stance)
    ∧ ((b.mhu.mode ≠ .walk ∨ waits) → e = b)
    ∧ (b.mhu.mode = .walk → ¬ waits →
        (e.gpe.phase = (b.gpe.phase + k) % b.gaitRecord.n ∨ e.mhu.mode = .stand)
        ∧ (∀ l, b.legState l = .swing → e.legState l = .swing →
            (e.leg l).progress = (b.leg l).progress.map (· + k))
        ∧ (∀ l, b.eventDistance l = some k →
            (b.legState l = .stance → e.legState l = .liftWait ∨ e.legState l = .swing
              ∨ (e.legState l = .setDown ∧ e.mhu.mode = .hold))
            ∧ (b.legState l = .swing → (e.legState l = if b.contact l = .present then .stance else .landing)
              ∨ (e.legState l = .setDown ∧ e.mhu.mode = .hold)))
        ∧ (∀ l, b.eventDistance l ≠ some k → e.legState l = b.legState l
            ∨ (b.legState l = .swing ∧ e.legState l = .setDown ∧ e.mhu.mode = .hold)))

/-! ## Invariants: each holds at reset and every step keeps it -/

/-- At reset every invariant stated below holds. -/
def Obligations.InvariantsHoldAtReset : Prop :=
  let d := State.reset.dev
  d.factorsCoherent = true ∧ d.alertFollows = true ∧ d.holdsCoherent = true ∧ d.legsFitMode = true
  ∧ d.gaitCoherent = true ∧ d.phaseOnRing = true ∧ d.marginsInRange = true ∧ d.filtersCoherent = true
  ∧ d.linksCoherent = true ∧ d.portCoherent = true ∧ d.tablesCoherent = true ∧ d.supervisorCoherent = true

/-- Factor flags match their counts and stay within 0..255, and ALERT follows its condition, through every step. -/
def Obligations.StepKeepsFactorsAndAlert : Prop :=
  ∀ s t : State, step s = .next t → s.dev.factorsCoherent = true → s.dev.alertFollows = true →
    t.dev.factorsCoherent = true ∧ t.dev.alertFollows = true

/-- The hold stack holds at most four records and no hold twice, and the mode is HOLD exactly while it is not empty,
through every step; and with it every leg stays in a state its mode allows (R22). -/
def Obligations.StepKeepsHoldStackAndLegStates : Prop :=
  ∀ s t : State, step s = .next t → s.dev.holdsCoherent = true →
    t.dev.holdsCoherent = true ∧ (s.dev.legsFitMode = true → t.dev.legsFitMode = true)

/-- The pending gait differs from the current one, stands only in WALK and HOLD, and the master phase is 0 in UNARMED
and SAFE_SIT; in the other modes it lies on the ring of the current gait record: through every step. -/
def Obligations.StepKeepsMasterPhaseOnRing : Prop :=
  ∀ s t : State, step s = .next t → s.dev.holdsCoherent = true → s.dev.gaitCoherent = true →
    s.dev.phaseOnRing = true → t.dev.gaitCoherent = true ∧ t.dev.phaseOnRing = true

/-- Margins stay within −2047..+2047, every contact state is what its filter and its node's liveness give, the supply
estimate is the least of the counting voltage reports and a live node has fewer than three misses in a row: through
every step. -/
def Obligations.StepKeepsMarginsContactsAndSupply : Prop :=
  ∀ s t : State, step s = .next t →
    (s.dev.marginsInRange = true → t.dev.marginsInRange = true)
    ∧ (s.dev.filtersCoherent = true → t.dev.filtersCoherent = true)
    ∧ (s.dev.supervisorCoherent = true → t.dev.supervisorCoherent = true)

/-- Each limb link has a command in flight exactly in BREAK and SENDING, where alone its frame can be abandoned, at a
bit time of the break or of the frame (log 30), none waiting in IDLE, and counts within 0..255; its reply buffer is
empty between steps, which is the model's choice, for a slot is one command (R115 has it collect characters; log 27),
and the line kept before an open slot has one to six samples, at most seven of the slot's own (logs 41, 42); at most
two replies wait upstream, an idle transmitter leaves nothing waiting, the two timers never run together, and a
pending RESTART keeps its reply to be sent, known as log 25 says: through every step. -/
def Obligations.StepKeepsLinksAndPortCoherent : Prop :=
  ∀ s t : State, step s = .next t →
    (s.dev.linksCoherent = true → t.dev.linksCoherent = true)
    ∧ (s.dev.portCoherent = true → t.dev.portCoherent = true)

/-- While the part is armed every pose lies within its joints' limits and the flags are earned, through every step. -/
def Obligations.StepKeepsPosesWithinLimits : Prop :=
  ∀ s t : State, step s = .next t → s.dev.holdsCoherent = true → s.dev.tablesCoherent = true →
    t.dev.tablesCoherent = true
end

