-- ==== Sys2Proof/Laws/Arith.lean ====
section
/-!
SUPPORT. What the arithmetic of 00_scope.md gives: clamped values lie in their range and values in range are kept, and
the integer square root is the floor of the exact one.
-/

namespace Sys2Proof.Machine

theorem clampInt_ge (lo hi x : Int) (h : lo ≤ hi) : lo ≤ clampInt lo hi x := by
  unfold clampInt; split <;> (try split) <;> omega

theorem clampInt_le (lo hi x : Int) (h : lo ≤ hi) : clampInt lo hi x ≤ hi := by
  unfold clampInt; split <;> (try split) <;> omega

theorem clampInt_of_mem (lo hi x : Int) (h₁ : lo ≤ x) (h₂ : x ≤ hi) : clampInt lo hi x = x := by
  unfold clampInt; split <;> (try split) <;> omega

theorem clampNat_ge (lo hi x : Nat) (h : lo ≤ hi) : lo ≤ clampNat lo hi x := by
  unfold clampNat; split <;> (try split) <;> omega

theorem clampNat_le (lo hi x : Nat) (h : lo ≤ hi) : clampNat lo hi x ≤ hi := by
  unfold clampNat; split <;> (try split) <;> omega

theorem clampNat_of_mem (lo hi x : Nat) (h₁ : lo ≤ x) (h₂ : x ≤ hi) : clampNat lo hi x = x := by
  unfold clampNat; split <;> (try split) <;> omega

/-- The root found bit by bit lies within the bits left to try. -/
theorem sqrtBits_spec (n : Nat) : ∀ (k root : Nat), root * root ≤ n → n < (root + 2 ^ k) * (root + 2 ^ k) →
    sqrtBits n k root * sqrtBits n k root ≤ n ∧ n < (sqrtBits n k root + 1) * (sqrtBits n k root + 1)
  | 0, root, h, h' => by simpa [sqrtBits] using ⟨h, h'⟩
  | k + 1, root, h, h' => by
    have e : (2 : Nat) ^ (k + 1) = 2 ^ k + 2 ^ k := by ring
    unfold sqrtBits
    split
    · next hc => exact sqrtBits_spec n k _ hc (by rw [e] at h'; rw [Nat.add_assoc]; exact h')
    · next hc => exact sqrtBits_spec n k _ h (by omega)

theorem isqrt_eq_sqrt (n : Nat) : isqrt n = Nat.sqrt n := by
  refine Nat.eq_sqrt.2 (sqrtBits_spec n (n.log2 / 2 + 1) 0 (by simp) ?_)
  rw [Nat.zero_add, ← pow_add]
  exact Nat.lt_of_lt_of_le Nat.lt_log2_self (Nat.pow_le_pow_right (by norm_num) (by omega))

end Sys2Proof.Machine
end

