-- ==== Sys2Proof/Laws/State.lean ====
section
/-!
SUPPORT. What each named update of the state leaves as it is and what it sets: one lemma for each field and update,
all true by definition.
-/

namespace Sys2Proof.Machine

/-! ## The queue -/

@[simp] theorem State.withPending_dev (s : State) (q : List Instr) : (s.withPending q).dev = s.dev := rfl
@[simp] theorem State.withPending_pending (s : State) (q : List Instr) : (s.withPending q).pending = q := rfl

namespace Device

/-! ## modLeg -/

@[simp] theorem modLeg_tbs (l : Leg) (f : LegRecord → LegRecord) (d : Device) : (d.modLeg l f).tbs = d.tbs := rfl
@[simp] theorem modLeg_bal (l : Leg) (f : LegRecord → LegRecord) (d : Device) : (d.modLeg l f).bal = d.bal := rfl
@[simp] theorem modLeg_cfl (l : Leg) (f : LegRecord → LegRecord) (d : Device) : (d.modLeg l f).cfl = d.cfl := rfl
@[simp] theorem modLeg_lcc (l : Leg) (f : LegRecord → LegRecord) (d : Device) : (d.modLeg l f).lcc = d.lcc := rfl
@[simp] theorem modLeg_mhu (l : Leg) (f : LegRecord → LegRecord) (d : Device) : (d.modLeg l f).mhu = d.mhu := rfl
@[simp] theorem modLeg_llc (l : Leg) (f : LegRecord → LegRecord) (d : Device) : (d.modLeg l f).llc = d.llc := rfl
@[simp] theorem modLeg_nsv (l : Leg) (f : LegRecord → LegRecord) (d : Device) : (d.modLeg l f).nsv = d.nsv := rfl
@[simp] theorem modLeg_upp (l : Leg) (f : LegRecord → LegRecord) (d : Device) : (d.modLeg l f).upp = d.upp := rfl
@[simp] theorem modLeg_eeu (l : Leg) (f : LegRecord → LegRecord) (d : Device) : (d.modLeg l f).eeu = d.eeu := rfl
@[simp] theorem modLeg_freeCount (l : Leg) (f : LegRecord → LegRecord) (d : Device) : (d.modLeg l f).freeCount = d.freeCount := rfl

/-! ## mapLegs -/

@[simp] theorem mapLegs_tbs (f : Leg → LegRecord → LegRecord) (d : Device) : (d.mapLegs f).tbs = d.tbs := rfl
@[simp] theorem mapLegs_bal (f : Leg → LegRecord → LegRecord) (d : Device) : (d.mapLegs f).bal = d.bal := rfl
@[simp] theorem mapLegs_cfl (f : Leg → LegRecord → LegRecord) (d : Device) : (d.mapLegs f).cfl = d.cfl := rfl
@[simp] theorem mapLegs_lcc (f : Leg → LegRecord → LegRecord) (d : Device) : (d.mapLegs f).lcc = d.lcc := rfl
@[simp] theorem mapLegs_mhu (f : Leg → LegRecord → LegRecord) (d : Device) : (d.mapLegs f).mhu = d.mhu := rfl
@[simp] theorem mapLegs_llc (f : Leg → LegRecord → LegRecord) (d : Device) : (d.mapLegs f).llc = d.llc := rfl
@[simp] theorem mapLegs_nsv (f : Leg → LegRecord → LegRecord) (d : Device) : (d.mapLegs f).nsv = d.nsv := rfl
@[simp] theorem mapLegs_upp (f : Leg → LegRecord → LegRecord) (d : Device) : (d.mapLegs f).upp = d.upp := rfl
@[simp] theorem mapLegs_eeu (f : Leg → LegRecord → LegRecord) (d : Device) : (d.mapLegs f).eeu = d.eeu := rfl
@[simp] theorem mapLegs_freeCount (f : Leg → LegRecord → LegRecord) (d : Device) : (d.mapLegs f).freeCount = d.freeCount := rfl

/-! ## setLatches -/

@[simp] theorem setLatches_tbs (d : Device) : (d.setLatches).tbs = d.tbs := rfl
@[simp] theorem setLatches_bal (d : Device) : (d.setLatches).bal = d.bal := rfl
@[simp] theorem setLatches_cfl (d : Device) : (d.setLatches).cfl = d.cfl := rfl
@[simp] theorem setLatches_lcc (d : Device) : (d.setLatches).lcc = d.lcc := rfl
@[simp] theorem setLatches_mhu (d : Device) : (d.setLatches).mhu = d.mhu := rfl
@[simp] theorem setLatches_llc (d : Device) : (d.setLatches).llc = d.llc := rfl
@[simp] theorem setLatches_nsv (d : Device) : (d.setLatches).nsv = d.nsv := rfl
@[simp] theorem setLatches_upp (d : Device) : (d.setLatches).upp = d.upp := rfl
@[simp] theorem setLatches_eeu (d : Device) : (d.setLatches).eeu = d.eeu := rfl
@[simp] theorem setLatches_freeCount (d : Device) : (d.setLatches).freeCount = d.freeCount := rfl

/-! ## unsetLegs -/

@[simp] theorem unsetLegs_tbs (d : Device) : (d.unsetLegs).tbs = d.tbs := rfl
@[simp] theorem unsetLegs_bal (d : Device) : (d.unsetLegs).bal = d.bal := rfl
@[simp] theorem unsetLegs_cfl (d : Device) : (d.unsetLegs).cfl = d.cfl := rfl
@[simp] theorem unsetLegs_lcc (d : Device) : (d.unsetLegs).lcc = d.lcc := rfl
@[simp] theorem unsetLegs_mhu (d : Device) : (d.unsetLegs).mhu = d.mhu := rfl
@[simp] theorem unsetLegs_llc (d : Device) : (d.unsetLegs).llc = d.llc := rfl
@[simp] theorem unsetLegs_nsv (d : Device) : (d.unsetLegs).nsv = d.nsv := rfl
@[simp] theorem unsetLegs_upp (d : Device) : (d.unsetLegs).upp = d.upp := rfl
@[simp] theorem unsetLegs_eeu (d : Device) : (d.unsetLegs).eeu = d.eeu := rfl
@[simp] theorem unsetLegs_freeCount (d : Device) : (d.unsetLegs).freeCount = d.freeCount := rfl

/-! ## enterLiftWait -/

@[simp] theorem enterLiftWait_tbs (l : Leg) (d : Device) : (d.enterLiftWait l).tbs = d.tbs := rfl
@[simp] theorem enterLiftWait_bal (l : Leg) (d : Device) : (d.enterLiftWait l).bal = d.bal := rfl
@[simp] theorem enterLiftWait_cfl (l : Leg) (d : Device) : (d.enterLiftWait l).cfl = d.cfl := rfl
@[simp] theorem enterLiftWait_lcc (l : Leg) (d : Device) : (d.enterLiftWait l).lcc = d.lcc := rfl
@[simp] theorem enterLiftWait_mhu (l : Leg) (d : Device) : (d.enterLiftWait l).mhu = d.mhu := rfl
@[simp] theorem enterLiftWait_llc (l : Leg) (d : Device) : (d.enterLiftWait l).llc = d.llc := rfl
@[simp] theorem enterLiftWait_nsv (l : Leg) (d : Device) : (d.enterLiftWait l).nsv = d.nsv := rfl
@[simp] theorem enterLiftWait_upp (l : Leg) (d : Device) : (d.enterLiftWait l).upp = d.upp := rfl
@[simp] theorem enterLiftWait_eeu (l : Leg) (d : Device) : (d.enterLiftWait l).eeu = d.eeu := rfl
@[simp] theorem enterLiftWait_freeCount (l : Leg) (d : Device) : (d.enterLiftWait l).freeCount = d.freeCount := rfl

/-! ## touchDown -/

@[simp] theorem touchDown_tbs (l : Leg) (d : Device) : (d.touchDown l).tbs = d.tbs := rfl
@[simp] theorem touchDown_bal (l : Leg) (d : Device) : (d.touchDown l).bal = d.bal := rfl
@[simp] theorem touchDown_cfl (l : Leg) (d : Device) : (d.touchDown l).cfl = d.cfl := rfl
@[simp] theorem touchDown_lcc (l : Leg) (d : Device) : (d.touchDown l).lcc = d.lcc := rfl
@[simp] theorem touchDown_mhu (l : Leg) (d : Device) : (d.touchDown l).mhu = d.mhu := rfl
@[simp] theorem touchDown_llc (l : Leg) (d : Device) : (d.touchDown l).llc = d.llc := rfl
@[simp] theorem touchDown_nsv (l : Leg) (d : Device) : (d.touchDown l).nsv = d.nsv := rfl
@[simp] theorem touchDown_upp (l : Leg) (d : Device) : (d.touchDown l).upp = d.upp := rfl
@[simp] theorem touchDown_eeu (l : Leg) (d : Device) : (d.touchDown l).eeu = d.eeu := rfl
@[simp] theorem touchDown_freeCount (l : Leg) (d : Device) : (d.touchDown l).freeCount = d.freeCount := rfl

/-! ## setMode -/

@[simp] theorem setMode_tbs (m : Mode) (d : Device) : (d.setMode m).tbs = d.tbs := rfl
@[simp] theorem setMode_gpe (m : Mode) (d : Device) : (d.setMode m).gpe = d.gpe := rfl
@[simp] theorem setMode_bal (m : Mode) (d : Device) : (d.setMode m).bal = d.bal := rfl
@[simp] theorem setMode_cfl (m : Mode) (d : Device) : (d.setMode m).cfl = d.cfl := rfl
@[simp] theorem setMode_lcc (m : Mode) (d : Device) : (d.setMode m).lcc = d.lcc := rfl
@[simp] theorem setMode_llc (m : Mode) (d : Device) : (d.setMode m).llc = d.llc := rfl
@[simp] theorem setMode_nsv (m : Mode) (d : Device) : (d.setMode m).nsv = d.nsv := rfl
@[simp] theorem setMode_upp (m : Mode) (d : Device) : (d.setMode m).upp = d.upp := rfl
@[simp] theorem setMode_eeu (m : Mode) (d : Device) : (d.setMode m).eeu = d.eeu := rfl
@[simp] theorem setMode_freeCount (m : Mode) (d : Device) : (d.setMode m).freeCount = d.freeCount := rfl

/-! ## refreshAlert -/

@[simp] theorem refreshAlert_tbs (d : Device) : (d.refreshAlert).tbs = d.tbs := rfl
@[simp] theorem refreshAlert_gpe (d : Device) : (d.refreshAlert).gpe = d.gpe := rfl
@[simp] theorem refreshAlert_bal (d : Device) : (d.refreshAlert).bal = d.bal := rfl
@[simp] theorem refreshAlert_cfl (d : Device) : (d.refreshAlert).cfl = d.cfl := rfl
@[simp] theorem refreshAlert_lcc (d : Device) : (d.refreshAlert).lcc = d.lcc := rfl
@[simp] theorem refreshAlert_mhu (d : Device) : (d.refreshAlert).mhu = d.mhu := rfl
@[simp] theorem refreshAlert_llc (d : Device) : (d.refreshAlert).llc = d.llc := rfl
@[simp] theorem refreshAlert_nsv (d : Device) : (d.refreshAlert).nsv = d.nsv := rfl
@[simp] theorem refreshAlert_upp (d : Device) : (d.refreshAlert).upp = d.upp := rfl
@[simp] theorem refreshAlert_freeCount (d : Device) : (d.refreshAlert).freeCount = d.freeCount := rfl

/-! ## raise -/

@[simp] theorem raise_tbs (f : Factor) (d : Device) : (d.raise f).tbs = d.tbs := rfl
@[simp] theorem raise_gpe (f : Factor) (d : Device) : (d.raise f).gpe = d.gpe := rfl
@[simp] theorem raise_bal (f : Factor) (d : Device) : (d.raise f).bal = d.bal := rfl
@[simp] theorem raise_cfl (f : Factor) (d : Device) : (d.raise f).cfl = d.cfl := rfl
@[simp] theorem raise_lcc (f : Factor) (d : Device) : (d.raise f).lcc = d.lcc := rfl
@[simp] theorem raise_mhu (f : Factor) (d : Device) : (d.raise f).mhu = d.mhu := rfl
@[simp] theorem raise_llc (f : Factor) (d : Device) : (d.raise f).llc = d.llc := rfl
@[simp] theorem raise_nsv (f : Factor) (d : Device) : (d.raise f).nsv = d.nsv := rfl
@[simp] theorem raise_upp (f : Factor) (d : Device) : (d.raise f).upp = d.upp := rfl
@[simp] theorem raise_freeCount (f : Factor) (d : Device) : (d.raise f).freeCount = d.freeCount := rfl

/-! ## zeroChatter -/

@[simp] theorem zeroChatter_tbs (d : Device) : (d.zeroChatter).tbs = d.tbs := rfl
@[simp] theorem zeroChatter_gpe (d : Device) : (d.zeroChatter).gpe = d.gpe := rfl
@[simp] theorem zeroChatter_bal (d : Device) : (d.zeroChatter).bal = d.bal := rfl
@[simp] theorem zeroChatter_lcc (d : Device) : (d.zeroChatter).lcc = d.lcc := rfl
@[simp] theorem zeroChatter_mhu (d : Device) : (d.zeroChatter).mhu = d.mhu := rfl
@[simp] theorem zeroChatter_llc (d : Device) : (d.zeroChatter).llc = d.llc := rfl
@[simp] theorem zeroChatter_nsv (d : Device) : (d.zeroChatter).nsv = d.nsv := rfl
@[simp] theorem zeroChatter_upp (d : Device) : (d.zeroChatter).upp = d.upp := rfl
@[simp] theorem zeroChatter_eeu (d : Device) : (d.zeroChatter).eeu = d.eeu := rfl
@[simp] theorem zeroChatter_freeCount (d : Device) : (d.zeroChatter).freeCount = d.freeCount := rfl

/-! ## modFilter -/

@[simp] theorem modFilter_tbs (l : Leg) (f : FilterRecord → FilterRecord) (d : Device) : (d.modFilter l f).tbs = d.tbs := rfl
@[simp] theorem modFilter_gpe (l : Leg) (f : FilterRecord → FilterRecord) (d : Device) : (d.modFilter l f).gpe = d.gpe := rfl
@[simp] theorem modFilter_bal (l : Leg) (f : FilterRecord → FilterRecord) (d : Device) : (d.modFilter l f).bal = d.bal := rfl
@[simp] theorem modFilter_lcc (l : Leg) (f : FilterRecord → FilterRecord) (d : Device) : (d.modFilter l f).lcc = d.lcc := rfl
@[simp] theorem modFilter_mhu (l : Leg) (f : FilterRecord → FilterRecord) (d : Device) : (d.modFilter l f).mhu = d.mhu := rfl
@[simp] theorem modFilter_llc (l : Leg) (f : FilterRecord → FilterRecord) (d : Device) : (d.modFilter l f).llc = d.llc := rfl
@[simp] theorem modFilter_nsv (l : Leg) (f : FilterRecord → FilterRecord) (d : Device) : (d.modFilter l f).nsv = d.nsv := rfl
@[simp] theorem modFilter_upp (l : Leg) (f : FilterRecord → FilterRecord) (d : Device) : (d.modFilter l f).upp = d.upp := rfl
@[simp] theorem modFilter_eeu (l : Leg) (f : FilterRecord → FilterRecord) (d : Device) : (d.modFilter l f).eeu = d.eeu := rfl
@[simp] theorem modFilter_freeCount (l : Leg) (f : FilterRecord → FilterRecord) (d : Device) : (d.modFilter l f).freeCount = d.freeCount := rfl

/-! ## modNode -/

@[simp] theorem modNode_tbs (n : Node) (f : NodeRecord → NodeRecord) (d : Device) : (d.modNode n f).tbs = d.tbs := rfl
@[simp] theorem modNode_gpe (n : Node) (f : NodeRecord → NodeRecord) (d : Device) : (d.modNode n f).gpe = d.gpe := rfl
@[simp] theorem modNode_bal (n : Node) (f : NodeRecord → NodeRecord) (d : Device) : (d.modNode n f).bal = d.bal := rfl
@[simp] theorem modNode_cfl (n : Node) (f : NodeRecord → NodeRecord) (d : Device) : (d.modNode n f).cfl = d.cfl := rfl
@[simp] theorem modNode_lcc (n : Node) (f : NodeRecord → NodeRecord) (d : Device) : (d.modNode n f).lcc = d.lcc := rfl
@[simp] theorem modNode_mhu (n : Node) (f : NodeRecord → NodeRecord) (d : Device) : (d.modNode n f).mhu = d.mhu := rfl
@[simp] theorem modNode_llc (n : Node) (f : NodeRecord → NodeRecord) (d : Device) : (d.modNode n f).llc = d.llc := rfl
@[simp] theorem modNode_upp (n : Node) (f : NodeRecord → NodeRecord) (d : Device) : (d.modNode n f).upp = d.upp := rfl
@[simp] theorem modNode_eeu (n : Node) (f : NodeRecord → NodeRecord) (d : Device) : (d.modNode n f).eeu = d.eeu := rfl
@[simp] theorem modNode_freeCount (n : Node) (f : NodeRecord → NodeRecord) (d : Device) : (d.modNode n f).freeCount = d.freeCount := rfl

/-! ## modVoltage -/

@[simp] theorem modVoltage_tbs (j : Joint) (f : VoltageReport → VoltageReport) (d : Device) : (d.modVoltage j f).tbs = d.tbs := rfl
@[simp] theorem modVoltage_gpe (j : Joint) (f : VoltageReport → VoltageReport) (d : Device) : (d.modVoltage j f).gpe = d.gpe := rfl
@[simp] theorem modVoltage_bal (j : Joint) (f : VoltageReport → VoltageReport) (d : Device) : (d.modVoltage j f).bal = d.bal := rfl
@[simp] theorem modVoltage_cfl (j : Joint) (f : VoltageReport → VoltageReport) (d : Device) : (d.modVoltage j f).cfl = d.cfl := rfl
@[simp] theorem modVoltage_lcc (j : Joint) (f : VoltageReport → VoltageReport) (d : Device) : (d.modVoltage j f).lcc = d.lcc := rfl
@[simp] theorem modVoltage_mhu (j : Joint) (f : VoltageReport → VoltageReport) (d : Device) : (d.modVoltage j f).mhu = d.mhu := rfl
@[simp] theorem modVoltage_llc (j : Joint) (f : VoltageReport → VoltageReport) (d : Device) : (d.modVoltage j f).llc = d.llc := rfl
@[simp] theorem modVoltage_upp (j : Joint) (f : VoltageReport → VoltageReport) (d : Device) : (d.modVoltage j f).upp = d.upp := rfl
@[simp] theorem modVoltage_eeu (j : Joint) (f : VoltageReport → VoltageReport) (d : Device) : (d.modVoltage j f).eeu = d.eeu := rfl
@[simp] theorem modVoltage_freeCount (j : Joint) (f : VoltageReport → VoltageReport) (d : Device) : (d.modVoltage j f).freeCount = d.freeCount := rfl

/-! ## ageReports -/

@[simp] theorem ageReports_tbs (l : Leg) (d : Device) : (d.ageReports l).tbs = d.tbs := rfl
@[simp] theorem ageReports_gpe (l : Leg) (d : Device) : (d.ageReports l).gpe = d.gpe := rfl
@[simp] theorem ageReports_bal (l : Leg) (d : Device) : (d.ageReports l).bal = d.bal := rfl
@[simp] theorem ageReports_cfl (l : Leg) (d : Device) : (d.ageReports l).cfl = d.cfl := rfl
@[simp] theorem ageReports_lcc (l : Leg) (d : Device) : (d.ageReports l).lcc = d.lcc := rfl
@[simp] theorem ageReports_mhu (l : Leg) (d : Device) : (d.ageReports l).mhu = d.mhu := rfl
@[simp] theorem ageReports_llc (l : Leg) (d : Device) : (d.ageReports l).llc = d.llc := rfl
@[simp] theorem ageReports_upp (l : Leg) (d : Device) : (d.ageReports l).upp = d.upp := rfl
@[simp] theorem ageReports_eeu (l : Leg) (d : Device) : (d.ageReports l).eeu = d.eeu := rfl
@[simp] theorem ageReports_freeCount (l : Leg) (d : Device) : (d.ageReports l).freeCount = d.freeCount := rfl

/-! ## clearLatches -/

@[simp] theorem clearLatches_tbs (d : Device) : (d.clearLatches).tbs = d.tbs := rfl
@[simp] theorem clearLatches_gpe (d : Device) : (d.clearLatches).gpe = d.gpe := rfl
@[simp] theorem clearLatches_bal (d : Device) : (d.clearLatches).bal = d.bal := rfl
@[simp] theorem clearLatches_cfl (d : Device) : (d.clearLatches).cfl = d.cfl := rfl
@[simp] theorem clearLatches_lcc (d : Device) : (d.clearLatches).lcc = d.lcc := rfl
@[simp] theorem clearLatches_mhu (d : Device) : (d.clearLatches).mhu = d.mhu := rfl
@[simp] theorem clearLatches_llc (d : Device) : (d.clearLatches).llc = d.llc := rfl
@[simp] theorem clearLatches_upp (d : Device) : (d.clearLatches).upp = d.upp := rfl
@[simp] theorem clearLatches_eeu (d : Device) : (d.clearLatches).eeu = d.eeu := rfl
@[simp] theorem clearLatches_freeCount (d : Device) : (d.clearLatches).freeCount = d.freeCount := rfl

/-! ## modLink -/

@[simp] theorem modLink_tbs (l : Leg) (f : LinkController → LinkController) (d : Device) : (d.modLink l f).tbs = d.tbs := rfl
@[simp] theorem modLink_gpe (l : Leg) (f : LinkController → LinkController) (d : Device) : (d.modLink l f).gpe = d.gpe := rfl
@[simp] theorem modLink_bal (l : Leg) (f : LinkController → LinkController) (d : Device) : (d.modLink l f).bal = d.bal := rfl
@[simp] theorem modLink_cfl (l : Leg) (f : LinkController → LinkController) (d : Device) : (d.modLink l f).cfl = d.cfl := rfl
@[simp] theorem modLink_lcc (l : Leg) (f : LinkController → LinkController) (d : Device) : (d.modLink l f).lcc = d.lcc := rfl
@[simp] theorem modLink_mhu (l : Leg) (f : LinkController → LinkController) (d : Device) : (d.modLink l f).mhu = d.mhu := rfl
@[simp] theorem modLink_nsv (l : Leg) (f : LinkController → LinkController) (d : Device) : (d.modLink l f).nsv = d.nsv := rfl
@[simp] theorem modLink_upp (l : Leg) (f : LinkController → LinkController) (d : Device) : (d.modLink l f).upp = d.upp := rfl
@[simp] theorem modLink_eeu (l : Leg) (f : LinkController → LinkController) (d : Device) : (d.modLink l f).eeu = d.eeu := rfl
@[simp] theorem modLink_freeCount (l : Leg) (f : LinkController → LinkController) (d : Device) : (d.modLink l f).freeCount = d.freeCount := rfl

/-! ## cutLinks -/

@[simp] theorem cutLinks_tbs (d : Device) : (d.cutLinks).tbs = d.tbs := rfl
@[simp] theorem cutLinks_gpe (d : Device) : (d.cutLinks).gpe = d.gpe := rfl
@[simp] theorem cutLinks_bal (d : Device) : (d.cutLinks).bal = d.bal := rfl
@[simp] theorem cutLinks_cfl (d : Device) : (d.cutLinks).cfl = d.cfl := rfl
@[simp] theorem cutLinks_lcc (d : Device) : (d.cutLinks).lcc = d.lcc := rfl
@[simp] theorem cutLinks_mhu (d : Device) : (d.cutLinks).mhu = d.mhu := rfl
@[simp] theorem cutLinks_nsv (d : Device) : (d.cutLinks).nsv = d.nsv := rfl
@[simp] theorem cutLinks_upp (d : Device) : (d.cutLinks).upp = d.upp := rfl
@[simp] theorem cutLinks_eeu (d : Device) : (d.cutLinks).eeu = d.eeu := rfl
@[simp] theorem cutLinks_freeCount (d : Device) : (d.cutLinks).freeCount = d.freeCount + 4 := rfl

/-! ## clearLinkCounters -/

@[simp] theorem clearLinkCounters_tbs (d : Device) : (d.clearLinkCounters).tbs = d.tbs := rfl
@[simp] theorem clearLinkCounters_gpe (d : Device) : (d.clearLinkCounters).gpe = d.gpe := rfl
@[simp] theorem clearLinkCounters_bal (d : Device) : (d.clearLinkCounters).bal = d.bal := rfl
@[simp] theorem clearLinkCounters_cfl (d : Device) : (d.clearLinkCounters).cfl = d.cfl := rfl
@[simp] theorem clearLinkCounters_lcc (d : Device) : (d.clearLinkCounters).lcc = d.lcc := rfl
@[simp] theorem clearLinkCounters_mhu (d : Device) : (d.clearLinkCounters).mhu = d.mhu := rfl
@[simp] theorem clearLinkCounters_nsv (d : Device) : (d.clearLinkCounters).nsv = d.nsv := rfl
@[simp] theorem clearLinkCounters_upp (d : Device) : (d.clearLinkCounters).upp = d.upp := rfl
@[simp] theorem clearLinkCounters_eeu (d : Device) : (d.clearLinkCounters).eeu = d.eeu := rfl
@[simp] theorem clearLinkCounters_freeCount (d : Device) : (d.clearLinkCounters).freeCount = d.freeCount := rfl

/-! ## enableLinks -/

@[simp] theorem enableLinks_tbs (d : Device) : (d.enableLinks).tbs = d.tbs := rfl
@[simp] theorem enableLinks_gpe (d : Device) : (d.enableLinks).gpe = d.gpe := rfl
@[simp] theorem enableLinks_bal (d : Device) : (d.enableLinks).bal = d.bal := rfl
@[simp] theorem enableLinks_cfl (d : Device) : (d.enableLinks).cfl = d.cfl := rfl
@[simp] theorem enableLinks_lcc (d : Device) : (d.enableLinks).lcc = d.lcc := rfl
@[simp] theorem enableLinks_mhu (d : Device) : (d.enableLinks).mhu = d.mhu := rfl
@[simp] theorem enableLinks_nsv (d : Device) : (d.enableLinks).nsv = d.nsv := rfl
@[simp] theorem enableLinks_upp (d : Device) : (d.enableLinks).upp = d.upp := rfl
@[simp] theorem enableLinks_eeu (d : Device) : (d.enableLinks).eeu = d.eeu := rfl
@[simp] theorem enableLinks_freeCount (d : Device) : (d.enableLinks).freeCount = d.freeCount := rfl

/-! ## modLane -/

@[simp] theorem modLane_tbs (l : Leg) (f : Lane → Lane) (d : Device) : (d.modLane l f).tbs = d.tbs := rfl
@[simp] theorem modLane_gpe (l : Leg) (f : Lane → Lane) (d : Device) : (d.modLane l f).gpe = d.gpe := rfl
@[simp] theorem modLane_bal (l : Leg) (f : Lane → Lane) (d : Device) : (d.modLane l f).bal = d.bal := rfl
@[simp] theorem modLane_cfl (l : Leg) (f : Lane → Lane) (d : Device) : (d.modLane l f).cfl = d.cfl := rfl
@[simp] theorem modLane_mhu (l : Leg) (f : Lane → Lane) (d : Device) : (d.modLane l f).mhu = d.mhu := rfl
@[simp] theorem modLane_llc (l : Leg) (f : Lane → Lane) (d : Device) : (d.modLane l f).llc = d.llc := rfl
@[simp] theorem modLane_nsv (l : Leg) (f : Lane → Lane) (d : Device) : (d.modLane l f).nsv = d.nsv := rfl
@[simp] theorem modLane_upp (l : Leg) (f : Lane → Lane) (d : Device) : (d.modLane l f).upp = d.upp := rfl
@[simp] theorem modLane_eeu (l : Leg) (f : Lane → Lane) (d : Device) : (d.modLane l f).eeu = d.eeu := rfl
@[simp] theorem modLane_freeCount (l : Leg) (f : Lane → Lane) (d : Device) : (d.modLane l f).freeCount = d.freeCount := rfl

/-! ## deliver -/

@[simp] theorem deliver_tbs (l : Leg) (c : LimbCommand) (d : Device) : (d.deliver l c).tbs = d.tbs := rfl
@[simp] theorem deliver_gpe (l : Leg) (c : LimbCommand) (d : Device) : (d.deliver l c).gpe = d.gpe := rfl
@[simp] theorem deliver_bal (l : Leg) (c : LimbCommand) (d : Device) : (d.deliver l c).bal = d.bal := rfl
@[simp] theorem deliver_cfl (l : Leg) (c : LimbCommand) (d : Device) : (d.deliver l c).cfl = d.cfl := rfl
@[simp] theorem deliver_mhu (l : Leg) (c : LimbCommand) (d : Device) : (d.deliver l c).mhu = d.mhu := rfl
@[simp] theorem deliver_llc (l : Leg) (c : LimbCommand) (d : Device) : (d.deliver l c).llc = d.llc := rfl
@[simp] theorem deliver_nsv (l : Leg) (c : LimbCommand) (d : Device) : (d.deliver l c).nsv = d.nsv := rfl
@[simp] theorem deliver_upp (l : Leg) (c : LimbCommand) (d : Device) : (d.deliver l c).upp = d.upp := rfl
@[simp] theorem deliver_eeu (l : Leg) (c : LimbCommand) (d : Device) : (d.deliver l c).eeu = d.eeu := rfl
@[simp] theorem deliver_freeCount (l : Leg) (c : LimbCommand) (d : Device) : (d.deliver l c).freeCount = d.freeCount := rfl

/-! ## takeSegments -/

@[simp] theorem takeSegments_tbs (g : PerLeg LegSegment) (e : BodyErrors) (d : Device) : (d.takeSegments g e).tbs = d.tbs := rfl
@[simp] theorem takeSegments_gpe (g : PerLeg LegSegment) (e : BodyErrors) (d : Device) : (d.takeSegments g e).gpe = d.gpe := rfl
@[simp] theorem takeSegments_bal (g : PerLeg LegSegment) (e : BodyErrors) (d : Device) : (d.takeSegments g e).bal = d.bal := rfl
@[simp] theorem takeSegments_cfl (g : PerLeg LegSegment) (e : BodyErrors) (d : Device) : (d.takeSegments g e).cfl = d.cfl := rfl
@[simp] theorem takeSegments_mhu (g : PerLeg LegSegment) (e : BodyErrors) (d : Device) : (d.takeSegments g e).mhu = d.mhu := rfl
@[simp] theorem takeSegments_llc (g : PerLeg LegSegment) (e : BodyErrors) (d : Device) : (d.takeSegments g e).llc = d.llc := rfl
@[simp] theorem takeSegments_nsv (g : PerLeg LegSegment) (e : BodyErrors) (d : Device) : (d.takeSegments g e).nsv = d.nsv := rfl
@[simp] theorem takeSegments_upp (g : PerLeg LegSegment) (e : BodyErrors) (d : Device) : (d.takeSegments g e).upp = d.upp := rfl
@[simp] theorem takeSegments_eeu (g : PerLeg LegSegment) (e : BodyErrors) (d : Device) : (d.takeSegments g e).eeu = d.eeu := rfl
@[simp] theorem takeSegments_freeCount (g : PerLeg LegSegment) (e : BodyErrors) (d : Device) : (d.takeSegments g e).freeCount = d.freeCount := rfl

/-! ## recordUnclamped -/

@[simp] theorem recordUnclamped_tbs (e d : Device) : (recordUnclamped e d).tbs = d.tbs := rfl
@[simp] theorem recordUnclamped_gpe (e d : Device) : (recordUnclamped e d).gpe = d.gpe := rfl
@[simp] theorem recordUnclamped_bal (e d : Device) : (recordUnclamped e d).bal = d.bal := rfl
@[simp] theorem recordUnclamped_cfl (e d : Device) : (recordUnclamped e d).cfl = d.cfl := rfl
@[simp] theorem recordUnclamped_mhu (e d : Device) : (recordUnclamped e d).mhu = d.mhu := rfl
@[simp] theorem recordUnclamped_llc (e d : Device) : (recordUnclamped e d).llc = d.llc := rfl
@[simp] theorem recordUnclamped_nsv (e d : Device) : (recordUnclamped e d).nsv = d.nsv := rfl
@[simp] theorem recordUnclamped_upp (e d : Device) : (recordUnclamped e d).upp = d.upp := rfl
@[simp] theorem recordUnclamped_eeu (e d : Device) : (recordUnclamped e d).eeu = d.eeu := rfl
@[simp] theorem recordUnclamped_freeCount (e d : Device) : (recordUnclamped e d).freeCount = d.freeCount := rfl

/-! ## takeBody -/

@[simp] theorem takeBody_tbs (b : BodyState) (d : Device) : (d.takeBody b).tbs = d.tbs := rfl
@[simp] theorem takeBody_gpe (b : BodyState) (d : Device) : (d.takeBody b).gpe = d.gpe := rfl
@[simp] theorem takeBody_cfl (b : BodyState) (d : Device) : (d.takeBody b).cfl = d.cfl := rfl
@[simp] theorem takeBody_lcc (b : BodyState) (d : Device) : (d.takeBody b).lcc = d.lcc := rfl
@[simp] theorem takeBody_mhu (b : BodyState) (d : Device) : (d.takeBody b).mhu = d.mhu := rfl
@[simp] theorem takeBody_llc (b : BodyState) (d : Device) : (d.takeBody b).llc = d.llc := rfl
@[simp] theorem takeBody_nsv (b : BodyState) (d : Device) : (d.takeBody b).nsv = d.nsv := rfl
@[simp] theorem takeBody_upp (b : BodyState) (d : Device) : (d.takeBody b).upp = d.upp := rfl
@[simp] theorem takeBody_eeu (b : BodyState) (d : Device) : (d.takeBody b).eeu = d.eeu := rfl
@[simp] theorem takeBody_freeCount (b : BodyState) (d : Device) : (d.takeBody b).freeCount = d.freeCount := rfl

/-! ## staleBody -/

@[simp] theorem staleBody_tbs (d : Device) : (d.staleBody).tbs = d.tbs := rfl
@[simp] theorem staleBody_gpe (d : Device) : (d.staleBody).gpe = d.gpe := rfl
@[simp] theorem staleBody_cfl (d : Device) : (d.staleBody).cfl = d.cfl := rfl
@[simp] theorem staleBody_lcc (d : Device) : (d.staleBody).lcc = d.lcc := rfl
@[simp] theorem staleBody_mhu (d : Device) : (d.staleBody).mhu = d.mhu := rfl
@[simp] theorem staleBody_llc (d : Device) : (d.staleBody).llc = d.llc := rfl
@[simp] theorem staleBody_nsv (d : Device) : (d.staleBody).nsv = d.nsv := rfl
@[simp] theorem staleBody_upp (d : Device) : (d.staleBody).upp = d.upp := rfl
@[simp] theorem staleBody_eeu (d : Device) : (d.staleBody).eeu = d.eeu := rfl
@[simp] theorem staleBody_freeCount (d : Device) : (d.staleBody).freeCount = d.freeCount := rfl

/-! ## ageBody -/

@[simp] theorem ageBody_tbs (d : Device) : (d.ageBody).tbs = d.tbs := rfl
@[simp] theorem ageBody_gpe (d : Device) : (d.ageBody).gpe = d.gpe := rfl
@[simp] theorem ageBody_cfl (d : Device) : (d.ageBody).cfl = d.cfl := rfl
@[simp] theorem ageBody_lcc (d : Device) : (d.ageBody).lcc = d.lcc := rfl
@[simp] theorem ageBody_mhu (d : Device) : (d.ageBody).mhu = d.mhu := rfl
@[simp] theorem ageBody_llc (d : Device) : (d.ageBody).llc = d.llc := rfl
@[simp] theorem ageBody_nsv (d : Device) : (d.ageBody).nsv = d.nsv := rfl
@[simp] theorem ageBody_upp (d : Device) : (d.ageBody).upp = d.upp := rfl
@[simp] theorem ageBody_eeu (d : Device) : (d.ageBody).eeu = d.eeu := rfl
@[simp] theorem ageBody_freeCount (d : Device) : (d.ageBody).freeCount = d.freeCount := rfl

/-! ## setTables -/

@[simp] theorem setTables_gpe (t : TableStore) (d : Device) : (d.setTables t).gpe = d.gpe := rfl
@[simp] theorem setTables_bal (t : TableStore) (d : Device) : (d.setTables t).bal = d.bal := rfl
@[simp] theorem setTables_cfl (t : TableStore) (d : Device) : (d.setTables t).cfl = d.cfl := rfl
@[simp] theorem setTables_lcc (t : TableStore) (d : Device) : (d.setTables t).lcc = d.lcc := rfl
@[simp] theorem setTables_mhu (t : TableStore) (d : Device) : (d.setTables t).mhu = d.mhu := rfl
@[simp] theorem setTables_llc (t : TableStore) (d : Device) : (d.setTables t).llc = d.llc := rfl
@[simp] theorem setTables_nsv (t : TableStore) (d : Device) : (d.setTables t).nsv = d.nsv := rfl
@[simp] theorem setTables_upp (t : TableStore) (d : Device) : (d.setTables t).upp = d.upp := rfl
@[simp] theorem setTables_eeu (t : TableStore) (d : Device) : (d.setTables t).eeu = d.eeu := rfl
@[simp] theorem setTables_freeCount (t : TableStore) (d : Device) : (d.setTables t).freeCount = d.freeCount := rfl

/-! ## enqueue -/

@[simp] theorem enqueue_tbs (reply : List Byte) (d : Device) : (d.enqueue reply).tbs = d.tbs := rfl
@[simp] theorem enqueue_gpe (reply : List Byte) (d : Device) : (d.enqueue reply).gpe = d.gpe := rfl
@[simp] theorem enqueue_bal (reply : List Byte) (d : Device) : (d.enqueue reply).bal = d.bal := rfl
@[simp] theorem enqueue_cfl (reply : List Byte) (d : Device) : (d.enqueue reply).cfl = d.cfl := rfl
@[simp] theorem enqueue_lcc (reply : List Byte) (d : Device) : (d.enqueue reply).lcc = d.lcc := rfl
@[simp] theorem enqueue_mhu (reply : List Byte) (d : Device) : (d.enqueue reply).mhu = d.mhu := rfl
@[simp] theorem enqueue_llc (reply : List Byte) (d : Device) : (d.enqueue reply).llc = d.llc := rfl
@[simp] theorem enqueue_nsv (reply : List Byte) (d : Device) : (d.enqueue reply).nsv = d.nsv := rfl
@[simp] theorem enqueue_eeu (reply : List Byte) (d : Device) : (d.enqueue reply).eeu = d.eeu := rfl
@[simp] theorem enqueue_freeCount (reply : List Byte) (d : Device) : (d.enqueue reply).freeCount = d.freeCount := rfl

/-! ## postStatus -/

@[simp] theorem postStatus_tbs (cause : CycleCause) (d : Device) : (d.postStatus cause).tbs = d.tbs := rfl
@[simp] theorem postStatus_gpe (cause : CycleCause) (d : Device) : (d.postStatus cause).gpe = d.gpe := rfl
@[simp] theorem postStatus_bal (cause : CycleCause) (d : Device) : (d.postStatus cause).bal = d.bal := rfl
@[simp] theorem postStatus_cfl (cause : CycleCause) (d : Device) : (d.postStatus cause).cfl = d.cfl := rfl
@[simp] theorem postStatus_lcc (cause : CycleCause) (d : Device) : (d.postStatus cause).lcc = d.lcc := rfl
@[simp] theorem postStatus_mhu (cause : CycleCause) (d : Device) : (d.postStatus cause).mhu = d.mhu := rfl
@[simp] theorem postStatus_llc (cause : CycleCause) (d : Device) : (d.postStatus cause).llc = d.llc := rfl
@[simp] theorem postStatus_nsv (cause : CycleCause) (d : Device) : (d.postStatus cause).nsv = d.nsv := rfl
@[simp] theorem postStatus_eeu (cause : CycleCause) (d : Device) : (d.postStatus cause).eeu = d.eeu := rfl
@[simp] theorem postStatus_freeCount (cause : CycleCause) (d : Device) : (d.postStatus cause).freeCount = d.freeCount := rfl

/-! ## restartSilence -/

@[simp] theorem restartSilence_tbs (d : Device) : (d.restartSilence).tbs = d.tbs := rfl
@[simp] theorem restartSilence_gpe (d : Device) : (d.restartSilence).gpe = d.gpe := rfl
@[simp] theorem restartSilence_bal (d : Device) : (d.restartSilence).bal = d.bal := rfl
@[simp] theorem restartSilence_cfl (d : Device) : (d.restartSilence).cfl = d.cfl := rfl
@[simp] theorem restartSilence_lcc (d : Device) : (d.restartSilence).lcc = d.lcc := rfl
@[simp] theorem restartSilence_mhu (d : Device) : (d.restartSilence).mhu = d.mhu := rfl
@[simp] theorem restartSilence_llc (d : Device) : (d.restartSilence).llc = d.llc := rfl
@[simp] theorem restartSilence_nsv (d : Device) : (d.restartSilence).nsv = d.nsv := rfl
@[simp] theorem restartSilence_eeu (d : Device) : (d.restartSilence).eeu = d.eeu := rfl
@[simp] theorem restartSilence_freeCount (d : Device) : (d.restartSilence).freeCount = d.freeCount := rfl

/-! ## startLocalTimer -/

@[simp] theorem startLocalTimer_tbs (d : Device) : (d.startLocalTimer).tbs = d.tbs := rfl
@[simp] theorem startLocalTimer_gpe (d : Device) : (d.startLocalTimer).gpe = d.gpe := rfl
@[simp] theorem startLocalTimer_bal (d : Device) : (d.startLocalTimer).bal = d.bal := rfl
@[simp] theorem startLocalTimer_cfl (d : Device) : (d.startLocalTimer).cfl = d.cfl := rfl
@[simp] theorem startLocalTimer_lcc (d : Device) : (d.startLocalTimer).lcc = d.lcc := rfl
@[simp] theorem startLocalTimer_mhu (d : Device) : (d.startLocalTimer).mhu = d.mhu := rfl
@[simp] theorem startLocalTimer_llc (d : Device) : (d.startLocalTimer).llc = d.llc := rfl
@[simp] theorem startLocalTimer_nsv (d : Device) : (d.startLocalTimer).nsv = d.nsv := rfl
@[simp] theorem startLocalTimer_eeu (d : Device) : (d.startLocalTimer).eeu = d.eeu := rfl
@[simp] theorem startLocalTimer_freeCount (d : Device) : (d.startLocalTimer).freeCount = d.freeCount := rfl

/-! ## clearPortCounts -/

@[simp] theorem clearPortCounts_tbs (d : Device) : (d.clearPortCounts).tbs = d.tbs := rfl
@[simp] theorem clearPortCounts_gpe (d : Device) : (d.clearPortCounts).gpe = d.gpe := rfl
@[simp] theorem clearPortCounts_bal (d : Device) : (d.clearPortCounts).bal = d.bal := rfl
@[simp] theorem clearPortCounts_cfl (d : Device) : (d.clearPortCounts).cfl = d.cfl := rfl
@[simp] theorem clearPortCounts_lcc (d : Device) : (d.clearPortCounts).lcc = d.lcc := rfl
@[simp] theorem clearPortCounts_mhu (d : Device) : (d.clearPortCounts).mhu = d.mhu := rfl
@[simp] theorem clearPortCounts_llc (d : Device) : (d.clearPortCounts).llc = d.llc := rfl
@[simp] theorem clearPortCounts_nsv (d : Device) : (d.clearPortCounts).nsv = d.nsv := rfl
@[simp] theorem clearPortCounts_eeu (d : Device) : (d.clearPortCounts).eeu = d.eeu := rfl
@[simp] theorem clearPortCounts_freeCount (d : Device) : (d.clearPortCounts).freeCount = d.freeCount := rfl

/-! ## countFrame -/

@[simp] theorem countFrame_tbs (d : Device) : (d.countFrame).tbs = d.tbs := rfl
@[simp] theorem countFrame_gpe (d : Device) : (d.countFrame).gpe = d.gpe := rfl
@[simp] theorem countFrame_bal (d : Device) : (d.countFrame).bal = d.bal := rfl
@[simp] theorem countFrame_cfl (d : Device) : (d.countFrame).cfl = d.cfl := rfl
@[simp] theorem countFrame_lcc (d : Device) : (d.countFrame).lcc = d.lcc := rfl
@[simp] theorem countFrame_llc (d : Device) : (d.countFrame).llc = d.llc := rfl
@[simp] theorem countFrame_nsv (d : Device) : (d.countFrame).nsv = d.nsv := rfl
@[simp] theorem countFrame_upp (d : Device) : (d.countFrame).upp = d.upp := rfl
@[simp] theorem countFrame_eeu (d : Device) : (d.countFrame).eeu = d.eeu := rfl
@[simp] theorem countFrame_freeCount (d : Device) : (d.countFrame).freeCount = d.freeCount := rfl

/-! ## What an update sets -/

@[simp] theorem setMode_mode (m : Mode) (d : Device) : (d.setMode m).mhu.mode = m := rfl
@[simp] theorem setMode_stack (m : Mode) (d : Device) : (d.setMode m).mhu.stack = d.mhu.stack := rfl
@[simp] theorem setMode_sit (m : Mode) (d : Device) : (d.setMode m).mhu.sit = d.mhu.sit := rfl
@[simp] theorem setMode_walkFlag (m : Mode) (d : Device) : (d.setMode m).mhu.walkFlag = d.mhu.walkFlag := rfl
@[simp] theorem setMode_framesSinceSilence (m : Mode) (d : Device) :
    (d.setMode m).mhu.framesSinceSilence = d.mhu.framesSinceSilence := rfl
@[simp] theorem setTables_tbs (t : TableStore) (d : Device) : (d.setTables t).tbs = t := rfl
@[simp] theorem modLeg_current (l : Leg) (f : LegRecord → LegRecord) (d : Device) :
    (d.modLeg l f).gpe.current = d.gpe.current := rfl
@[simp] theorem modLeg_waiting (l : Leg) (f : LegRecord → LegRecord) (d : Device) :
    (d.modLeg l f).gpe.waiting = d.gpe.waiting := rfl
@[simp] theorem modLeg_phase (l : Leg) (f : LegRecord → LegRecord) (d : Device) :
    (d.modLeg l f).gpe.phase = d.gpe.phase := rfl
@[simp] theorem mapLegs_current (f : Leg → LegRecord → LegRecord) (d : Device) :
    (d.mapLegs f).gpe.current = d.gpe.current := rfl
@[simp] theorem mapLegs_waiting (f : Leg → LegRecord → LegRecord) (d : Device) :
    (d.mapLegs f).gpe.waiting = d.gpe.waiting := rfl
@[simp] theorem mapLegs_phase (f : Leg → LegRecord → LegRecord) (d : Device) :
    (d.mapLegs f).gpe.phase = d.gpe.phase := rfl
@[simp] theorem touchDown_current (l : Leg) (d : Device) : (d.touchDown l).gpe.current = d.gpe.current := rfl
@[simp] theorem touchDown_waiting (l : Leg) (d : Device) : (d.touchDown l).gpe.waiting = d.gpe.waiting := rfl
@[simp] theorem touchDown_phase (l : Leg) (d : Device) : (d.touchDown l).gpe.phase = d.gpe.phase := rfl
@[simp] theorem setLatches_current (d : Device) : d.setLatches.gpe.current = d.gpe.current := rfl
@[simp] theorem setLatches_waiting (d : Device) : d.setLatches.gpe.waiting = d.gpe.waiting := rfl
@[simp] theorem setLatches_phase (d : Device) : d.setLatches.gpe.phase = d.gpe.phase := rfl
@[simp] theorem enterLiftWait_current (l : Leg) (d : Device) : (d.enterLiftWait l).gpe.current = d.gpe.current := rfl
@[simp] theorem enterLiftWait_waiting (l : Leg) (d : Device) : (d.enterLiftWait l).gpe.waiting = d.gpe.waiting := rfl
@[simp] theorem enterLiftWait_phase (l : Leg) (d : Device) : (d.enterLiftWait l).gpe.phase = d.gpe.phase := rfl
@[simp] theorem unsetLegs_current (d : Device) : d.unsetLegs.gpe.current = d.gpe.current := rfl
@[simp] theorem unsetLegs_phase (d : Device) : d.unsetLegs.gpe.phase = 0 := rfl
@[simp] theorem unsetLegs_waiting (d : Device) : d.unsetLegs.gpe.waiting = none := rfl
@[simp] theorem unsetLegs_legs (d : Device) : d.unsetLegs.gpe.legs = .replicate unsetLeg := rfl
@[simp] theorem raise_resetting (f : Factor) (d : Device) : (d.raise f).eeu.resetting = d.eeu.resetting := rfl
@[simp] theorem raise_resetCause (f : Factor) (d : Device) : (d.raise f).eeu.resetCause = d.eeu.resetCause := rfl
@[simp] theorem raise_running (f : Factor) (d : Device) : (d.raise f).running = d.running := rfl
@[simp] theorem raise_factors (f : Factor) (d : Device) :
    (d.raise f).eeu.factors = FactorTable.raise d.eeu.factors f := rfl
@[simp] theorem raise_alert (f : Factor) (d : Device) : (d.raise f).eeu.alert = (d.raise f).alertDue := rfl
@[simp] theorem refreshAlert_factors (d : Device) : d.refreshAlert.eeu.factors = d.eeu.factors := rfl
@[simp] theorem refreshAlert_resetting (d : Device) : d.refreshAlert.eeu.resetting = d.eeu.resetting := rfl
@[simp] theorem refreshAlert_resetCause (d : Device) : d.refreshAlert.eeu.resetCause = d.eeu.resetCause := rfl

end Device

/-! ## One value for each leg, joint or slot -/

namespace PerLeg
variable {α β : Type}

@[simp] theorem get_ofFn (f : Leg → α) (l : Leg) : (ofFn f).get l = f l := by cases l <;> rfl
@[simp] theorem get_replicate (x : α) (l : Leg) : (replicate x).get l = x := by cases l <;> rfl
@[simp] theorem get_map (f : α → β) (p : PerLeg α) (l : Leg) : (p.map f).get l = f (p.get l) := by cases l <;> rfl
@[simp] theorem get_set_self (p : PerLeg α) (l : Leg) (x : α) : (p.set l x).get l = x := by cases l <;> rfl
theorem get_set_ne (p : PerLeg α) {l m : Leg} (x : α) (h : m ≠ l) : (p.set l x).get m = p.get m := by
  cases l <;> cases m <;> first | rfl | exact absurd rfl h
theorem get_set (p : PerLeg α) (l m : Leg) (x : α) : (p.set l x).get m = if m = l then x else p.get m := by
  split
  · next h => subst h; exact get_set_self p m x
  · next h => exact get_set_ne p x h
@[simp] theorem get_modify_self (p : PerLeg α) (l : Leg) (f : α → α) : (p.modify l f).get l = f (p.get l) :=
  get_set_self p l _
theorem get_modify_ne (p : PerLeg α) {l m : Leg} (f : α → α) (h : m ≠ l) : (p.modify l f).get m = p.get m :=
  get_set_ne p _ h
@[ext] theorem ext_get {p q : PerLeg α} (h : ∀ l, p.get l = q.get l) : p = q := by
  cases p; cases q
  have h0 := h .fl; have h1 := h .fr; have h2 := h .rr; have h3 := h .rl
  simp only [get] at h0 h1 h2 h3
  subst h0 h1 h2 h3; rfl

end PerLeg

namespace PerJoint
variable {α β : Type}

@[simp] theorem get_ofFn (f : JointIx → α) (i : JointIx) : (ofFn f).get i = f i := by cases i <;> rfl
@[simp] theorem get_replicate (x : α) (i : JointIx) : (replicate x).get i = x := by cases i <;> rfl
@[simp] theorem get_map (f : α → β) (p : PerJoint α) (i : JointIx) : (p.map f).get i = f (p.get i) := by
  cases i <;> rfl
@[simp] theorem get_set_self (p : PerJoint α) (i : JointIx) (x : α) : (p.set i x).get i = x := by cases i <;> rfl
theorem get_set_ne (p : PerJoint α) {i j : JointIx} (x : α) (h : j ≠ i) : (p.set i x).get j = p.get j := by
  cases i <;> cases j <;> first | rfl | exact absurd rfl h
@[simp] theorem get_modify_self (p : PerJoint α) (i : JointIx) (f : α → α) : (p.modify i f).get i = f (p.get i) :=
  get_set_self p i _
theorem get_modify_ne (p : PerJoint α) {i j : JointIx} (f : α → α) (h : j ≠ i) : (p.modify i f).get j = p.get j :=
  get_set_ne p _ h
@[ext] theorem ext_get {p q : PerJoint α} (h : ∀ i, p.get i = q.get i) : p = q := by
  cases p; cases q
  have h0 := h .ha; have h1 := h .hf; have h2 := h .kn
  simp only [get] at h0 h1 h2
  subst h0 h1 h2; rfl

end PerJoint

namespace PerSlot
variable {α β : Type}

@[simp] theorem get_replicate (x : α) (i : Slot) : (replicate x).get i = x := by cases i <;> rfl
@[simp] theorem get_map (f : α → β) (p : PerSlot α) (i : Slot) : (p.map f).get i = f (p.get i) := by cases i <;> rfl
@[simp] theorem get_set_self (p : PerSlot α) (i : Slot) (x : α) : (p.set i x).get i = x := by cases i <;> rfl
theorem get_set_ne (p : PerSlot α) {i j : Slot} (x : α) (h : j ≠ i) : (p.set i x).get j = p.get j := by
  cases i <;> cases j <;> first | rfl | exact absurd rfl h
@[simp] theorem get_modify_self (p : PerSlot α) (i : Slot) (f : α → α) : (p.modify i f).get i = f (p.get i) :=
  get_set_self p i _
theorem get_modify_ne (p : PerSlot α) {i j : Slot} (f : α → α) (h : j ≠ i) : (p.modify i f).get j = p.get j :=
  get_set_ne p _ h

end PerSlot

theorem Leg.mem_all (l : Leg) : l ∈ Leg.all := by cases l <;> decide
theorem JointIx.mem_all (i : JointIx) : i ∈ JointIx.all := by cases i <;> decide
theorem Slot.mem_all (x : Slot) : x ∈ Slot.all := by cases x <;> decide
theorem Joint.mem_all (j : Joint) : j ∈ Joint.all := by rcases j with ⟨l, i⟩; cases l <;> cases i <;> decide
theorem Node.mem_all (n : Node) : n ∈ Node.all := by rcases n with ⟨l, x⟩; cases l <;> cases x <;> decide
theorem Factor.mem_all (f : Factor) : f ∈ Factor.all := by cases f <;> decide

/-- A check over all legs is a check of each. -/
theorem Leg.all_iff (p : Leg → Bool) : Leg.all.all p = true ↔ ∀ l, p l = true :=
  ⟨fun h l => List.all_eq_true.mp h l (Leg.mem_all l), fun h => List.all_eq_true.mpr fun l _ => h l⟩

/-- A check over all factors is a check of each. -/
theorem Factor.all_iff (p : Factor → Bool) : Factor.all.all p = true ↔ ∀ f, p f = true :=
  ⟨fun h f => List.all_eq_true.mp h f (Factor.mem_all f), fun h => List.all_eq_true.mpr fun f _ => h f⟩

/-- A check over all nodes is a check of each. -/
theorem Node.all_iff (p : Node → Bool) : Node.all.all p = true ↔ ∀ n, p n = true :=
  ⟨fun h n => List.all_eq_true.mp h n (Node.mem_all n), fun h => List.all_eq_true.mpr fun n _ => h n⟩

/-- A check over all joints is a check of each. -/
theorem Joint.all_iff (p : Joint → Bool) : Joint.all.all p = true ↔ ∀ j, p j = true :=
  ⟨fun h j => List.all_eq_true.mp h j (Joint.mem_all j), fun h => List.all_eq_true.mpr fun j _ => h j⟩

end Sys2Proof.Machine
end

