-- ==== Sys2Proof/Laws/Frames.lean ====
section
/-!
SUPPORT. What each shared operation leaves as it is: for every operation, one lemma for each block it does not reach,
so that a proof about one block never unfolds an operation of another.
-/

namespace Sys2Proof.Machine

namespace Device

@[simp] theorem raiseIf_frame (b : Bool) (f : Factor) (d : Device) :
    (d.raiseIf b f).tbs = d.tbs ∧ (d.raiseIf b f).gpe = d.gpe ∧ (d.raiseIf b f).bal = d.bal ∧
    (d.raiseIf b f).cfl = d.cfl ∧ (d.raiseIf b f).lcc = d.lcc ∧ (d.raiseIf b f).mhu = d.mhu ∧
    (d.raiseIf b f).llc = d.llc ∧ (d.raiseIf b f).nsv = d.nsv ∧ (d.raiseIf b f).upp = d.upp ∧
    (d.raiseIf b f).freeCount = d.freeCount ∧ (d.raiseIf b f).eeu.resetting = d.eeu.resetting ∧
    (d.raiseIf b f).eeu.resetCause = d.eeu.resetCause := by
  unfold raiseIf; (repeat' split) <;> simp

@[simp] theorem raiseAll_frame (fs : List Factor) (d : Device) :
    (d.raiseAll fs).tbs = d.tbs ∧ (d.raiseAll fs).gpe = d.gpe ∧ (d.raiseAll fs).bal = d.bal ∧
    (d.raiseAll fs).cfl = d.cfl ∧ (d.raiseAll fs).lcc = d.lcc ∧ (d.raiseAll fs).mhu = d.mhu ∧
    (d.raiseAll fs).llc = d.llc ∧ (d.raiseAll fs).nsv = d.nsv ∧ (d.raiseAll fs).upp = d.upp ∧
    (d.raiseAll fs).freeCount = d.freeCount ∧ (d.raiseAll fs).eeu.resetting = d.eeu.resetting ∧
    (d.raiseAll fs).eeu.resetCause = d.eeu.resetCause := by
  unfold raiseAll; induction fs generalizing d <;> simp [*]

@[simp] theorem clearFactors_frame (p : Factor → Bool) (d : Device) :
    (d.clearFactors p).tbs = d.tbs ∧ (d.clearFactors p).gpe = d.gpe ∧ (d.clearFactors p).bal = d.bal ∧
    (d.clearFactors p).lcc = d.lcc ∧ (d.clearFactors p).mhu = d.mhu ∧ (d.clearFactors p).llc = d.llc ∧
    (d.clearFactors p).nsv = d.nsv ∧ (d.clearFactors p).upp = d.upp ∧ (d.clearFactors p).freeCount = d.freeCount ∧
    (d.clearFactors p).eeu.resetting = d.eeu.resetting ∧ (d.clearFactors p).eeu.resetCause = d.eeu.resetCause := by
  unfold clearFactors; (repeat' split) <;> simp

@[simp] theorem sitDemand_frame (d : Device) :
    (d.sitDemand).tbs = d.tbs ∧ (d.sitDemand).bal = d.bal ∧ (d.sitDemand).cfl = d.cfl ∧ (d.sitDemand).lcc = d.lcc ∧
    (d.sitDemand).llc = d.llc ∧ (d.sitDemand).nsv = d.nsv ∧ (d.sitDemand).upp = d.upp ∧
    (d.sitDemand).freeCount = d.freeCount ∧ (d.sitDemand).eeu.resetting = d.eeu.resetting ∧
    (d.sitDemand).eeu.resetCause = d.eeu.resetCause := by
  unfold sitDemand; (repeat' split) <;> simp

@[simp] theorem pushRecord_frame (h : Hold) (d : Device) :
    (d.pushRecord h).tbs = d.tbs ∧ (d.pushRecord h).bal = d.bal ∧ (d.pushRecord h).cfl = d.cfl ∧
    (d.pushRecord h).lcc = d.lcc ∧ (d.pushRecord h).llc = d.llc ∧ (d.pushRecord h).nsv = d.nsv ∧
    (d.pushRecord h).upp = d.upp ∧ (d.pushRecord h).freeCount = d.freeCount ∧
    (d.pushRecord h).eeu.resetting = d.eeu.resetting ∧ (d.pushRecord h).eeu.resetCause = d.eeu.resetCause := by
  unfold pushRecord; (repeat' split) <;> simp

@[simp] theorem judgePush_frame (h : Hold) (d : Device) :
    (d.judgePush h).tbs = d.tbs ∧ (d.judgePush h).bal = d.bal ∧ (d.judgePush h).cfl = d.cfl ∧
    (d.judgePush h).lcc = d.lcc ∧ (d.judgePush h).llc = d.llc ∧ (d.judgePush h).nsv = d.nsv ∧
    (d.judgePush h).upp = d.upp ∧ (d.judgePush h).freeCount = d.freeCount ∧
    (d.judgePush h).eeu.resetting = d.eeu.resetting ∧ (d.judgePush h).eeu.resetCause = d.eeu.resetCause := by
  unfold judgePush; (repeat' split) <;> simp

@[simp] theorem noteSilence_frame (q : PushRequest) (d : Device) :
    (d.noteSilence q).tbs = d.tbs ∧ (d.noteSilence q).gpe = d.gpe ∧ (d.noteSilence q).bal = d.bal ∧
    (d.noteSilence q).cfl = d.cfl ∧ (d.noteSilence q).lcc = d.lcc ∧ (d.noteSilence q).llc = d.llc ∧
    (d.noteSilence q).nsv = d.nsv ∧ (d.noteSilence q).upp = d.upp ∧ (d.noteSilence q).freeCount = d.freeCount ∧
    (d.noteSilence q).eeu = d.eeu := by
  unfold noteSilence; (repeat' split) <;> simp

@[simp] theorem request_frame (q : PushRequest) (d : Device) :
    (d.request q).tbs = d.tbs ∧ (d.request q).bal = d.bal ∧ (d.request q).cfl = d.cfl ∧ (d.request q).lcc = d.lcc ∧
    (d.request q).llc = d.llc ∧ (d.request q).nsv = d.nsv ∧ (d.request q).upp = d.upp ∧
    (d.request q).freeCount = d.freeCount ∧ (d.request q).eeu.resetting = d.eeu.resetting ∧
    (d.request q).eeu.resetCause = d.eeu.resetCause := by
  unfold request; (repeat' split) <;> simp

@[simp] theorem requestAll_frame (qs : List PushRequest) (d : Device) :
    (d.requestAll qs).tbs = d.tbs ∧ (d.requestAll qs).bal = d.bal ∧ (d.requestAll qs).cfl = d.cfl ∧
    (d.requestAll qs).lcc = d.lcc ∧ (d.requestAll qs).llc = d.llc ∧ (d.requestAll qs).nsv = d.nsv ∧
    (d.requestAll qs).upp = d.upp ∧ (d.requestAll qs).freeCount = d.freeCount ∧
    (d.requestAll qs).eeu.resetting = d.eeu.resetting ∧ (d.requestAll qs).eeu.resetCause = d.eeu.resetCause := by
  unfold requestAll; induction qs generalizing d <;> simp [*]

@[simp] theorem adopt_frame (g : Fin 8) (d : Device) :
    (d.adopt g).tbs = d.tbs ∧ (d.adopt g).bal = d.bal ∧ (d.adopt g).cfl = d.cfl ∧ (d.adopt g).lcc = d.lcc ∧
    (d.adopt g).mhu = d.mhu ∧ (d.adopt g).llc = d.llc ∧ (d.adopt g).nsv = d.nsv ∧ (d.adopt g).upp = d.upp ∧
    (d.adopt g).freeCount = d.freeCount ∧ (d.adopt g).eeu.resetting = d.eeu.resetting ∧
    (d.adopt g).eeu.resetCause = d.eeu.resetCause := by
  unfold adopt; simp

@[simp] theorem refuseGait_frame (d : Device) :
    (d.refuseGait).tbs = d.tbs ∧ (d.refuseGait).bal = d.bal ∧ (d.refuseGait).cfl = d.cfl ∧
    (d.refuseGait).lcc = d.lcc ∧ (d.refuseGait).mhu = d.mhu ∧ (d.refuseGait).llc = d.llc ∧
    (d.refuseGait).nsv = d.nsv ∧ (d.refuseGait).upp = d.upp ∧ (d.refuseGait).freeCount = d.freeCount ∧
    (d.refuseGait).eeu.resetting = d.eeu.resetting ∧ (d.refuseGait).eeu.resetCause = d.eeu.resetCause := by
  unfold refuseGait; simp

@[simp] theorem selectGait_frame (g : Fin 8) (d : Device) :
    (d.selectGait g).tbs = d.tbs ∧ (d.selectGait g).bal = d.bal ∧ (d.selectGait g).cfl = d.cfl ∧
    (d.selectGait g).lcc = d.lcc ∧ (d.selectGait g).mhu = d.mhu ∧ (d.selectGait g).llc = d.llc ∧
    (d.selectGait g).nsv = d.nsv ∧ (d.selectGait g).upp = d.upp ∧ (d.selectGait g).freeCount = d.freeCount ∧
    (d.selectGait g).eeu.resetting = d.eeu.resetting ∧ (d.selectGait g).eeu.resetCause = d.eeu.resetCause := by
  unfold selectGait; (repeat' split) <;> simp

@[simp] theorem enterStand_frame (d : Device) :
    (d.enterStand).tbs = d.tbs ∧ (d.enterStand).bal = d.bal ∧ (d.enterStand).cfl = d.cfl ∧
    (d.enterStand).lcc = d.lcc ∧ (d.enterStand).llc = d.llc ∧ (d.enterStand).nsv = d.nsv ∧
    (d.enterStand).upp = d.upp ∧ (d.enterStand).freeCount = d.freeCount ∧
    (d.enterStand).eeu.resetting = d.eeu.resetting ∧ (d.enterStand).eeu.resetCause = d.eeu.resetCause := by
  unfold enterStand; dsimp only; (repeat' split) <;> simp

@[simp] theorem completeStop_frame (d : Device) :
    (d.completeStop).tbs = d.tbs ∧ (d.completeStop).bal = d.bal ∧ (d.completeStop).cfl = d.cfl ∧
    (d.completeStop).lcc = d.lcc ∧ (d.completeStop).llc = d.llc ∧ (d.completeStop).nsv = d.nsv ∧
    (d.completeStop).upp = d.upp ∧ (d.completeStop).freeCount = d.freeCount ∧
    (d.completeStop).eeu.resetting = d.eeu.resetting ∧ (d.completeStop).eeu.resetCause = d.eeu.resetCause := by
  unfold completeStop; (repeat' split) <;> simp

@[simp] theorem askMargin_frame (l : Leg) (d : Device) :
    ((d.askMargin l).2).tbs = d.tbs ∧ ((d.askMargin l).2).gpe = d.gpe ∧ ((d.askMargin l).2).bal = d.bal ∧
    ((d.askMargin l).2).cfl = d.cfl ∧ ((d.askMargin l).2).lcc = d.lcc ∧ ((d.askMargin l).2).mhu = d.mhu ∧
    ((d.askMargin l).2).llc = d.llc ∧ ((d.askMargin l).2).nsv = d.nsv ∧ ((d.askMargin l).2).upp = d.upp ∧
    ((d.askMargin l).2).freeCount = d.freeCount ∧ ((d.askMargin l).2).eeu.resetting = d.eeu.resetting ∧
    ((d.askMargin l).2).eeu.resetCause = d.eeu.resetCause := by
  unfold askMargin; simp

@[simp] theorem computeMargins_frame (d : Device) :
    (d.computeMargins).tbs = d.tbs ∧ (d.computeMargins).gpe = d.gpe ∧ (d.computeMargins).cfl = d.cfl ∧
    (d.computeMargins).lcc = d.lcc ∧ (d.computeMargins).mhu = d.mhu ∧ (d.computeMargins).llc = d.llc ∧
    (d.computeMargins).nsv = d.nsv ∧ (d.computeMargins).upp = d.upp ∧ (d.computeMargins).freeCount = d.freeCount ∧
    (d.computeMargins).eeu.resetting = d.eeu.resetting ∧ (d.computeMargins).eeu.resetCause = d.eeu.resetCause := by
  unfold computeMargins; simp

@[simp] theorem braceCheck_frame (d : Device) :
    (d.braceCheck).tbs = d.tbs ∧ (d.braceCheck).bal = d.bal ∧ (d.braceCheck).cfl = d.cfl ∧
    (d.braceCheck).lcc = d.lcc ∧ (d.braceCheck).llc = d.llc ∧ (d.braceCheck).nsv = d.nsv ∧
    (d.braceCheck).upp = d.upp ∧ (d.braceCheck).freeCount = d.freeCount ∧
    (d.braceCheck).eeu.resetting = d.eeu.resetting ∧ (d.braceCheck).eeu.resetCause = d.eeu.resetCause := by
  unfold braceCheck; (repeat' split) <;> simp

@[simp] theorem driveReaction_frame (n : Node) (why : NodeReason) (d : Device) :
    (d.driveReaction n why).tbs = d.tbs ∧ (d.driveReaction n why).bal = d.bal ∧
    (d.driveReaction n why).cfl = d.cfl ∧ (d.driveReaction n why).lcc = d.lcc ∧
    (d.driveReaction n why).llc = d.llc ∧ (d.driveReaction n why).nsv = d.nsv ∧
    (d.driveReaction n why).upp = d.upp ∧ (d.driveReaction n why).freeCount = d.freeCount ∧
    (d.driveReaction n why).eeu.resetting = d.eeu.resetting ∧
    (d.driveReaction n why).eeu.resetCause = d.eeu.resetCause := by
  unfold driveReaction; (repeat' split) <;> simp

@[simp] theorem footReaction_frame (l : Leg) (why : NodeReason) (d : Device) :
    (d.footReaction l why).tbs = d.tbs ∧ (d.footReaction l why).bal = d.bal ∧ (d.footReaction l why).cfl = d.cfl ∧
    (d.footReaction l why).lcc = d.lcc ∧ (d.footReaction l why).llc = d.llc ∧ (d.footReaction l why).nsv = d.nsv ∧
    (d.footReaction l why).upp = d.upp ∧ (d.footReaction l why).freeCount = d.freeCount ∧
    (d.footReaction l why).eeu.resetting = d.eeu.resetting ∧
    (d.footReaction l why).eeu.resetCause = d.eeu.resetCause := by
  unfold footReaction; (repeat' split) <;> simp

@[simp] theorem footEntryJudgement_frame (l : Leg) (d : Device) :
    (d.footEntryJudgement l).tbs = d.tbs ∧ (d.footEntryJudgement l).bal = d.bal ∧
    (d.footEntryJudgement l).cfl = d.cfl ∧ (d.footEntryJudgement l).lcc = d.lcc ∧
    (d.footEntryJudgement l).llc = d.llc ∧ (d.footEntryJudgement l).nsv = d.nsv ∧
    (d.footEntryJudgement l).upp = d.upp ∧ (d.footEntryJudgement l).freeCount = d.freeCount ∧
    (d.footEntryJudgement l).eeu.resetting = d.eeu.resetting ∧
    (d.footEntryJudgement l).eeu.resetCause = d.eeu.resetCause := by
  unfold footEntryJudgement; (repeat' split) <;> simp

@[simp] theorem countWait_frame (l : Leg) (d : Device) :
    (d.countWait l).tbs = d.tbs ∧ (d.countWait l).bal = d.bal ∧ (d.countWait l).cfl = d.cfl ∧
    (d.countWait l).lcc = d.lcc ∧ (d.countWait l).mhu = d.mhu ∧ (d.countWait l).llc = d.llc ∧
    (d.countWait l).nsv = d.nsv ∧ (d.countWait l).upp = d.upp ∧ (d.countWait l).freeCount = d.freeCount ∧
    (d.countWait l).eeu.resetting = d.eeu.resetting ∧ (d.countWait l).eeu.resetCause = d.eeu.resetCause := by
  unfold countWait; simp

@[simp] theorem countClear_frame (l : Leg) (d : Device) :
    (d.countClear l).tbs = d.tbs ∧ (d.countClear l).bal = d.bal ∧ (d.countClear l).cfl = d.cfl ∧
    (d.countClear l).lcc = d.lcc ∧ (d.countClear l).llc = d.llc ∧ (d.countClear l).nsv = d.nsv ∧
    (d.countClear l).upp = d.upp ∧ (d.countClear l).freeCount = d.freeCount ∧
    (d.countClear l).eeu.resetting = d.eeu.resetting ∧ (d.countClear l).eeu.resetCause = d.eeu.resetCause := by
  unfold countClear; dsimp only; (repeat' split) <;> simp

@[simp] theorem countLanding_frame (l : Leg) (d : Device) :
    (d.countLanding l).tbs = d.tbs ∧ (d.countLanding l).bal = d.bal ∧ (d.countLanding l).cfl = d.cfl ∧
    (d.countLanding l).lcc = d.lcc ∧ (d.countLanding l).llc = d.llc ∧ (d.countLanding l).nsv = d.nsv ∧
    (d.countLanding l).upp = d.upp ∧ (d.countLanding l).freeCount = d.freeCount ∧
    (d.countLanding l).eeu.resetting = d.eeu.resetting ∧ (d.countLanding l).eeu.resetCause = d.eeu.resetCause := by
  unfold countLanding; dsimp only; (repeat' split) <;> simp

@[simp] theorem judgeSetDown_frame (l : Leg) (d : Device) :
    (d.judgeSetDown l).tbs = d.tbs ∧ (d.judgeSetDown l).bal = d.bal ∧ (d.judgeSetDown l).cfl = d.cfl ∧
    (d.judgeSetDown l).lcc = d.lcc ∧ (d.judgeSetDown l).mhu = d.mhu ∧ (d.judgeSetDown l).llc = d.llc ∧
    (d.judgeSetDown l).nsv = d.nsv ∧ (d.judgeSetDown l).upp = d.upp ∧ (d.judgeSetDown l).freeCount = d.freeCount ∧
    (d.judgeSetDown l).eeu = d.eeu := by
  unfold judgeSetDown; (repeat' split) <;> simp

@[simp] theorem updateCounter_frame (l : Leg) (d : Device) :
    (d.updateCounter l).tbs = d.tbs ∧ (d.updateCounter l).bal = d.bal ∧ (d.updateCounter l).cfl = d.cfl ∧
    (d.updateCounter l).lcc = d.lcc ∧ (d.updateCounter l).llc = d.llc ∧ (d.updateCounter l).nsv = d.nsv ∧
    (d.updateCounter l).upp = d.upp ∧ (d.updateCounter l).freeCount = d.freeCount ∧
    (d.updateCounter l).eeu.resetting = d.eeu.resetting ∧ (d.updateCounter l).eeu.resetCause = d.eeu.resetCause := by
  unfold updateCounter; (repeat' split) <;> simp

@[simp] theorem updateCounters_frame (d : Device) :
    (d.updateCounters).tbs = d.tbs ∧ (d.updateCounters).bal = d.bal ∧ (d.updateCounters).cfl = d.cfl ∧
    (d.updateCounters).lcc = d.lcc ∧ (d.updateCounters).llc = d.llc ∧ (d.updateCounters).nsv = d.nsv ∧
    (d.updateCounters).upp = d.upp ∧ (d.updateCounters).freeCount = d.freeCount ∧
    (d.updateCounters).eeu.resetting = d.eeu.resetting ∧ (d.updateCounters).eeu.resetCause = d.eeu.resetCause := by
  unfold updateCounters; simp [Leg.all]

@[simp] theorem grantLift_frame (l : Leg) (d : Device) :
    (d.grantLift l).tbs = d.tbs ∧ (d.grantLift l).bal = d.bal ∧ (d.grantLift l).cfl = d.cfl ∧
    (d.grantLift l).lcc = d.lcc ∧ (d.grantLift l).llc = d.llc ∧ (d.grantLift l).nsv = d.nsv ∧
    (d.grantLift l).upp = d.upp ∧ (d.grantLift l).freeCount = d.freeCount ∧
    (d.grantLift l).eeu.resetting = d.eeu.resetting ∧ (d.grantLift l).eeu.resetCause = d.eeu.resetCause := by
  unfold grantLift; simp

@[simp] theorem tryLift_frame (l : Leg) (d : Device) :
    (d.tryLift l).tbs = d.tbs ∧ (d.tryLift l).bal = d.bal ∧ (d.tryLift l).cfl = d.cfl ∧ (d.tryLift l).lcc = d.lcc ∧
    (d.tryLift l).llc = d.llc ∧ (d.tryLift l).nsv = d.nsv ∧ (d.tryLift l).upp = d.upp ∧
    (d.tryLift l).freeCount = d.freeCount ∧ (d.tryLift l).eeu.resetting = d.eeu.resetting ∧
    (d.tryLift l).eeu.resetCause = d.eeu.resetCause := by
  unfold tryLift; (repeat' split) <;> simp

@[simp] theorem liftPointsUnderfoot_frame (d : Device) :
    (d.liftPointsUnderfoot).tbs = d.tbs ∧ (d.liftPointsUnderfoot).bal = d.bal ∧
    (d.liftPointsUnderfoot).cfl = d.cfl ∧ (d.liftPointsUnderfoot).lcc = d.lcc ∧
    (d.liftPointsUnderfoot).mhu = d.mhu ∧ (d.liftPointsUnderfoot).llc = d.llc ∧
    (d.liftPointsUnderfoot).nsv = d.nsv ∧ (d.liftPointsUnderfoot).upp = d.upp ∧
    (d.liftPointsUnderfoot).freeCount = d.freeCount ∧ (d.liftPointsUnderfoot).eeu = d.eeu := by
  unfold liftPointsUnderfoot; (repeat' split) <;> simp

@[simp] theorem stageAdoption_frame (d : Device) :
    (d.stageAdoption).tbs = d.tbs ∧ (d.stageAdoption).bal = d.bal ∧ (d.stageAdoption).cfl = d.cfl ∧
    (d.stageAdoption).lcc = d.lcc ∧ (d.stageAdoption).mhu = d.mhu ∧ (d.stageAdoption).llc = d.llc ∧
    (d.stageAdoption).nsv = d.nsv ∧ (d.stageAdoption).upp = d.upp ∧ (d.stageAdoption).freeCount = d.freeCount ∧
    (d.stageAdoption).eeu.resetting = d.eeu.resetting ∧ (d.stageAdoption).eeu.resetCause = d.eeu.resetCause := by
  unfold stageAdoption; (repeat' split) <;> simp

@[simp] theorem returnWaiting_frame (d : Device) :
    (d.returnWaiting).tbs = d.tbs ∧ (d.returnWaiting).bal = d.bal ∧ (d.returnWaiting).cfl = d.cfl ∧
    (d.returnWaiting).lcc = d.lcc ∧ (d.returnWaiting).mhu = d.mhu ∧ (d.returnWaiting).llc = d.llc ∧
    (d.returnWaiting).nsv = d.nsv ∧ (d.returnWaiting).upp = d.upp ∧ (d.returnWaiting).freeCount = d.freeCount ∧
    (d.returnWaiting).eeu = d.eeu := by
  unfold returnWaiting; simp

@[simp] theorem tryLifts_frame (d : Device) :
    ((Leg.all.foldl (fun d l => d.tryLift l) d)).tbs = d.tbs ∧
    ((Leg.all.foldl (fun d l => d.tryLift l) d)).bal = d.bal ∧
    ((Leg.all.foldl (fun d l => d.tryLift l) d)).cfl = d.cfl ∧
    ((Leg.all.foldl (fun d l => d.tryLift l) d)).lcc = d.lcc ∧
    ((Leg.all.foldl (fun d l => d.tryLift l) d)).llc = d.llc ∧
    ((Leg.all.foldl (fun d l => d.tryLift l) d)).nsv = d.nsv ∧
    ((Leg.all.foldl (fun d l => d.tryLift l) d)).upp = d.upp ∧
    ((Leg.all.foldl (fun d l => d.tryLift l) d)).freeCount = d.freeCount ∧
    ((Leg.all.foldl (fun d l => d.tryLift l) d)).eeu.resetting = d.eeu.resetting ∧
    ((Leg.all.foldl (fun d l => d.tryLift l) d)).eeu.resetCause = d.eeu.resetCause := by
  simp [Leg.all]

@[simp] theorem stagePermission_frame (d : Device) :
    (d.stagePermission).tbs = d.tbs ∧ (d.stagePermission).bal = d.bal ∧ (d.stagePermission).cfl = d.cfl ∧
    (d.stagePermission).lcc = d.lcc ∧ (d.stagePermission).llc = d.llc ∧ (d.stagePermission).nsv = d.nsv ∧
    (d.stagePermission).upp = d.upp ∧ (d.stagePermission).freeCount = d.freeCount ∧
    (d.stagePermission).eeu.resetting = d.eeu.resetting ∧ (d.stagePermission).eeu.resetCause = d.eeu.resetCause := by
  unfold stagePermission; (repeat' split) <;> simp

@[simp] theorem advanceBy_frame (k : Nat) (d : Device) :
    (d.advanceBy k).tbs = d.tbs ∧ (d.advanceBy k).bal = d.bal ∧ (d.advanceBy k).cfl = d.cfl ∧
    (d.advanceBy k).lcc = d.lcc ∧ (d.advanceBy k).mhu = d.mhu ∧ (d.advanceBy k).llc = d.llc ∧
    (d.advanceBy k).nsv = d.nsv ∧ (d.advanceBy k).upp = d.upp ∧ (d.advanceBy k).freeCount = d.freeCount ∧
    (d.advanceBy k).eeu = d.eeu := by
  simp [advanceBy]

@[simp] theorem enterLanding_frame (l : Leg) (d : Device) :
    (d.enterLanding l).tbs = d.tbs ∧ (d.enterLanding l).bal = d.bal ∧ (d.enterLanding l).cfl = d.cfl ∧
    (d.enterLanding l).lcc = d.lcc ∧ (d.enterLanding l).llc = d.llc ∧ (d.enterLanding l).nsv = d.nsv ∧
    (d.enterLanding l).upp = d.upp ∧ (d.enterLanding l).freeCount = d.freeCount ∧
    (d.enterLanding l).eeu.resetting = d.eeu.resetting ∧ (d.enterLanding l).eeu.resetCause = d.eeu.resetCause := by
  unfold enterLanding; simp

@[simp] theorem judgeAtPoint_frame (l : Leg) (d : Device) :
    (d.judgeAtPoint l).tbs = d.tbs ∧ (d.judgeAtPoint l).bal = d.bal ∧ (d.judgeAtPoint l).cfl = d.cfl ∧
    (d.judgeAtPoint l).lcc = d.lcc ∧ (d.judgeAtPoint l).llc = d.llc ∧ (d.judgeAtPoint l).nsv = d.nsv ∧
    (d.judgeAtPoint l).upp = d.upp ∧ (d.judgeAtPoint l).freeCount = d.freeCount ∧
    (d.judgeAtPoint l).eeu.resetting = d.eeu.resetting ∧ (d.judgeAtPoint l).eeu.resetCause = d.eeu.resetCause := by
  unfold judgeAtPoint; (repeat' split) <;> simp

@[simp] theorem judgeAtPoints_frame (ls : List Leg) (d : Device) :
    ((ls.foldl (fun d l => d.judgeAtPoint l) d)).tbs = d.tbs ∧
    ((ls.foldl (fun d l => d.judgeAtPoint l) d)).bal = d.bal ∧
    ((ls.foldl (fun d l => d.judgeAtPoint l) d)).cfl = d.cfl ∧
    ((ls.foldl (fun d l => d.judgeAtPoint l) d)).lcc = d.lcc ∧
    ((ls.foldl (fun d l => d.judgeAtPoint l) d)).llc = d.llc ∧
    ((ls.foldl (fun d l => d.judgeAtPoint l) d)).nsv = d.nsv ∧
    ((ls.foldl (fun d l => d.judgeAtPoint l) d)).upp = d.upp ∧
    ((ls.foldl (fun d l => d.judgeAtPoint l) d)).freeCount = d.freeCount ∧
    ((ls.foldl (fun d l => d.judgeAtPoint l) d)).eeu.resetting = d.eeu.resetting ∧
    ((ls.foldl (fun d l => d.judgeAtPoint l) d)).eeu.resetCause = d.eeu.resetCause := by
  induction ls generalizing d <;> simp [*]

@[simp] theorem stageAdvance_frame (step : Nat) (d : Device) :
    (d.stageAdvance step).tbs = d.tbs ∧ (d.stageAdvance step).bal = d.bal ∧ (d.stageAdvance step).cfl = d.cfl ∧
    (d.stageAdvance step).lcc = d.lcc ∧ (d.stageAdvance step).llc = d.llc ∧ (d.stageAdvance step).nsv = d.nsv ∧
    (d.stageAdvance step).upp = d.upp ∧ (d.stageAdvance step).freeCount = d.freeCount ∧
    (d.stageAdvance step).eeu.resetting = d.eeu.resetting ∧ (d.stageAdvance step).eeu.resetCause = d.eeu.resetCause := by
  unfold stageAdvance; simp

@[simp] theorem phaseStep_frame (step : Nat) (d : Device) :
    (d.phaseStep step).tbs = d.tbs ∧ (d.phaseStep step).bal = d.bal ∧ (d.phaseStep step).cfl = d.cfl ∧
    (d.phaseStep step).lcc = d.lcc ∧ (d.phaseStep step).llc = d.llc ∧ (d.phaseStep step).nsv = d.nsv ∧
    (d.phaseStep step).upp = d.upp ∧ (d.phaseStep step).freeCount = d.freeCount ∧
    (d.phaseStep step).eeu.resetting = d.eeu.resetting ∧ (d.phaseStep step).eeu.resetCause = d.eeu.resetCause := by
  unfold phaseStep; dsimp only; (repeat' split) <;> simp

@[simp] theorem stepInWalk_frame (step : Nat) (d : Device) :
    (d.stepInWalk step).tbs = d.tbs ∧ (d.stepInWalk step).bal = d.bal ∧ (d.stepInWalk step).cfl = d.cfl ∧
    (d.stepInWalk step).lcc = d.lcc ∧ (d.stepInWalk step).llc = d.llc ∧ (d.stepInWalk step).nsv = d.nsv ∧
    (d.stepInWalk step).upp = d.upp ∧ (d.stepInWalk step).freeCount = d.freeCount ∧
    (d.stepInWalk step).eeu.resetting = d.eeu.resetting ∧ (d.stepInWalk step).eeu.resetCause = d.eeu.resetCause := by
  unfold stepInWalk; (repeat' split) <;> simp

@[simp] theorem takeGaitIndex_frame (g : Fin 8) (d : Device) :
    (d.takeGaitIndex g).tbs = d.tbs ∧ (d.takeGaitIndex g).bal = d.bal ∧ (d.takeGaitIndex g).cfl = d.cfl ∧
    (d.takeGaitIndex g).lcc = d.lcc ∧ (d.takeGaitIndex g).mhu = d.mhu ∧ (d.takeGaitIndex g).llc = d.llc ∧
    (d.takeGaitIndex g).nsv = d.nsv ∧ (d.takeGaitIndex g).upp = d.upp ∧
    (d.takeGaitIndex g).freeCount = d.freeCount ∧ (d.takeGaitIndex g).eeu.resetting = d.eeu.resetting ∧
    (d.takeGaitIndex g).eeu.resetCause = d.eeu.resetCause := by
  unfold takeGaitIndex; (repeat' split) <;> simp

@[simp] theorem takeWalkFlag_frame (w : Bool) (d : Device) :
    (d.takeWalkFlag w).tbs = d.tbs ∧ (d.takeWalkFlag w).gpe = d.gpe ∧ (d.takeWalkFlag w).bal = d.bal ∧
    (d.takeWalkFlag w).cfl = d.cfl ∧ (d.takeWalkFlag w).lcc = d.lcc ∧ (d.takeWalkFlag w).llc = d.llc ∧
    (d.takeWalkFlag w).nsv = d.nsv ∧ (d.takeWalkFlag w).upp = d.upp ∧ (d.takeWalkFlag w).freeCount = d.freeCount ∧
    (d.takeWalkFlag w).eeu.resetting = d.eeu.resetting ∧ (d.takeWalkFlag w).eeu.resetCause = d.eeu.resetCause := by
  unfold takeWalkFlag; dsimp only; (repeat' split) <;> simp

@[simp] theorem swingContact_frame (l : Leg) (c : Contact) (d : Device) :
    (d.swingContact l c).tbs = d.tbs ∧ (d.swingContact l c).bal = d.bal ∧ (d.swingContact l c).cfl = d.cfl ∧
    (d.swingContact l c).lcc = d.lcc ∧ (d.swingContact l c).mhu = d.mhu ∧ (d.swingContact l c).llc = d.llc ∧
    (d.swingContact l c).nsv = d.nsv ∧ (d.swingContact l c).upp = d.upp ∧
    (d.swingContact l c).freeCount = d.freeCount ∧ (d.swingContact l c).eeu.resetting = d.eeu.resetting ∧
    (d.swingContact l c).eeu.resetCause = d.eeu.resetCause := by
  unfold swingContact; (repeat' split) <;> simp

@[simp] theorem contactChange_frame (l : Leg) (c : Contact) (d : Device) :
    (d.contactChange l c).tbs = d.tbs ∧ (d.contactChange l c).bal = d.bal ∧ (d.contactChange l c).cfl = d.cfl ∧
    (d.contactChange l c).lcc = d.lcc ∧ (d.contactChange l c).llc = d.llc ∧ (d.contactChange l c).nsv = d.nsv ∧
    (d.contactChange l c).upp = d.upp ∧ (d.contactChange l c).freeCount = d.freeCount ∧
    (d.contactChange l c).eeu.resetting = d.eeu.resetting ∧ (d.contactChange l c).eeu.resetCause = d.eeu.resetCause := by
  unfold contactChange; (repeat' split) <;> simp

@[simp] theorem formContact_frame (l : Leg) (c : Contact) (d : Device) :
    (d.formContact l c).tbs = d.tbs ∧ (d.formContact l c).bal = d.bal ∧ (d.formContact l c).lcc = d.lcc ∧
    (d.formContact l c).llc = d.llc ∧ (d.formContact l c).nsv = d.nsv ∧ (d.formContact l c).upp = d.upp ∧
    (d.formContact l c).freeCount = d.freeCount ∧ (d.formContact l c).eeu.resetting = d.eeu.resetting ∧
    (d.formContact l c).eeu.resetCause = d.eeu.resetCause := by
  unfold formContact; (repeat' split) <;> simp

@[simp] theorem takeSample_frame (l : Leg) (load : Nat) (d : Device) :
    (d.takeSample l load).tbs = d.tbs ∧ (d.takeSample l load).gpe = d.gpe ∧ (d.takeSample l load).bal = d.bal ∧
    (d.takeSample l load).lcc = d.lcc ∧ (d.takeSample l load).mhu = d.mhu ∧ (d.takeSample l load).llc = d.llc ∧
    (d.takeSample l load).nsv = d.nsv ∧ (d.takeSample l load).upp = d.upp ∧
    (d.takeSample l load).freeCount = d.freeCount ∧ (d.takeSample l load).eeu.resetting = d.eeu.resetting ∧
    (d.takeSample l load).eeu.resetCause = d.eeu.resetCause := by
  unfold takeSample; simp

@[simp] theorem judgeSlip_frame (l : Leg) (d : Device) :
    (d.judgeSlip l).tbs = d.tbs ∧ (d.judgeSlip l).bal = d.bal ∧ (d.judgeSlip l).lcc = d.lcc ∧
    (d.judgeSlip l).llc = d.llc ∧ (d.judgeSlip l).nsv = d.nsv ∧ (d.judgeSlip l).upp = d.upp ∧
    (d.judgeSlip l).freeCount = d.freeCount ∧ (d.judgeSlip l).eeu.resetting = d.eeu.resetting ∧
    (d.judgeSlip l).eeu.resetCause = d.eeu.resetCause := by
  unfold judgeSlip; dsimp only; (repeat' split) <;> simp

@[simp] theorem filterReply_frame (l : Leg) (reply : FootReply) (d : Device) :
    (d.filterReply l reply).tbs = d.tbs ∧ (d.filterReply l reply).bal = d.bal ∧
    (d.filterReply l reply).lcc = d.lcc ∧ (d.filterReply l reply).llc = d.llc ∧
    (d.filterReply l reply).nsv = d.nsv ∧ (d.filterReply l reply).upp = d.upp ∧
    (d.filterReply l reply).freeCount = d.freeCount ∧ (d.filterReply l reply).eeu.resetting = d.eeu.resetting ∧
    (d.filterReply l reply).eeu.resetCause = d.eeu.resetCause := by
  unfold filterReply; (repeat' split) <;> simp

@[simp] theorem loseFoot_frame (l : Leg) (d : Device) :
    (d.loseFoot l).tbs = d.tbs ∧ (d.loseFoot l).bal = d.bal ∧ (d.loseFoot l).lcc = d.lcc ∧
    (d.loseFoot l).llc = d.llc ∧ (d.loseFoot l).nsv = d.nsv ∧ (d.loseFoot l).upp = d.upp ∧
    (d.loseFoot l).freeCount = d.freeCount ∧ (d.loseFoot l).eeu.resetting = d.eeu.resetting ∧
    (d.loseFoot l).eeu.resetCause = d.eeu.resetCause := by
  unfold loseFoot; simp

@[simp] theorem supplyAction_frame (a : SupplyAction) (d : Device) :
    (d.supplyAction a).tbs = d.tbs ∧ (d.supplyAction a).bal = d.bal ∧ (d.supplyAction a).cfl = d.cfl ∧
    (d.supplyAction a).lcc = d.lcc ∧ (d.supplyAction a).llc = d.llc ∧ (d.supplyAction a).nsv = d.nsv ∧
    (d.supplyAction a).upp = d.upp ∧ (d.supplyAction a).freeCount = d.freeCount ∧
    (d.supplyAction a).eeu.resetting = d.eeu.resetting ∧ (d.supplyAction a).eeu.resetCause = d.eeu.resetCause := by
  unfold supplyAction; (repeat' split) <;> simp

@[simp] theorem judgeLevel1_frame (d : Device) :
    (d.judgeLevel1).tbs = d.tbs ∧ (d.judgeLevel1).bal = d.bal ∧ (d.judgeLevel1).cfl = d.cfl ∧
    (d.judgeLevel1).lcc = d.lcc ∧ (d.judgeLevel1).llc = d.llc ∧ (d.judgeLevel1).upp = d.upp ∧
    (d.judgeLevel1).freeCount = d.freeCount ∧ (d.judgeLevel1).eeu.resetting = d.eeu.resetting ∧
    (d.judgeLevel1).eeu.resetCause = d.eeu.resetCause := by
  unfold judgeLevel1; dsimp only; (repeat' split) <;> simp

@[simp] theorem judgeLevel2_frame (d : Device) :
    (d.judgeLevel2).tbs = d.tbs ∧ (d.judgeLevel2).bal = d.bal ∧ (d.judgeLevel2).cfl = d.cfl ∧
    (d.judgeLevel2).lcc = d.lcc ∧ (d.judgeLevel2).llc = d.llc ∧ (d.judgeLevel2).upp = d.upp ∧
    (d.judgeLevel2).freeCount = d.freeCount ∧ (d.judgeLevel2).eeu.resetting = d.eeu.resetting ∧
    (d.judgeLevel2).eeu.resetCause = d.eeu.resetCause := by
  unfold judgeLevel2; dsimp only; (repeat' split) <;> simp

@[simp] theorem formEstimate_frame (d : Device) :
    (d.formEstimate).tbs = d.tbs ∧ (d.formEstimate).bal = d.bal ∧ (d.formEstimate).cfl = d.cfl ∧
    (d.formEstimate).lcc = d.lcc ∧ (d.formEstimate).llc = d.llc ∧ (d.formEstimate).upp = d.upp ∧
    (d.formEstimate).freeCount = d.freeCount ∧ (d.formEstimate).eeu.resetting = d.eeu.resetting ∧
    (d.formEstimate).eeu.resetCause = d.eeu.resetCause := by
  unfold formEstimate; simp

@[simp] theorem goodOutcome_frame (n : Node) (d : Device) :
    (d.goodOutcome n).tbs = d.tbs ∧ (d.goodOutcome n).gpe = d.gpe ∧ (d.goodOutcome n).bal = d.bal ∧
    (d.goodOutcome n).cfl = d.cfl ∧ (d.goodOutcome n).lcc = d.lcc ∧ (d.goodOutcome n).mhu = d.mhu ∧
    (d.goodOutcome n).llc = d.llc ∧ (d.goodOutcome n).upp = d.upp ∧ (d.goodOutcome n).freeCount = d.freeCount ∧
    (d.goodOutcome n).eeu = d.eeu := by
  unfold goodOutcome; simp

@[simp] theorem takeFaults_frame (n : Node) (s : FaultSet) (d : Device) :
    (d.takeFaults n s).tbs = d.tbs ∧ (d.takeFaults n s).gpe = d.gpe ∧ (d.takeFaults n s).bal = d.bal ∧
    (d.takeFaults n s).cfl = d.cfl ∧ (d.takeFaults n s).lcc = d.lcc ∧ (d.takeFaults n s).mhu = d.mhu ∧
    (d.takeFaults n s).llc = d.llc ∧ (d.takeFaults n s).upp = d.upp ∧ (d.takeFaults n s).freeCount = d.freeCount ∧
    (d.takeFaults n s).eeu = d.eeu := by
  unfold takeFaults; simp

@[simp] theorem reactToDrive_frame (n : Node) (s : FaultSet) (d : Device) :
    (d.reactToDrive n s).tbs = d.tbs ∧ (d.reactToDrive n s).bal = d.bal ∧ (d.reactToDrive n s).cfl = d.cfl ∧
    (d.reactToDrive n s).lcc = d.lcc ∧ (d.reactToDrive n s).llc = d.llc ∧ (d.reactToDrive n s).nsv = d.nsv ∧
    (d.reactToDrive n s).upp = d.upp ∧ (d.reactToDrive n s).freeCount = d.freeCount ∧
    (d.reactToDrive n s).eeu.resetting = d.eeu.resetting ∧ (d.reactToDrive n s).eeu.resetCause = d.eeu.resetCause := by
  unfold reactToDrive; dsimp only; (repeat' split) <;> simp

@[simp] theorem superviseDrive_frame (j : Joint) (r : DriveReply) (d : Device) :
    (d.superviseDrive j r).tbs = d.tbs ∧ (d.superviseDrive j r).bal = d.bal ∧ (d.superviseDrive j r).cfl = d.cfl ∧
    (d.superviseDrive j r).lcc = d.lcc ∧ (d.superviseDrive j r).llc = d.llc ∧ (d.superviseDrive j r).upp = d.upp ∧
    (d.superviseDrive j r).freeCount = d.freeCount ∧ (d.superviseDrive j r).eeu.resetting = d.eeu.resetting ∧
    (d.superviseDrive j r).eeu.resetCause = d.eeu.resetCause := by
  unfold superviseDrive; simp

@[simp] theorem superviseFoot_frame (l : Leg) (r : FootReply) (d : Device) :
    (d.superviseFoot l r).tbs = d.tbs ∧ (d.superviseFoot l r).bal = d.bal ∧ (d.superviseFoot l r).cfl = d.cfl ∧
    (d.superviseFoot l r).lcc = d.lcc ∧ (d.superviseFoot l r).llc = d.llc ∧ (d.superviseFoot l r).upp = d.upp ∧
    (d.superviseFoot l r).freeCount = d.freeCount ∧ (d.superviseFoot l r).eeu.resetting = d.eeu.resetting ∧
    (d.superviseFoot l r).eeu.resetCause = d.eeu.resetCause := by
  unfold superviseFoot; dsimp only; (repeat' split) <;> simp

@[simp] theorem loseNode_frame (n : Node) (d : Device) :
    (d.loseNode n).tbs = d.tbs ∧ (d.loseNode n).bal = d.bal ∧ (d.loseNode n).lcc = d.lcc ∧
    (d.loseNode n).llc = d.llc ∧ (d.loseNode n).upp = d.upp ∧ (d.loseNode n).freeCount = d.freeCount ∧
    (d.loseNode n).eeu.resetting = d.eeu.resetting ∧ (d.loseNode n).eeu.resetCause = d.eeu.resetCause := by
  unfold loseNode; dsimp only; (repeat' split) <;> simp

@[simp] theorem missedOutcome_frame (n : Node) (d : Device) :
    (d.missedOutcome n).tbs = d.tbs ∧ (d.missedOutcome n).bal = d.bal ∧ (d.missedOutcome n).lcc = d.lcc ∧
    (d.missedOutcome n).llc = d.llc ∧ (d.missedOutcome n).upp = d.upp ∧
    (d.missedOutcome n).freeCount = d.freeCount ∧ (d.missedOutcome n).eeu.resetting = d.eeu.resetting ∧
    (d.missedOutcome n).eeu.resetCause = d.eeu.resetCause := by
  unfold missedOutcome; (repeat' split) <;> simp

@[simp] theorem beginTransaction_frame (l : Leg) (c : LimbCommand) (d : Device) :
    (d.beginTransaction l c).tbs = d.tbs ∧ (d.beginTransaction l c).gpe = d.gpe ∧
    (d.beginTransaction l c).bal = d.bal ∧ (d.beginTransaction l c).cfl = d.cfl ∧
    (d.beginTransaction l c).lcc = d.lcc ∧ (d.beginTransaction l c).mhu = d.mhu ∧
    (d.beginTransaction l c).nsv = d.nsv ∧ (d.beginTransaction l c).upp = d.upp ∧
    (d.beginTransaction l c).freeCount = d.freeCount ∧ (d.beginTransaction l c).eeu = d.eeu := by
  unfold beginTransaction; simp

@[simp] theorem lineFree_frame (l : Leg) (d : Device) :
    (d.lineFree l).tbs = d.tbs ∧ (d.lineFree l).gpe = d.gpe ∧ (d.lineFree l).bal = d.bal ∧
    (d.lineFree l).cfl = d.cfl ∧ (d.lineFree l).lcc = d.lcc ∧ (d.lineFree l).mhu = d.mhu ∧
    (d.lineFree l).nsv = d.nsv ∧ (d.lineFree l).upp = d.upp ∧ (d.lineFree l).freeCount = d.freeCount ∧
    (d.lineFree l).eeu = d.eeu := by
  unfold lineFree; (repeat' split) <;> simp

@[simp] theorem handOff_frame (l : Leg) (c : LimbCommand) (d : Device) :
    (d.handOff l c).tbs = d.tbs ∧ (d.handOff l c).gpe = d.gpe ∧ (d.handOff l c).bal = d.bal ∧
    (d.handOff l c).cfl = d.cfl ∧ (d.handOff l c).lcc = d.lcc ∧ (d.handOff l c).mhu = d.mhu ∧
    (d.handOff l c).nsv = d.nsv ∧ (d.handOff l c).upp = d.upp ∧ (d.handOff l c).freeCount = d.freeCount ∧
    (d.handOff l c).eeu.resetting = d.eeu.resetting ∧ (d.handOff l c).eeu.resetCause = d.eeu.resetCause := by
  unfold handOff; (repeat' split) <;> simp

@[simp] theorem judgeLowering_frame (d : Device) :
    (d.judgeLowering).tbs = d.tbs ∧ (d.judgeLowering).gpe = d.gpe ∧ (d.judgeLowering).bal = d.bal ∧
    (d.judgeLowering).cfl = d.cfl ∧ (d.judgeLowering).lcc = d.lcc ∧ (d.judgeLowering).llc = d.llc ∧
    (d.judgeLowering).nsv = d.nsv ∧ (d.judgeLowering).upp = d.upp ∧ (d.judgeLowering).freeCount = d.freeCount ∧
    (d.judgeLowering).eeu.resetting = d.eeu.resetting ∧ (d.judgeLowering).eeu.resetCause = d.eeu.resetCause := by
  unfold judgeLowering; (repeat' split) <;> simp

@[simp] theorem commandDelivered_frame (l : Leg) (c : LimbCommand) (d : Device) :
    (d.commandDelivered l c).tbs = d.tbs ∧ (d.commandDelivered l c).gpe = d.gpe ∧
    (d.commandDelivered l c).bal = d.bal ∧ (d.commandDelivered l c).cfl = d.cfl ∧
    (d.commandDelivered l c).nsv = d.nsv ∧ (d.commandDelivered l c).upp = d.upp ∧
    (d.commandDelivered l c).freeCount = d.freeCount ∧ (d.commandDelivered l c).eeu.resetting = d.eeu.resetting ∧
    (d.commandDelivered l c).eeu.resetCause = d.eeu.resetCause := by
  unfold commandDelivered; simp

@[simp] theorem transactionEnded_frame (l : Leg) (d : Device) :
    (d.transactionEnded l).tbs = d.tbs ∧ (d.transactionEnded l).bal = d.bal ∧ (d.transactionEnded l).cfl = d.cfl ∧
    (d.transactionEnded l).lcc = d.lcc ∧ (d.transactionEnded l).llc = d.llc ∧ (d.transactionEnded l).upp = d.upp ∧
    (d.transactionEnded l).freeCount = d.freeCount ∧ (d.transactionEnded l).eeu.resetting = d.eeu.resetting ∧
    (d.transactionEnded l).eeu.resetCause = d.eeu.resetCause := by
  unfold transactionEnded; simp

@[simp] theorem frameAbandoned_frame (l : Leg) (d : Device) :
    (d.frameAbandoned l).tbs = d.tbs ∧ (d.frameAbandoned l).bal = d.bal ∧ (d.frameAbandoned l).cfl = d.cfl ∧
    (d.frameAbandoned l).lcc = d.lcc ∧ (d.frameAbandoned l).upp = d.upp ∧
    (d.frameAbandoned l).freeCount = d.freeCount ∧ (d.frameAbandoned l).eeu.resetting = d.eeu.resetting ∧
    (d.frameAbandoned l).eeu.resetCause = d.eeu.resetCause := by
  unfold frameAbandoned; simp

@[simp] theorem abandonFrame_frame (l : Leg) (t : Nat) (d : Device) :
    (d.abandonFrame l t).tbs = d.tbs ∧ (d.abandonFrame l t).gpe = d.gpe ∧ (d.abandonFrame l t).bal = d.bal ∧
    (d.abandonFrame l t).cfl = d.cfl ∧ (d.abandonFrame l t).lcc = d.lcc ∧ (d.abandonFrame l t).mhu = d.mhu ∧
    (d.abandonFrame l t).nsv = d.nsv ∧ (d.abandonFrame l t).upp = d.upp ∧ (d.abandonFrame l t).freeCount = d.freeCount ∧
    (d.abandonFrame l t).eeu.resetting = d.eeu.resetting ∧ (d.abandonFrame l t).eeu.resetCause = d.eeu.resetCause := by
  unfold abandonFrame; simp

@[simp] theorem takePosition_frame (j : Joint) (x : Int) (d : Device) :
    (d.takePosition j x).tbs = d.tbs ∧ (d.takePosition j x).gpe = d.gpe ∧ (d.takePosition j x).bal = d.bal ∧
    (d.takePosition j x).cfl = d.cfl ∧ (d.takePosition j x).mhu = d.mhu ∧ (d.takePosition j x).llc = d.llc ∧
    (d.takePosition j x).nsv = d.nsv ∧ (d.takePosition j x).upp = d.upp ∧
    (d.takePosition j x).freeCount = d.freeCount ∧ (d.takePosition j x).eeu = d.eeu := by
  unfold takePosition; simp

@[simp] theorem countSlot_frame (l : Leg) (s : Slot) (j : SlotJudgement) (d : Device) :
    (d.countSlot l s j).tbs = d.tbs ∧ (d.countSlot l s j).gpe = d.gpe ∧ (d.countSlot l s j).bal = d.bal ∧
    (d.countSlot l s j).cfl = d.cfl ∧ (d.countSlot l s j).lcc = d.lcc ∧ (d.countSlot l s j).mhu = d.mhu ∧
    (d.countSlot l s j).nsv = d.nsv ∧ (d.countSlot l s j).upp = d.upp ∧
    (d.countSlot l s j).freeCount = d.freeCount ∧ (d.countSlot l s j).eeu.resetting = d.eeu.resetting ∧
    (d.countSlot l s j).eeu.resetCause = d.eeu.resetCause := by
  unfold countSlot; (repeat' split) <;> simp

@[simp] theorem handOn_frame (l : Leg) (s : Slot) (j : SlotJudgement) (bs : List Byte) (d : Device) :
    (d.handOn l s j bs).tbs = d.tbs ∧ (d.handOn l s j bs).bal = d.bal ∧ (d.handOn l s j bs).upp = d.upp ∧
    (d.handOn l s j bs).freeCount = d.freeCount ∧ (d.handOn l s j bs).eeu.resetting = d.eeu.resetting ∧
    (d.handOn l s j bs).eeu.resetCause = d.eeu.resetCause := by
  unfold handOn; (repeat' split) <;> simp

@[simp] theorem closeSlot_frame (l : Leg) (s : Slot) (tl : Carried) (d : Device) :
    (d.closeSlot l s tl).tbs = d.tbs ∧ (d.closeSlot l s tl).bal = d.bal ∧ (d.closeSlot l s tl).cfl = d.cfl ∧
    (d.closeSlot l s tl).lcc = d.lcc ∧ (d.closeSlot l s tl).upp = d.upp ∧ (d.closeSlot l s tl).freeCount = d.freeCount ∧
    (d.closeSlot l s tl).eeu.resetting = d.eeu.resetting ∧ (d.closeSlot l s tl).eeu.resetCause = d.eeu.resetCause := by
  unfold closeSlot; (repeat' split) <;> simp

@[simp] theorem endSlot_frame (l : Leg) (s : Slot) (cs : List RxChar) (tl : Carried) (d : Device) :
    (d.endSlot l s cs tl).tbs = d.tbs ∧ (d.endSlot l s cs tl).bal = d.bal ∧ (d.endSlot l s cs tl).upp = d.upp ∧
    (d.endSlot l s cs tl).freeCount = d.freeCount ∧ (d.endSlot l s cs tl).eeu.resetting = d.eeu.resetting ∧
    (d.endSlot l s cs tl).eeu.resetCause = d.eeu.resetCause := by
  unfold endSlot; simp

@[simp] theorem handOffLane_frame (e : Device) (l : Leg) (d : Device) :
    (handOffLane e l d).tbs = d.tbs ∧ (handOffLane e l d).gpe = d.gpe ∧ (handOffLane e l d).bal = d.bal ∧
    (handOffLane e l d).cfl = d.cfl ∧ (handOffLane e l d).lcc = d.lcc ∧ (handOffLane e l d).mhu = d.mhu ∧
    (handOffLane e l d).nsv = d.nsv ∧ (handOffLane e l d).upp = d.upp ∧
    (handOffLane e l d).freeCount = d.freeCount ∧ (handOffLane e l d).eeu.resetting = d.eeu.resetting ∧
    (handOffLane e l d).eeu.resetCause = d.eeu.resetCause := by
  unfold handOffLane; simp

@[simp] theorem handOffLanes_frame (e d : Device) :
    ((Leg.all.foldl (fun a l => handOffLane e l a) d)).tbs = d.tbs ∧
    ((Leg.all.foldl (fun a l => handOffLane e l a) d)).gpe = d.gpe ∧
    ((Leg.all.foldl (fun a l => handOffLane e l a) d)).bal = d.bal ∧
    ((Leg.all.foldl (fun a l => handOffLane e l a) d)).cfl = d.cfl ∧
    ((Leg.all.foldl (fun a l => handOffLane e l a) d)).lcc = d.lcc ∧
    ((Leg.all.foldl (fun a l => handOffLane e l a) d)).mhu = d.mhu ∧
    ((Leg.all.foldl (fun a l => handOffLane e l a) d)).nsv = d.nsv ∧
    ((Leg.all.foldl (fun a l => handOffLane e l a) d)).upp = d.upp ∧
    ((Leg.all.foldl (fun a l => handOffLane e l a) d)).freeCount = d.freeCount ∧
    ((Leg.all.foldl (fun a l => handOffLane e l a) d)).eeu.resetting = d.eeu.resetting ∧
    ((Leg.all.foldl (fun a l => handOffLane e l a) d)).eeu.resetCause = d.eeu.resetCause := by
  simp [Leg.all]

@[simp] theorem compose_frame (d : Device) :
    (d.compose).tbs = d.tbs ∧ (d.compose).bal = d.bal ∧ (d.compose).cfl = d.cfl ∧ (d.compose).nsv = d.nsv ∧
    (d.compose).upp = d.upp ∧ (d.compose).freeCount = d.freeCount ∧ (d.compose).eeu.resetting = d.eeu.resetting ∧
    (d.compose).eeu.resetCause = d.eeu.resetCause := by
  unfold compose; simp

@[simp] theorem pump_frame (d : Device) :
    (d.pump).tbs = d.tbs ∧ (d.pump).gpe = d.gpe ∧ (d.pump).bal = d.bal ∧ (d.pump).cfl = d.cfl ∧
    (d.pump).lcc = d.lcc ∧ (d.pump).mhu = d.mhu ∧ (d.pump).llc = d.llc ∧ (d.pump).nsv = d.nsv ∧
    (d.pump).freeCount = d.freeCount ∧ (d.pump).eeu = d.eeu := by
  unfold pump; (repeat' split) <;> simp

@[simp] theorem takeTag_frame (tag : Byte) (d : Device) :
    (d.takeTag tag).tbs = d.tbs ∧ (d.takeTag tag).gpe = d.gpe ∧ (d.takeTag tag).bal = d.bal ∧
    (d.takeTag tag).cfl = d.cfl ∧ (d.takeTag tag).lcc = d.lcc ∧ (d.takeTag tag).mhu = d.mhu ∧
    (d.takeTag tag).llc = d.llc ∧ (d.takeTag tag).nsv = d.nsv ∧ (d.takeTag tag).freeCount = d.freeCount ∧
    (d.takeTag tag).eeu.resetting = d.eeu.resetting ∧ (d.takeTag tag).eeu.resetCause = d.eeu.resetCause := by
  unfold takeTag; simp

@[simp] theorem finishCycle_frame (cause : CycleCause) (d : Device) :
    (d.finishCycle cause).tbs = d.tbs ∧ (d.finishCycle cause).cfl = d.cfl ∧ (d.finishCycle cause).nsv = d.nsv ∧
    (d.finishCycle cause).freeCount = d.freeCount ∧ (d.finishCycle cause).eeu.resetting = d.eeu.resetting ∧
    (d.finishCycle cause).eeu.resetCause = d.eeu.resetCause := by
  unfold finishCycle; simp

@[simp] theorem releaseLeg_frame (l : Leg) (d : Device) :
    (d.releaseLeg l).tbs = d.tbs ∧ (d.releaseLeg l).bal = d.bal ∧ (d.releaseLeg l).cfl = d.cfl ∧
    (d.releaseLeg l).lcc = d.lcc ∧ (d.releaseLeg l).mhu = d.mhu ∧ (d.releaseLeg l).llc = d.llc ∧
    (d.releaseLeg l).nsv = d.nsv ∧ (d.releaseLeg l).upp = d.upp ∧ (d.releaseLeg l).freeCount = d.freeCount ∧
    (d.releaseLeg l).eeu = d.eeu := by
  unfold releaseLeg; (repeat' split) <;> simp

@[simp] theorem releaseLegs_frame (d : Device) :
    (d.releaseLegs).tbs = d.tbs ∧ (d.releaseLegs).bal = d.bal ∧ (d.releaseLegs).cfl = d.cfl ∧
    (d.releaseLegs).lcc = d.lcc ∧ (d.releaseLegs).mhu = d.mhu ∧ (d.releaseLegs).llc = d.llc ∧
    (d.releaseLegs).nsv = d.nsv ∧ (d.releaseLegs).upp = d.upp ∧ (d.releaseLegs).freeCount = d.freeCount ∧
    (d.releaseLegs).eeu = d.eeu := by
  unfold releaseLegs; simp [Leg.all]

@[simp] theorem restoreWalk_frame (r : HoldRecord) (d : Device) :
    (d.restoreWalk r).tbs = d.tbs ∧ (d.restoreWalk r).bal = d.bal ∧ (d.restoreWalk r).cfl = d.cfl ∧
    (d.restoreWalk r).lcc = d.lcc ∧ (d.restoreWalk r).mhu = d.mhu ∧ (d.restoreWalk r).llc = d.llc ∧
    (d.restoreWalk r).nsv = d.nsv ∧ (d.restoreWalk r).upp = d.upp ∧ (d.restoreWalk r).freeCount = d.freeCount ∧
    (d.restoreWalk r).eeu = d.eeu := by
  unfold restoreWalk; simp

@[simp] theorem freshStart_frame (d : Device) :
    (d.freshStart).tbs = d.tbs ∧ (d.freshStart).bal = d.bal ∧ (d.freshStart).cfl = d.cfl ∧
    (d.freshStart).lcc = d.lcc ∧ (d.freshStart).mhu = d.mhu ∧ (d.freshStart).llc = d.llc ∧
    (d.freshStart).nsv = d.nsv ∧ (d.freshStart).upp = d.upp ∧ (d.freshStart).freeCount = d.freeCount ∧
    (d.freshStart).eeu = d.eeu := by
  unfold freshStart; simp

@[simp] theorem leaveHold_frame (r : HoldRecord) (d : Device) :
    (d.leaveHold r).tbs = d.tbs ∧ (d.leaveHold r).bal = d.bal ∧ (d.leaveHold r).cfl = d.cfl ∧
    (d.leaveHold r).lcc = d.lcc ∧ (d.leaveHold r).llc = d.llc ∧ (d.leaveHold r).nsv = d.nsv ∧
    (d.leaveHold r).upp = d.upp ∧ (d.leaveHold r).freeCount = d.freeCount ∧
    (d.leaveHold r).eeu.resetting = d.eeu.resetting ∧ (d.leaveHold r).eeu.resetCause = d.eeu.resetCause := by
  unfold leaveHold; (repeat' split) <;> simp

@[simp] theorem popTouchDown_frame (h : Hold) (d : Device) :
    (d.popTouchDown h).tbs = d.tbs ∧ (d.popTouchDown h).bal = d.bal ∧ (d.popTouchDown h).cfl = d.cfl ∧
    (d.popTouchDown h).lcc = d.lcc ∧ (d.popTouchDown h).mhu = d.mhu ∧ (d.popTouchDown h).llc = d.llc ∧
    (d.popTouchDown h).nsv = d.nsv ∧ (d.popTouchDown h).upp = d.upp ∧ (d.popTouchDown h).freeCount = d.freeCount ∧
    (d.popTouchDown h).eeu = d.eeu := by
  unfold popTouchDown; (repeat' split) <;> simp

@[simp] theorem popRecord_frame (r : HoldRecord) (d : Device) :
    (d.popRecord r).tbs = d.tbs ∧ (d.popRecord r).bal = d.bal ∧ (d.popRecord r).cfl = d.cfl ∧
    (d.popRecord r).lcc = d.lcc ∧ (d.popRecord r).llc = d.llc ∧ (d.popRecord r).nsv = d.nsv ∧
    (d.popRecord r).upp = d.upp ∧ (d.popRecord r).freeCount = d.freeCount ∧
    (d.popRecord r).eeu.resetting = d.eeu.resetting ∧ (d.popRecord r).eeu.resetCause = d.eeu.resetCause := by
  unfold popRecord; dsimp only; (repeat' split) <;> simp

end Device

end Sys2Proof.Machine
end

