-- ==== Sys2Proof/Laws/Ops.lean ====
section
/-!
SUPPORT. What each shared operation does: the factor table, the leg records, the links, the node records, the hold
requests, the changes of mode and the port. The lemmas are cited in place of unfolding the operations.
-/

namespace Sys2Proof.Machine

/-! ## Factors -/

theorem Factor.bit_inj {f g : Factor} (h : f.bit = g.bit) : f = g := by
  revert h; cases f <;> cases g <;> decide

theorem Factor.bit_val_ne {f g : Factor} (h : g ≠ f) : f.bit.val ≠ g.bit.val :=
  fun e => h (Factor.bit_inj (Fin.ext e)).symm

namespace FactorTable

@[simp] theorem record_put_self (t : FactorTable) (f : Factor) (r : FactorRecord) : (t.put f r).record f = r := by
  simp [record, put, Vector.get_eq_getElem]

theorem record_put_ne (t : FactorTable) {f g : Factor} (r : FactorRecord) (h : g ≠ f) :
    (t.put f r).record g = t.record g := by
  simp [record, put, Vector.get_eq_getElem, Vector.getElem_set_ne, Factor.bit_val_ne h]

theorem record_put (t : FactorTable) (f g : Factor) (r : FactorRecord) :
    (t.put f r).record g = if g = f then r else t.record g := by
  split
  · next h => subst h; simp
  · next h => exact record_put_ne t r h

theorem record_clearList (p : Factor → Bool) (fs : List Factor) (t : FactorTable) (f : Factor) :
    FactorTable.record (fs.foldl (fun t f => if p f then FactorTable.put t f clearFactor else t) t) f
      = if f ∈ fs ∧ p f = true then clearFactor else t.record f := by
  induction fs generalizing t with
  | nil => simp
  | cons g gs ih =>
    rw [List.foldl_cons, ih]
    by_cases hg : p g = true <;> by_cases hf : f = g <;> by_cases hm : f ∈ gs <;> by_cases hp : p f = true <;>
      simp_all [record_put]

/-- What a clearing leaves of a factor. -/
theorem record_clearWhere (t : FactorTable) (p : Factor → Bool) (f : Factor) :
    (t.clearWhere p).record f = if p f then clearFactor else t.record f := by
  rw [clearWhere, record_clearList]; simp [Factor.mem_all]

theorem record_cleared (f : Factor) : FactorTable.record clearFactorTable f = clearFactor := by
  simp [record, clearFactorTable, Vector.get_eq_getElem]

end FactorTable

namespace Device

/-- A raising, seen at every factor (R163). -/
theorem raise_factor (f g : Factor) (d : Device) :
    (d.raise f).factor g = if g = f then ⟨true, saturate (d.factor f).count⟩ else d.factor g := by
  simp only [factor, raise_factors, FactorTable.raise, FactorTable.record_put]

@[simp] theorem raise_factor_self (f : Factor) (d : Device) :
    (d.raise f).factor f = ⟨true, saturate (d.factor f).count⟩ := by simp [raise_factor]

theorem raise_factor_ne {f g : Factor} (d : Device) (h : g ≠ f) : (d.raise f).factor g = d.factor g := by
  simp [raise_factor, h]

/-- A clearing, seen at every factor (R165). -/
theorem clearFactors_factor (p : Factor → Bool) (d : Device) (f : Factor) :
    (d.clearFactors p).factor f = if p f then clearFactor else d.factor f := by
  unfold clearFactors
  split <;> simp only [factor, refreshAlert_factors, FactorTable.record_clearWhere, zeroChatter_eeu]

/-- A clearing, seen at the filters: the chatter counts go with CHATTER. -/
theorem clearFactors_filter (p : Factor → Bool) (d : Device) (l : Leg) :
    (d.clearFactors p).cfl.get l
      = { d.cfl.get l with chatter := if p .chatter then 0 else (d.cfl.get l).chatter } := by
  unfold clearFactors
  split <;> simp_all [zeroChatter]

@[simp] theorem clearFactors_alert (p : Factor → Bool) (d : Device) :
    (d.clearFactors p).eeu.alert = (d.clearFactors p).alertDue := by
  unfold clearFactors; split <;> rfl

@[simp] theorem refreshAlert_alert (d : Device) : d.refreshAlert.eeu.alert = d.refreshAlert.alertDue := rfl

/-- The condition of ALERT depends on the factors, on the reset in progress and on the device config alone (R168). -/
theorem alertDue_congr {d e : Device} (hf : d.eeu.factors = e.eeu.factors) (hr : d.eeu.resetting = e.eeu.resetting)
    (hc : d.tbs.deviceConfig = e.tbs.deviceConfig) : d.alertDue = e.alertDue := by
  have ha : d.alerting = e.alerting := by
    funext f; unfold alerting factor; rw [hf, hc]
  unfold alertDue running; rw [hr, hc, ha]

/-- ALERT is due while the part runs with the alert enabled and some set factor is an error factor or enabled (R168). -/
theorem alertDue_iff (d : Device) : d.alertDue = true ↔ d.running = true ∧ d.tbs.deviceConfig.alertEnable = true
    ∧ ∃ g, (d.factor g).flag = true ∧ (g.isError = true ∨ d.tbs.deviceConfig.eventEnables.getLsbD g.bit = true) := by
  unfold alertDue
  simp only [Bool.and_eq_true, List.any_eq_true, alerting, Bool.or_eq_true, inSet, and_assoc]
  exact and_congr_right fun _ => and_congr_right fun _ =>
    ⟨fun ⟨g, _, h⟩ => ⟨g, h⟩, fun ⟨g, h⟩ => ⟨g, Factor.mem_all g, h⟩⟩

/-! ## Leg records -/

@[simp] theorem modLeg_leg_self (l : Leg) (f : LegRecord → LegRecord) (d : Device) :
    (d.modLeg l f).leg l = f (d.leg l) := by simp [leg, modLeg]

theorem modLeg_leg_ne {l m : Leg} (f : LegRecord → LegRecord) (d : Device) (h : m ≠ l) :
    (d.modLeg l f).leg m = d.leg m := by simp [leg, modLeg, PerLeg.get_modify_ne, h]

theorem modLeg_leg (l m : Leg) (f : LegRecord → LegRecord) (d : Device) :
    (d.modLeg l f).leg m = if m = l then f (d.leg l) else d.leg m := by
  split
  · next h => subst h; simp
  · next h => exact modLeg_leg_ne f d h

@[simp] theorem mapLegs_leg (f : Leg → LegRecord → LegRecord) (d : Device) (l : Leg) :
    (d.mapLegs f).leg l = f l (d.leg l) := by simp [leg, mapLegs]

@[simp] theorem setLatches_leg (d : Device) (l : Leg) :
    d.setLatches.leg l = { d.leg l with partnerLatch := true } := by simp [setLatches]

@[simp] theorem unsetLegs_leg (d : Device) (l : Leg) : d.unsetLegs.leg l = unsetLeg := by
  simp [leg]

@[simp] theorem raise_leg (f : Factor) (d : Device) (l : Leg) : (d.raise f).leg l = d.leg l := rfl

@[simp] theorem setMode_leg (m : Mode) (d : Device) (l : Leg) : (d.setMode m).leg l = d.leg l := rfl

@[simp] theorem raise_gaitRecord (f : Factor) (d : Device) : (d.raise f).gaitRecord = d.gaitRecord := rfl

@[simp] theorem raise_gaitLeg (f : Factor) (d : Device) (l : Leg) : (d.raise f).gaitLeg l = d.gaitLeg l := rfl

/-- A touchdown, seen at every leg record (R34). -/
theorem touchDown_leg (l m : Leg) (d : Device) :
    (d.touchDown l).leg m =
      if m = l then
        { d.leg m with state := .stance, partnerLatch := false, progress := none, landing := 0, clear := 0,
                       cleared := false, stanceBase := d.lastPose l }
      else if (d.gaitLeg m).partner.get l then { d.leg m with partnerLatch := true } else d.leg m := by
  simp [touchDown]

theorem touchDown_legState (l m : Leg) (d : Device) :
    (d.touchDown l).legState m = if m = l then .stance else d.legState m := by
  simp only [legState, touchDown_leg]; split <;> (try split) <;> rfl

/-! ## Links, nodes, lanes and filters -/

@[simp] theorem modLink_link_self (l : Leg) (f : LinkController → LinkController) (d : Device) :
    (d.modLink l f).link l = f (d.link l) := by simp [link, modLink]

theorem modLink_link_ne {l m : Leg} (f : LinkController → LinkController) (d : Device) (h : m ≠ l) :
    (d.modLink l f).link m = d.link m := by simp [link, modLink, PerLeg.get_modify_ne, h]

@[simp] theorem raise_link (f : Factor) (d : Device) (l : Leg) : (d.raise f).link l = d.link l := rfl

@[simp] theorem modNode_node_self (n : Node) (f : NodeRecord → NodeRecord) (d : Device) :
    (d.modNode n f).node n = f (d.node n) := by simp [node, modNode]

theorem modNode_node_ne {n m : Node} (f : NodeRecord → NodeRecord) (d : Device) (h : m ≠ n) :
    (d.modNode n f).node m = d.node m := by
  rcases n with ⟨l, x⟩; rcases m with ⟨l', x'⟩
  by_cases hl : l' = l
  · subst hl
    have hx : x' ≠ x := fun e => h (by rw [e])
    simp [node, modNode, PerSlot.get_modify_ne, hx]
  · simp [node, modNode, PerLeg.get_modify_ne, hl]

@[simp] theorem raise_node (f : Factor) (d : Device) (n : Node) : (d.raise f).node n = d.node n := rfl

@[simp] theorem modLane_lane_self (l : Leg) (f : Lane → Lane) (d : Device) :
    (d.modLane l f).lcc.lanes.get l = f (d.lcc.lanes.get l) := by simp [modLane]

theorem modLane_lane_ne {l m : Leg} (f : Lane → Lane) (d : Device) (h : m ≠ l) :
    (d.modLane l f).lcc.lanes.get m = d.lcc.lanes.get m := by simp [modLane, PerLeg.get_modify_ne, h]

@[simp] theorem modFilter_filter_self (l : Leg) (f : FilterRecord → FilterRecord) (d : Device) :
    (d.modFilter l f).cfl.get l = f (d.cfl.get l) := by simp [modFilter]

theorem modFilter_filter_ne {l m : Leg} (f : FilterRecord → FilterRecord) (d : Device) (h : m ≠ l) :
    (d.modFilter l f).cfl.get m = d.cfl.get m := by simp [modFilter, PerLeg.get_modify_ne, h]

/-! ## The sit demand and the push requests (R100, R105) -/

theorem sitDemand_of_down (d : Device) (h : d.mhu.mode = .unarmed ∨ d.mhu.mode = .safeSit) : d.sitDemand = d := by
  unfold sitDemand; rcases h with h | h <;> rw [h]

/-- A sit demand in STAND, WALK or HOLD (R100). -/
theorem sitDemand_of_up (d : Device) (h : d.mhu.mode = .stand ∨ d.mhu.mode = .walk ∨ d.mhu.mode = .hold) :
    d.sitDemand =
      (raise .modeChanged (unsetLegs { d with mhu := { d.mhu with
        mode := .safeSit, sit := some (if d.loweringComplete then .seated else .lowering), stack := [] } })) := by
  unfold sitDemand; rcases h with h | h | h <;> rw [h]

theorem judgePush_of_down (h : Hold) (d : Device) (hm : d.mhu.mode = .unarmed ∨ d.mhu.mode = .safeSit) :
    d.judgePush h = d := by unfold judgePush; rw [if_pos hm]

/-- A request for a hold that is on the stack pushes nothing (R105). -/
theorem judgePush_of_same (h : Hold) (d : Device) (hs : d.mhu.stack.any (fun r => r.hold = h) = true) :
    d.judgePush h = d := by
  unfold judgePush; rw [if_pos hs, ite_self]

/-- A request that finds the stack full (R105). -/
theorem judgePush_of_full (h : Hold) (d : Device) (hm : ¬ (d.mhu.mode = .unarmed ∨ d.mhu.mode = .safeSit))
    (hs : d.mhu.stack.any (fun r => r.hold = h) = false) (hf : 4 ≤ d.mhu.stack.length) :
    d.judgePush h = ((raise .holdOverflow { d with mhu := { d.mhu with stack := [] } })).sitDemand := by
  unfold judgePush; rw [if_neg hm, if_neg (by simp [hs]), if_pos (by simpa [Config.holdStackRoom] using hf)]

/-- A request that is honoured (R105). -/
theorem judgePush_of_room (h : Hold) (d : Device) (hm : ¬ (d.mhu.mode = .unarmed ∨ d.mhu.mode = .safeSit))
    (hs : d.mhu.stack.any (fun r => r.hold = h) = false) (hf : d.mhu.stack.length < 4) :
    d.judgePush h = d.pushRecord h := by
  unfold judgePush; rw [if_neg hm, if_neg (by simp [hs]), if_neg (by simp [Config.holdStackRoom]; omega)]

theorem pushRecord_stack (h : Hold) (d : Device) : (d.pushRecord h).mhu.stack = d.mhu.stack ++ [d.holdRecord h] := by
  unfold pushRecord; split <;> rfl

theorem pushRecord_mode (h : Hold) (d : Device) : (d.pushRecord h).mhu.mode = .hold := by
  unfold pushRecord; split
  · next hm => exact hm
  · rfl

theorem pushRecord_phase (h : Hold) (d : Device) : (d.pushRecord h).gpe.phase = d.gpe.phase := by
  unfold pushRecord; split <;> rfl

theorem pushRecord_waiting (h : Hold) (d : Device) : (d.pushRecord h).gpe.waiting = d.gpe.waiting := by
  unfold pushRecord; split <;> rfl

theorem pushRecord_current (h : Hold) (d : Device) : (d.pushRecord h).gpe.current = d.gpe.current := by
  unfold pushRecord; split <;> rfl

/-- The conversions of a push from STAND or WALK (R106); a push in HOLD converts none. -/
theorem pushRecord_leg (h : Hold) (d : Device) (l : Leg) :
    (d.pushRecord h).leg l = if d.mhu.mode = .hold then d.leg l else heldLeg h l (d.leg l) := by
  unfold pushRecord; split
  · rfl
  · simp [mapLegs_leg]; rfl

/-- What a request has raised and noted leaves the mode and the stack to its judgement. -/
theorem request_eq (q : PushRequest) (d : Device) :
    ∃ e : Device, d.request q = e.judgePush q.hold ∧ e.mhu.mode = d.mhu.mode ∧ e.mhu.stack = d.mhu.stack := by
  refine ⟨_, rfl, ?_, ?_⟩ <;> unfold noteSilence <;> split <;> cases q.factor <;> simp

/-- A request in STAND or WALK with no hold enters its hold. -/
theorem request_heldFor (q : PushRequest) (d : Device) : d.heldFor (d.request q) q.hold := by
  intro hm hs
  obtain ⟨e, he, hmode, hstack⟩ := request_eq q d
  have hup : ¬ (e.mhu.mode = .unarmed ∨ e.mhu.mode = .safeSit) := by rcases hm with h | h <;> simp [hmode, h]
  have hj := judgePush_of_room q.hold e hup (by simp [hstack, hs]) (by simp [hstack, hs])
  refine Or.inl ⟨?_, e.holdRecord q.hold, ?_, rfl⟩
  · rw [he, hj, pushRecord_mode]
  · rw [he, hj, pushRecord_stack, hstack, hs]; rfl

/-! ## Lifts outside WALK (R11, R26) -/

/-- Outside WALK no lift is asked for (R26). -/
theorem tryLift_of_not_walk (l : Leg) (d : Device) (h : d.mhu.mode ≠ .walk) : d.tryLift l = d := by
  unfold tryLift mayAskToLift; simp [h]

/-- A leg in STANCE judged at its lift point after a hold waits, and is not granted lift (R11, R26; log 14). -/
theorem judgeAtPoint_of_stance_held (l : Leg) (d : Device) (hl : d.legState l = .stance) (h : d.mhu.mode ≠ .walk) :
    d.judgeAtPoint l = d.enterLiftWait l := by
  unfold judgeAtPoint; rw [hl]; exact tryLift_of_not_walk l _ h

/-! ## The port (R155, R156) -/

theorem pump_of_busy (d : Device) (h : d.upp.sending ≠ none) : d.pump = d := by
  unfold pump; split
  · rfl
  · next e => exact absurd e h

theorem pump_of_status (d : Device) (body : List Byte) (h : d.upp.sending = none) (hs : d.upp.statusSlot = some body) :
    d.pump = d.withPort { d.upp with sending := some (.status body), statusSlot := none } := by
  unfold pump; rw [h, hs]; rfl

theorem pump_of_reply (d : Device) (reply : List Byte) (more : List (List Byte)) (h : d.upp.sending = none)
    (hs : d.upp.statusSlot = none) (hq : d.upp.replyQueue = reply :: more) :
    d.pump = d.withPort { d.upp with sending := some (.reply reply), replyQueue := more } := by
  unfold pump; rw [h, hs, hq]; rfl

theorem pump_of_empty (d : Device) (h : d.upp.sending = none) (hs : d.upp.statusSlot = none)
    (hq : d.upp.replyQueue = []) : d.pump = d := by
  unfold pump; rw [h, hs, hq]

/-- What pump makes of a port does not depend on the rest of the device. -/
theorem pump_withPort (d e : Device) (u : UpstreamPort) : (d.withPort u).pump.upp = (e.withPort u).pump.upp := by
  unfold pump withPort; dsimp only; split
  · rfl
  · split
    · rfl
    · split <;> rfl

theorem pump_eq_withPort (d : Device) : d.pump = d.withPort d.pump.upp := by
  unfold pump; (repeat' split) <;> rfl

/-- A reply joins the queue and an idle transmitter begins: only the port changes, as its own contents say. -/
theorem enqueue_pump (kind tag : Byte) (a : Answer) (d e : Device) (h : e.upp = d.upp) :
    (enqueue (replyBody kind tag a) e).pump = e.withPort (d.portReplied kind tag a) := by
  have h1 : enqueue (replyBody kind tag a) e
      = e.withPort { d.upp with replyQueue := d.upp.replyQueue ++ [replyBody kind tag a] } := by
    simp [enqueue, withPort, h]
  have h2 : enqueue (replyBody kind tag a) d
      = d.withPort { d.upp with replyQueue := d.upp.replyQueue ++ [replyBody kind tag a] } := rfl
  rw [pump_eq_withPort, h1, portReplied, h2, pump_withPort _ d]
  rfl

/-- A request that is executed and leaves the port alone is answered in the port (R155, R156). -/
theorem manage_of_ready (kind tag : Byte) (act : Device → Answer × Device) (d : Device) (h : d.ready = true)
    (hu : (act d).2.upp = d.upp) :
    manage kind tag act d = (act d).2.withPort (d.portReplied kind tag (act d).1) := by
  have h' : d.upp.restartPending = false ∧ d.upp.replyQueue.length < 2 := by
    simp [ready] at h; exact ⟨h.1.2, by omega⟩
  unfold manage
  rw [if_neg (by simp [h'.1]), if_neg (by simp [Config.replyQueueRoom]; omega)]
  exact enqueue_pump kind tag (act d).1 d (act d).2 hu

/-- A request that is executed and changes nothing but its reply. -/
theorem manage_of_same (kind tag : Byte) (act : Device → Answer × Device) (d : Device) (h : d.ready = true)
    (hd : (act d).2 = d) : manage kind tag act d = d.withPort (d.portReplied kind tag (act d).1) := by
  rw [manage_of_ready kind tag act d h (by rw [hd]), hd]

end Device

/-- A request taken when the part is ready, at the machine. -/
theorem State.manage_of_ready (s : State) (kind tag : Byte) (act : Device → Answer × Device)
    (h : s.dev.ready = true) (hu : (act s.dev).2.upp = s.dev.upp) :
    s.manage kind tag act
      = .next (s.withDev ((act s.dev).2.withPort (s.dev.portReplied kind tag (act s.dev).1))) := by
  have hr : s.dev.running = true := by simp [Device.ready] at h; exact h.1.1
  unfold State.manage State.whenRunning State.onDevice
  rw [if_pos hr, Device.manage_of_ready kind tag act s.dev h hu]; rfl

/-- A request taken when the part is ready that changes nothing but its reply. -/
theorem State.manage_of_same (s : State) (kind tag : Byte) (act : Device → Answer × Device)
    (h : s.dev.ready = true) (hd : (act s.dev).2 = s.dev) :
    s.manage kind tag act = .next (s.replied kind tag (act s.dev).1) := by
  rw [State.manage_of_ready s kind tag act h (by rw [hd]), hd]; rfl

/-- An event of the part's own timing that the state allows. -/
theorem State.whenPossible_of (s : State) (f : Device → Device) (p : Bool) (hr : s.dev.running = true) (hp : p = true) :
    s.whenPossible p f = .next (s.withDev (f s.dev)) := by
  unfold State.whenPossible State.whenRunning State.onDevice; simp [hr, hp]; rfl

/-- While a reset is in progress an event of the part's own timing does nothing. -/
theorem State.whenPossible_of_reset (s : State) (f : Device → Device) (p : Bool) (hr : s.dev.running = false) :
    s.whenPossible p f = .next s := by
  unfold State.whenPossible State.whenRunning; simp [hr]

end Sys2Proof.Machine
end

