-- ==== Sys2Proof/Laws/Bytes.lean ====
section
/-!
SUPPORT. The lengths of what the part writes as bytes, and the bytes a two-byte field is read back from.
-/

namespace Sys2Proof.Machine

@[simp] theorem byte1_length (x : Nat) : (byte1 x).length = 1 := rfl
@[simp] theorem flagByte_length (b : Bool) : (flagByte b).length = 1 := rfl
@[simp] theorem bytes16_length (x : Nat) : (bytes16 x).length = 2 := rfl
@[simp] theorem bytes16s_length (x : Int) : (bytes16s x).length = 2 := rfl
@[simp] theorem bytes32_length (x : BitVec 32) : (bytes32 x).length = 4 := rfl
@[simp] theorem byteOrAbsent_length (x : Option Nat) : (byteOrAbsent x).length = 1 := rfl
@[simp] theorem bytes16OrAbsent_length (x : Option Nat) : (bytes16OrAbsent x).length = 2 := rfl
@[simp] theorem signedOrAbsent_length (x : Option Int) : (signedOrAbsent x).length = 2 := rfl
@[simp] theorem faultByte_length (s : FaultSet) : (faultByte s).length = 1 := rfl
@[simp] theorem legMaskByte_length (m : LegSet) : (legMaskByte m).length = 1 := rfl
@[simp] theorem poseBytes_length (p : Pose) : (poseBytes p).length = 6 := rfl
@[simp] theorem crcBytes_length (c : Word16) : (crcBytes c).length = 2 := rfl

theorem flatMap_length {α β : Type} (f : α → List β) (k : Nat) (h : ∀ x, (f x).length = k) (xs : List α) :
    (xs.flatMap f).length = xs.length * k := by
  induction xs with
  | nil => simp
  | cons x xs ih => simp only [List.flatMap_cons, List.length_append, ih, h, List.length_cons]; ring

@[simp] theorem Leg.flatMap_length {β : Type} (f : Leg → List β) (k : Nat) (h : ∀ x, (f x).length = k) :
    (Leg.all.flatMap f).length = 4 * k := Machine.flatMap_length f k h _

@[simp] theorem Joint.flatMap_length {β : Type} (f : Joint → List β) (k : Nat) (h : ∀ x, (f x).length = k) :
    (Joint.all.flatMap f).length = 12 * k := Machine.flatMap_length f k h _

@[simp] theorem entryBytes_length (e : Entry) : (entryBytes e).length = 5 := by
  rcases e with ⟨_ | _, _, _⟩ <;> rfl

@[simp] theorem gaitLegBytes_length (g : GaitLeg) : (gaitLegBytes g).length = 12 := rfl

@[simp] theorem gaitBytes_length (r : GaitRecord) : (gaitBytes r).length = 58 := rfl

@[simp] theorem jointBytes_length (r : JointRecord) : (jointBytes r).length = 18 := rfl

@[simp] theorem poseRecordBytes_length (p : PoseRecord) : (poseRecordBytes p).length = 24 := rfl

@[simp] theorem linkConfigBytes_length (c : LinkConfig) : (linkConfigBytes c).length = 6 := rfl

@[simp] theorem deviceConfigBytes_length (c : DeviceConfig) : (deviceConfigBytes c).length = 30 := by
  unfold deviceConfigBytes
  simp only [List.length_append]
  rfl

/-- A frame that was given its CRC passes the check (R119). -/
@[simp] theorem crcHolds_withCrc (poly initial : Word16) (bs : List Byte) :
    crcHolds poly initial (withCrc poly initial bs) = true := by
  have h : (bs ++ crcBytes (crc16 poly initial bs)).length - 2 = bs.length := by simp
  unfold crcHolds withCrc
  rw [h, List.drop_left, List.take_left]
  simp

/-- A command frame has 18 bytes (R178). -/
@[simp] theorem commandBytes_length (settings : LinkConfig) (l : Leg) (c : LimbCommand) :
    (commandBytes settings l c).length = 18 := by
  unfold commandBytes withCrc
  simp only [List.length_append, entryBytes_length]
  rfl

@[simp] theorem charBits_length (b : Byte) : (charBits b).length = 10 := rfl

/-- A transaction sends 194 bits: the break and eighteen characters. -/
@[simp] theorem transmissionBits_length (settings : LinkConfig) (l : Leg) (c : LimbCommand) :
    (transmissionBits settings l c).length = 194 := by
  simp only [transmissionBits, List.length_append, flatMap_length charBits 10 charBits_length, commandBytes_length]
  rfl

/-- The body of a status frame has 81 bytes (R174). -/
@[simp] theorem statusBody_length (cause : CycleCause) (d : Device) : (d.statusBody cause).length = 81 := by
  have h1 := Leg.flatMap_length (fun l => byte1 (d.legState l).code) 1 fun _ => rfl
  have h2 := Leg.flatMap_length (fun l => bytes16OrAbsent (d.reportedProgress l)) 2 fun _ => rfl
  have h3 := Leg.flatMap_length (fun l => bytes16s (d.bal.prospective.get l)) 2 fun _ => rfl
  have h4 := Joint.flatMap_length (fun j => signedOrAbsent (d.jointState j).reported) 2 fun _ => signedOrAbsent_length _
  have h5 := Leg.flatMap_length (fun l => byte1 (d.contact l).code) 1 fun _ => rfl
  have h6 := Leg.flatMap_length (fun l => bytes16 (d.cfl.get l).lastLoad) 2 fun _ => rfl
  unfold Device.statusBody
  simp only [List.length_append]
  rw [h1, h2, h3, h4, h5, h6]
  rfl

/-- The head of a status frame: its cause and the tag of the last accepted frame. -/
theorem statusBody_take (cause : CycleCause) (d : Device) :
    (d.statusBody cause).take 2
      = [BitVec.ofNat 8 cause.code, BitVec.ofNat 8 ((d.upp.lastTag.map BitVec.toNat).getD 0xFF)] := by
  have h (a : Nat) (b : Option Nat) (rest : List Byte) :
      (byte1 a ++ (byteOrAbsent b ++ rest)).take 2 = [BitVec.ofNat 8 a, BitVec.ofNat 8 (b.getD 0xFF)] := rfl
  unfold Device.statusBody
  simp only [List.append_assoc]
  exact h _ _ _

end Sys2Proof.Machine
end

