-- ==== Sys2Proof/Laws/Kept.lean ====
section
/-!
SUPPORT. What the operations that reach a block leave of it: the walk flag and the count of frames since silence in
the Mode and Hold Unit, the current gait in the engine, the body state in the Balance Unit, the segments and errors in
the composer.
-/

namespace Sys2Proof.Machine

namespace Device

@[simp] theorem sitDemand_keeps (d : Device) :
    (d.sitDemand).mhu.walkFlag = d.mhu.walkFlag ∧ (d.sitDemand).mhu.framesSinceSilence = d.mhu.framesSinceSilence ∧
    (d.sitDemand).gpe.current = d.gpe.current := by
  unfold sitDemand; (repeat' split) <;> simp

@[simp] theorem pushRecord_keeps (h : Hold) (d : Device) :
    (d.pushRecord h).mhu.walkFlag = d.mhu.walkFlag ∧
    (d.pushRecord h).mhu.framesSinceSilence = d.mhu.framesSinceSilence ∧
    (d.pushRecord h).gpe.current = d.gpe.current := by
  unfold pushRecord; (repeat' split) <;> simp

@[simp] theorem judgePush_keeps (h : Hold) (d : Device) :
    (d.judgePush h).mhu.walkFlag = d.mhu.walkFlag ∧
    (d.judgePush h).mhu.framesSinceSilence = d.mhu.framesSinceSilence ∧ (d.judgePush h).gpe.current = d.gpe.current := by
  unfold judgePush; (repeat' split) <;> simp

@[simp] theorem noteSilence_keeps (q : PushRequest) (d : Device) :
    (d.noteSilence q).mhu.walkFlag = d.mhu.walkFlag := by
  unfold noteSilence; (repeat' split) <;> simp

@[simp] theorem request_keeps (q : PushRequest) (d : Device) :
    (d.request q).mhu.walkFlag = d.mhu.walkFlag ∧ (d.request q).gpe.current = d.gpe.current := by
  unfold request; (repeat' split) <;> simp

theorem request_frames (q : PushRequest) (d : Device) (h : q ≠ .linkSilent) :
    (d.request q).mhu.framesSinceSilence = d.mhu.framesSinceSilence := by
  unfold request noteSilence; rw [if_neg h]; split <;> simp

@[simp] theorem request_frames_margin (d : Device) :
    (d.request .margin).mhu.framesSinceSilence = d.mhu.framesSinceSilence := request_frames _ d (by simp)
@[simp] theorem request_frames_noGround (l : Leg) (d : Device) :
    (d.request (.noGround l)).mhu.framesSinceSilence = d.mhu.framesSinceSilence := request_frames _ d (by simp)
@[simp] theorem request_frames_snag (l : Leg) (d : Device) :
    (d.request (.snag l)).mhu.framesSinceSilence = d.mhu.framesSinceSilence := request_frames _ d (by simp)
@[simp] theorem request_frames_slip (l : Leg) (d : Device) :
    (d.request (.slip l)).mhu.framesSinceSilence = d.mhu.framesSinceSilence := request_frames _ d (by simp)
@[simp] theorem request_frames_node (n : Node) (why : NodeReason) (d : Device) :
    (d.request (.node n why)).mhu.framesSinceSilence = d.mhu.framesSinceSilence := request_frames _ d (by simp)

@[simp] theorem requestAll_keeps (qs : List PushRequest) (d : Device) :
    (d.requestAll qs).mhu.walkFlag = d.mhu.walkFlag ∧ (d.requestAll qs).gpe.current = d.gpe.current := by
  unfold requestAll; induction qs generalizing d <;> simp [*]

theorem limitRequestAll_frames (js : List Joint) (d : Device) :
    (d.requestAll (js.map .limit)).mhu.framesSinceSilence = d.mhu.framesSinceSilence := by
  unfold requestAll
  induction js generalizing d with
  | nil => rfl
  | cons j js ih => simp only [List.map_cons, List.foldl_cons, ih]; exact request_frames _ d (by simp)

@[simp] theorem refuseGait_keeps (d : Device) :
    (d.refuseGait).gpe.current = d.gpe.current := by
  unfold refuseGait; simp

@[simp] theorem enterStand_keeps (d : Device) :
    (d.enterStand).mhu.walkFlag = d.mhu.walkFlag ∧ (d.enterStand).mhu.framesSinceSilence = d.mhu.framesSinceSilence := by
  unfold enterStand; dsimp only; (repeat' split) <;> simp

@[simp] theorem completeStop_keeps (d : Device) :
    (d.completeStop).mhu.walkFlag = d.mhu.walkFlag ∧
    (d.completeStop).mhu.framesSinceSilence = d.mhu.framesSinceSilence := by
  unfold completeStop; (repeat' split) <;> simp

@[simp] theorem computeMargins_keeps (d : Device) :
    (d.computeMargins).bal.body = d.bal.body ∧ (d.computeMargins).bal.freshness = d.bal.freshness ∧
    (d.computeMargins).bal.age = d.bal.age := by
  unfold computeMargins; simp

@[simp] theorem braceCheck_keeps (d : Device) :
    (d.braceCheck).mhu.walkFlag = d.mhu.walkFlag ∧
    (d.braceCheck).mhu.framesSinceSilence = d.mhu.framesSinceSilence ∧ (d.braceCheck).gpe.current = d.gpe.current := by
  unfold braceCheck; (repeat' split) <;> simp

@[simp] theorem driveReaction_keeps (n : Node) (why : NodeReason) (d : Device) :
    (d.driveReaction n why).mhu.walkFlag = d.mhu.walkFlag ∧
    (d.driveReaction n why).mhu.framesSinceSilence = d.mhu.framesSinceSilence ∧
    (d.driveReaction n why).gpe.current = d.gpe.current := by
  unfold driveReaction; (repeat' split) <;> simp

@[simp] theorem footReaction_keeps (l : Leg) (why : NodeReason) (d : Device) :
    (d.footReaction l why).mhu.walkFlag = d.mhu.walkFlag ∧
    (d.footReaction l why).mhu.framesSinceSilence = d.mhu.framesSinceSilence ∧
    (d.footReaction l why).gpe.current = d.gpe.current := by
  unfold footReaction; (repeat' split) <;> simp

@[simp] theorem footEntryJudgement_keeps (l : Leg) (d : Device) :
    (d.footEntryJudgement l).mhu.walkFlag = d.mhu.walkFlag ∧
    (d.footEntryJudgement l).mhu.framesSinceSilence = d.mhu.framesSinceSilence ∧
    (d.footEntryJudgement l).gpe.current = d.gpe.current := by
  unfold footEntryJudgement; (repeat' split) <;> simp

@[simp] theorem countWait_keeps (l : Leg) (d : Device) :
    (d.countWait l).gpe.current = d.gpe.current := by
  unfold countWait; simp

@[simp] theorem countClear_keeps (l : Leg) (d : Device) :
    (d.countClear l).mhu.walkFlag = d.mhu.walkFlag ∧
    (d.countClear l).mhu.framesSinceSilence = d.mhu.framesSinceSilence ∧
    (d.countClear l).gpe.current = d.gpe.current := by
  unfold countClear; dsimp only; (repeat' split) <;> simp

@[simp] theorem countLanding_keeps (l : Leg) (d : Device) :
    (d.countLanding l).mhu.walkFlag = d.mhu.walkFlag ∧
    (d.countLanding l).mhu.framesSinceSilence = d.mhu.framesSinceSilence ∧
    (d.countLanding l).gpe.current = d.gpe.current := by
  unfold countLanding; dsimp only; (repeat' split) <;> simp

@[simp] theorem judgeSetDown_keeps (l : Leg) (d : Device) :
    (d.judgeSetDown l).gpe.current = d.gpe.current := by
  unfold judgeSetDown; (repeat' split) <;> simp

@[simp] theorem updateCounter_keeps (l : Leg) (d : Device) :
    (d.updateCounter l).mhu.walkFlag = d.mhu.walkFlag ∧
    (d.updateCounter l).mhu.framesSinceSilence = d.mhu.framesSinceSilence ∧
    (d.updateCounter l).gpe.current = d.gpe.current := by
  unfold updateCounter; (repeat' split) <;> simp

@[simp] theorem updateCounters_keeps (d : Device) :
    (d.updateCounters).mhu.walkFlag = d.mhu.walkFlag ∧
    (d.updateCounters).mhu.framesSinceSilence = d.mhu.framesSinceSilence ∧
    (d.updateCounters).gpe.current = d.gpe.current := by
  unfold updateCounters; simp [Leg.all]

@[simp] theorem grantLift_keeps (l : Leg) (d : Device) :
    (d.grantLift l).mhu.walkFlag = d.mhu.walkFlag ∧
    (d.grantLift l).mhu.framesSinceSilence = d.mhu.framesSinceSilence ∧ (d.grantLift l).gpe.current = d.gpe.current := by
  unfold grantLift; simp

@[simp] theorem tryLift_keeps (l : Leg) (d : Device) :
    (d.tryLift l).mhu.walkFlag = d.mhu.walkFlag ∧ (d.tryLift l).mhu.framesSinceSilence = d.mhu.framesSinceSilence ∧
    (d.tryLift l).gpe.current = d.gpe.current := by
  unfold tryLift; (repeat' split) <;> simp

@[simp] theorem liftPointsUnderfoot_keeps (d : Device) :
    (d.liftPointsUnderfoot).gpe.current = d.gpe.current := by
  unfold liftPointsUnderfoot; (repeat' split) <;> simp

@[simp] theorem returnWaiting_keeps (d : Device) :
    (d.returnWaiting).gpe.current = d.gpe.current := by
  unfold returnWaiting; simp

@[simp] theorem tryLifts_keeps (d : Device) :
    ((Leg.all.foldl (fun d l => d.tryLift l) d)).mhu.walkFlag = d.mhu.walkFlag ∧
    ((Leg.all.foldl (fun d l => d.tryLift l) d)).mhu.framesSinceSilence = d.mhu.framesSinceSilence ∧
    ((Leg.all.foldl (fun d l => d.tryLift l) d)).gpe.current = d.gpe.current := by
  simp [Leg.all]

@[simp] theorem stagePermission_keeps (d : Device) :
    (d.stagePermission).mhu.walkFlag = d.mhu.walkFlag ∧
    (d.stagePermission).mhu.framesSinceSilence = d.mhu.framesSinceSilence := by
  unfold stagePermission; (repeat' split) <;> simp

@[simp] theorem advanceBy_keeps (k : Nat) (d : Device) :
    (d.advanceBy k).gpe.current = d.gpe.current := by
  simp [advanceBy]

@[simp] theorem enterLanding_keeps (l : Leg) (d : Device) :
    (d.enterLanding l).mhu.walkFlag = d.mhu.walkFlag ∧
    (d.enterLanding l).mhu.framesSinceSilence = d.mhu.framesSinceSilence ∧
    (d.enterLanding l).gpe.current = d.gpe.current := by
  unfold enterLanding; simp

@[simp] theorem judgeAtPoint_keeps (l : Leg) (d : Device) :
    (d.judgeAtPoint l).mhu.walkFlag = d.mhu.walkFlag ∧
    (d.judgeAtPoint l).mhu.framesSinceSilence = d.mhu.framesSinceSilence ∧
    (d.judgeAtPoint l).gpe.current = d.gpe.current := by
  unfold judgeAtPoint; (repeat' split) <;> simp

@[simp] theorem judgeAtPoints_keeps (ls : List Leg) (d : Device) :
    ((ls.foldl (fun d l => d.judgeAtPoint l) d)).mhu.walkFlag = d.mhu.walkFlag ∧
    ((ls.foldl (fun d l => d.judgeAtPoint l) d)).mhu.framesSinceSilence = d.mhu.framesSinceSilence ∧
    ((ls.foldl (fun d l => d.judgeAtPoint l) d)).gpe.current = d.gpe.current := by
  induction ls generalizing d <;> simp [*]

@[simp] theorem stageAdvance_keeps (step : Nat) (d : Device) :
    (d.stageAdvance step).mhu.walkFlag = d.mhu.walkFlag ∧
    (d.stageAdvance step).mhu.framesSinceSilence = d.mhu.framesSinceSilence := by
  unfold stageAdvance; simp

@[simp] theorem phaseStep_keeps (step : Nat) (d : Device) :
    (d.phaseStep step).mhu.walkFlag = d.mhu.walkFlag ∧
    (d.phaseStep step).mhu.framesSinceSilence = d.mhu.framesSinceSilence := by
  unfold phaseStep; dsimp only; (repeat' split) <;> simp

@[simp] theorem stepInWalk_keeps (step : Nat) (d : Device) :
    (d.stepInWalk step).mhu.walkFlag = d.mhu.walkFlag ∧
    (d.stepInWalk step).mhu.framesSinceSilence = d.mhu.framesSinceSilence := by
  unfold stepInWalk; (repeat' split) <;> simp

@[simp] theorem takeWalkFlag_keeps (w : Bool) (d : Device) :
    (d.takeWalkFlag w).mhu.framesSinceSilence = d.mhu.framesSinceSilence ∧
    (d.takeWalkFlag w).gpe.current = d.gpe.current := by
  unfold takeWalkFlag; dsimp only; (repeat' split) <;> simp

@[simp] theorem swingContact_keeps (l : Leg) (c : Contact) (d : Device) :
    (d.swingContact l c).gpe.current = d.gpe.current := by
  unfold swingContact; (repeat' split) <;> simp

@[simp] theorem contactChange_keeps (l : Leg) (c : Contact) (d : Device) :
    (d.contactChange l c).mhu.walkFlag = d.mhu.walkFlag ∧
    (d.contactChange l c).mhu.framesSinceSilence = d.mhu.framesSinceSilence := by
  unfold contactChange; (repeat' split) <;> simp

@[simp] theorem formContact_keeps (l : Leg) (c : Contact) (d : Device) :
    (d.formContact l c).mhu.walkFlag = d.mhu.walkFlag ∧
    (d.formContact l c).mhu.framesSinceSilence = d.mhu.framesSinceSilence := by
  unfold formContact; (repeat' split) <;> simp

@[simp] theorem judgeSlip_keeps (l : Leg) (d : Device) :
    (d.judgeSlip l).mhu.walkFlag = d.mhu.walkFlag ∧
    (d.judgeSlip l).mhu.framesSinceSilence = d.mhu.framesSinceSilence := by
  unfold judgeSlip; dsimp only; (repeat' split) <;> simp

@[simp] theorem filterReply_keeps (l : Leg) (reply : FootReply) (d : Device) :
    (d.filterReply l reply).mhu.walkFlag = d.mhu.walkFlag ∧
    (d.filterReply l reply).mhu.framesSinceSilence = d.mhu.framesSinceSilence := by
  unfold filterReply; (repeat' split) <;> simp

@[simp] theorem loseFoot_keeps (l : Leg) (d : Device) :
    (d.loseFoot l).mhu.walkFlag = d.mhu.walkFlag ∧ (d.loseFoot l).mhu.framesSinceSilence = d.mhu.framesSinceSilence := by
  unfold loseFoot; simp

@[simp] theorem supplyAction_keeps (a : SupplyAction) (d : Device) :
    (d.supplyAction a).mhu.walkFlag = d.mhu.walkFlag ∧
    (d.supplyAction a).mhu.framesSinceSilence = d.mhu.framesSinceSilence ∧
    (d.supplyAction a).gpe.current = d.gpe.current := by
  unfold supplyAction; (repeat' split) <;> simp

@[simp] theorem judgeLevel1_keeps (d : Device) :
    (d.judgeLevel1).mhu.walkFlag = d.mhu.walkFlag ∧
    (d.judgeLevel1).mhu.framesSinceSilence = d.mhu.framesSinceSilence ∧ (d.judgeLevel1).gpe.current = d.gpe.current := by
  unfold judgeLevel1; dsimp only; (repeat' split) <;> simp

@[simp] theorem judgeLevel2_keeps (d : Device) :
    (d.judgeLevel2).mhu.walkFlag = d.mhu.walkFlag ∧
    (d.judgeLevel2).mhu.framesSinceSilence = d.mhu.framesSinceSilence ∧ (d.judgeLevel2).gpe.current = d.gpe.current := by
  unfold judgeLevel2; dsimp only; (repeat' split) <;> simp

@[simp] theorem formEstimate_keeps (d : Device) :
    (d.formEstimate).mhu.walkFlag = d.mhu.walkFlag ∧
    (d.formEstimate).mhu.framesSinceSilence = d.mhu.framesSinceSilence ∧
    (d.formEstimate).gpe.current = d.gpe.current := by
  unfold formEstimate; simp

@[simp] theorem reactToDrive_keeps (n : Node) (s : FaultSet) (d : Device) :
    (d.reactToDrive n s).mhu.walkFlag = d.mhu.walkFlag ∧
    (d.reactToDrive n s).mhu.framesSinceSilence = d.mhu.framesSinceSilence ∧
    (d.reactToDrive n s).gpe.current = d.gpe.current := by
  unfold reactToDrive; dsimp only; (repeat' split) <;> simp

@[simp] theorem superviseDrive_keeps (j : Joint) (r : DriveReply) (d : Device) :
    (d.superviseDrive j r).mhu.walkFlag = d.mhu.walkFlag ∧
    (d.superviseDrive j r).mhu.framesSinceSilence = d.mhu.framesSinceSilence ∧
    (d.superviseDrive j r).gpe.current = d.gpe.current := by
  unfold superviseDrive; simp

@[simp] theorem superviseFoot_keeps (l : Leg) (r : FootReply) (d : Device) :
    (d.superviseFoot l r).mhu.walkFlag = d.mhu.walkFlag ∧
    (d.superviseFoot l r).mhu.framesSinceSilence = d.mhu.framesSinceSilence ∧
    (d.superviseFoot l r).gpe.current = d.gpe.current := by
  unfold superviseFoot; dsimp only; (repeat' split) <;> simp

@[simp] theorem loseNode_keeps (n : Node) (d : Device) :
    (d.loseNode n).mhu.walkFlag = d.mhu.walkFlag ∧ (d.loseNode n).mhu.framesSinceSilence = d.mhu.framesSinceSilence := by
  unfold loseNode; dsimp only; (repeat' split) <;> simp

@[simp] theorem missedOutcome_keeps (n : Node) (d : Device) :
    (d.missedOutcome n).mhu.walkFlag = d.mhu.walkFlag ∧
    (d.missedOutcome n).mhu.framesSinceSilence = d.mhu.framesSinceSilence := by
  unfold missedOutcome; (repeat' split) <;> simp

@[simp] theorem judgeLowering_keeps (d : Device) :
    (d.judgeLowering).mhu.walkFlag = d.mhu.walkFlag ∧
    (d.judgeLowering).mhu.framesSinceSilence = d.mhu.framesSinceSilence := by
  unfold judgeLowering; (repeat' split) <;> simp

@[simp] theorem commandDelivered_keeps (l : Leg) (c : LimbCommand) (d : Device) :
    (d.commandDelivered l c).mhu.walkFlag = d.mhu.walkFlag ∧
    (d.commandDelivered l c).mhu.framesSinceSilence = d.mhu.framesSinceSilence := by
  unfold commandDelivered; simp

@[simp] theorem transactionEnded_keeps (l : Leg) (d : Device) :
    (d.transactionEnded l).mhu.walkFlag = d.mhu.walkFlag ∧
    (d.transactionEnded l).mhu.framesSinceSilence = d.mhu.framesSinceSilence ∧
    (d.transactionEnded l).gpe.current = d.gpe.current := by
  unfold transactionEnded; simp

@[simp] theorem frameAbandoned_keeps (l : Leg) (d : Device) :
    (d.frameAbandoned l).mhu.walkFlag = d.mhu.walkFlag ∧
    (d.frameAbandoned l).mhu.framesSinceSilence = d.mhu.framesSinceSilence ∧
    (d.frameAbandoned l).gpe.current = d.gpe.current := by
  unfold frameAbandoned; simp

@[simp] theorem handOn_keeps (l : Leg) (s : Slot) (j : SlotJudgement) (bs : List Byte) (d : Device) :
    (d.handOn l s j bs).mhu.walkFlag = d.mhu.walkFlag ∧
    (d.handOn l s j bs).mhu.framesSinceSilence = d.mhu.framesSinceSilence := by
  unfold handOn; (repeat' split) <;> simp

@[simp] theorem closeSlot_keeps (l : Leg) (s : Slot) (tl : Carried) (d : Device) :
    (d.closeSlot l s tl).mhu.walkFlag = d.mhu.walkFlag ∧
    (d.closeSlot l s tl).mhu.framesSinceSilence = d.mhu.framesSinceSilence := by
  unfold closeSlot; (repeat' split) <;> simp

@[simp] theorem endSlot_keeps (l : Leg) (s : Slot) (cs : List RxChar) (tl : Carried) (d : Device) :
    (d.endSlot l s cs tl).mhu.walkFlag = d.mhu.walkFlag ∧
    (d.endSlot l s cs tl).mhu.framesSinceSilence = d.mhu.framesSinceSilence := by
  unfold endSlot; simp

@[simp] theorem releaseLeg_keeps (l : Leg) (d : Device) :
    (d.releaseLeg l).gpe.current = d.gpe.current := by
  unfold releaseLeg; (repeat' split) <;> simp

@[simp] theorem releaseLegs_keeps (d : Device) :
    (d.releaseLegs).gpe.current = d.gpe.current := by
  unfold releaseLegs; simp [Leg.all]

@[simp] theorem restoreWalk_keeps (r : HoldRecord) (d : Device) :
    (d.restoreWalk r).gpe.current = d.gpe.current := by
  unfold restoreWalk; simp

@[simp] theorem freshStart_keeps (d : Device) :
    (d.freshStart).gpe.current = d.gpe.current := by
  unfold freshStart; simp

@[simp] theorem leaveHold_keeps (r : HoldRecord) (d : Device) :
    (d.leaveHold r).mhu.walkFlag = d.mhu.walkFlag ∧
    (d.leaveHold r).mhu.framesSinceSilence = d.mhu.framesSinceSilence := by
  unfold leaveHold; (repeat' split) <;> simp

@[simp] theorem popTouchDown_keeps (h : Hold) (d : Device) :
    (d.popTouchDown h).gpe.current = d.gpe.current := by
  unfold popTouchDown; (repeat' split) <;> simp

@[simp] theorem popRecord_keeps (r : HoldRecord) (d : Device) :
    (d.popRecord r).mhu.walkFlag = d.mhu.walkFlag ∧
    (d.popRecord r).mhu.framesSinceSilence = d.mhu.framesSinceSilence := by
  unfold popRecord; dsimp only; (repeat' split) <;> simp

/-! ## The composition and the end of a cycle -/

@[simp] theorem compose_keeps (d : Device) :
    d.compose.mhu.walkFlag = d.mhu.walkFlag ∧ d.compose.mhu.framesSinceSilence = d.mhu.framesSinceSilence ∧
    d.compose.gpe.current = d.gpe.current ∧ d.compose.lcc.errors = d.lcc.errors := by
  unfold compose limitRequests; simp [limitRequestAll_frames]; rfl

@[simp] theorem compose_segment (d : Device) (l : Leg) :
    (d.compose.lcc.lanes.get l).segment = (d.lcc.lanes.get l).segment := by
  unfold compose; simp [recordUnclamped]

@[simp] theorem finishCycle_keeps (cause : CycleCause) (d : Device) :
    (d.finishCycle cause).mhu.walkFlag = d.mhu.walkFlag ∧
    (d.finishCycle cause).mhu.framesSinceSilence = d.mhu.framesSinceSilence ∧
    (d.finishCycle cause).gpe.current = d.gpe.current ∧ (d.finishCycle cause).lcc.errors = d.lcc.errors ∧
    (d.finishCycle cause).bal.body = d.bal.body ∧ (d.finishCycle cause).bal.freshness = d.bal.freshness ∧
    (d.finishCycle cause).bal.age = d.bal.age := by
  unfold finishCycle; simp

@[simp] theorem finishCycle_segment (cause : CycleCause) (d : Device) (l : Leg) :
    ((d.finishCycle cause).lcc.lanes.get l).segment = (d.lcc.lanes.get l).segment := by
  unfold finishCycle; simp

/-- The port after a cycle: the status frame is formed of the device as the compositions have left it and enters the
slot, and an idle transmitter begins it. -/
theorem finishCycle_upp (cause : CycleCause) (d : Device) :
    (d.finishCycle cause).upp =
      if d.upp.sending = none then
        { d.upp with sending := some (.status (d.computeMargins.braceCheck.compose.statusBody cause)), statusSlot := none }
      else
        { d.upp with statusSlot := some (d.computeMargins.braceCheck.compose.statusBody cause) } := by
  unfold finishCycle pump postStatus
  simp only [computeMargins_frame, braceCheck_frame, compose_frame]
  split
  · next h => rw [if_neg (by rw [h]; simp)]
  · next h => rw [if_pos h]

end Device

end Sys2Proof.Machine
end

