-- ==== Sys2Proof/Laws/Cycle.lean ====
section
/-!
SUPPORT. What an accepted frame brings before its cycle runs, block by block, and the port at the end of a cycle.
-/

namespace Sys2Proof.Machine

namespace Device

theorem takeTag_upp (tag : Byte) (d : Device) : (d.takeTag tag).upp = { d.upp with lastTag := some tag } := by
  unfold takeTag; simp

theorem takeWalkFlag_mhu (w : Bool) (d : Device) :
    (d.takeWalkFlag w).mhu.walkFlag = w ∧ (d.takeWalkFlag w).mhu.framesSinceSilence = d.mhu.framesSinceSilence ∧
    (d.takeWalkFlag w).mhu.stack = d.mhu.stack ∧ (d.takeWalkFlag w).mhu.sit = d.mhu.sit := by
  unfold takeWalkFlag; dsimp only; (repeat' split) <;> simp

/-- The blocks after an accepted frame's content has been taken (R150, R151). -/
theorem takeFrame_blocks (c : CycleContent) (d : Device) :
    (d.takeFrame c).bal = { d.bal with body := some c.body, freshness := .fresh, age := 0 } ∧
    (d.takeFrame c).lcc = (d.takeSegments c.segments c.errors).lcc ∧
    (d.takeFrame c).upp
      = { d.upp with lastTag := some c.tag, localTimer := none, silenceTimer := some d.silenceLimit } ∧
    (d.takeFrame c).tbs = d.tbs ∧ (d.takeFrame c).cfl = d.cfl ∧ (d.takeFrame c).llc = d.llc ∧
    (d.takeFrame c).nsv = d.nsv ∧ (d.takeFrame c).freeCount = d.freeCount := by
  unfold takeFrame
  refine ⟨?_, ?_, ?_, ?_, ?_, ?_, ?_, ?_⟩
  · simp [takeBody]
  · simp [takeSegments]
  · simp [restartSilence, takeTag_upp, silenceLimit]
  all_goals simp

theorem takeFrame_walkFlag (c : CycleContent) (d : Device) : (d.takeFrame c).mhu.walkFlag = c.walk :=
  (takeWalkFlag_mhu _ _).1

theorem takeFrame_frames (c : CycleContent) (d : Device) :
    (d.takeFrame c).mhu.framesSinceSilence = countUp 2 d.mhu.framesSinceSilence := by
  refine (takeWalkFlag_mhu _ _).2.1.trans ?_
  simp [countFrame]

/-- The lane segments after an accepted frame. -/
theorem takeFrame_segment (c : CycleContent) (d : Device) (l : Leg) :
    ((d.takeFrame c).lcc.lanes.get l).segment = some (c.segments.get l) := by
  rw [(takeFrame_blocks c d).2.1]; simp [takeSegments]

end Device

end Sys2Proof.Machine
end

