-- ==== Sys2Proof/Laws/Line.lean ====
section
/-!
SUPPORT. What the receiver's hunt does with a line (R118): it passes over the samples it holds and the quiet ones, and
takes an undisturbed character as its byte; what a slot collects (R126) and where a received frame closes (R148); and
the bits a link sends (R124).
-/

namespace Sys2Proof.Machine

/-! ## The hunt -/

/-- The samples held are passed over, and the hunt goes on after them. -/
theorem huntFrom_held (k now : Nat) (before : Bool) (line : List Bool) (h : k < line.length) :
    huntFrom now (k + 1) before line = huntFrom (now + (k + 1)) 0 (sampleAt line k) (line.drop (k + 1)) := by
  induction k generalizing now before line with
  | zero =>
    cases line with
    | nil => simp at h
    | cons b line => simp [huntFrom, sampleAt]
  | succ k ih =>
    cases line with
    | nil => simp at h
    | cons b line =>
      have h' : k < line.length := by simpa using h
      have := ih (now + 1) b line h'
      simp only [huntFrom, this, sampleAt, List.getD_cons_succ, List.drop_succ_cons]
      congr 1
      omega

/-- A high sample is no edge. -/
@[simp] theorem huntFrom_high (now : Nat) (before : Bool) (line : List Bool) :
    huntFrom now 0 before (true :: line) = huntFrom (now + 1) 0 true line := by
  cases before <;> rfl

/-- A low sample after a low one is no edge. -/
@[simp] theorem huntFrom_low (now : Nat) (line : List Bool) :
    huntFrom now 0 false (false :: line) = huntFrom (now + 1) 0 false line := rfl

/-- A low sample after a high one is sample 0 of a candidate. -/
theorem huntFrom_edge (now : Nat) (line : List Bool) :
    huntFrom now 0 true (false :: line)
      = ⟨now, sampledChar (false :: line)⟩
        :: huntFrom (now + 1) (heldSamples (sampledChar (false :: line))) false line := rfl

/-- A quiet line brings no candidate. -/
theorem huntFrom_quiet (n now : Nat) (line : List Bool) :
    huntFrom now 0 true (List.replicate n true ++ line) = huntFrom (now + n) 0 true line := by
  induction n generalizing now with
  | zero => simp
  | succ n ih => simp [List.replicate_succ, ih]; congr 1; omega

/-! ## An undisturbed character -/

/-- The samples taken of an undisturbed character. -/
theorem sampledChar_charOnLine (b : Byte) (line : List Bool) :
    sampledChar (charOnLine b ++ line)
      = { start := ⟨false, false, false⟩
          data := #v[⟨b.getLsbD 0, b.getLsbD 0, b.getLsbD 0⟩, ⟨b.getLsbD 1, b.getLsbD 1, b.getLsbD 1⟩,
                     ⟨b.getLsbD 2, b.getLsbD 2, b.getLsbD 2⟩, ⟨b.getLsbD 3, b.getLsbD 3, b.getLsbD 3⟩,
                     ⟨b.getLsbD 4, b.getLsbD 4, b.getLsbD 4⟩, ⟨b.getLsbD 5, b.getLsbD 5, b.getLsbD 5⟩,
                     ⟨b.getLsbD 6, b.getLsbD 6, b.getLsbD 6⟩, ⟨b.getLsbD 7, b.getLsbD 7, b.getLsbD 7⟩]
          stop := ⟨true, true, true⟩ } := rfl

@[simp] theorem charOnLine_length (b : Byte) : (charOnLine b).length = 160 := by
  simp [charOnLine, charBits, dataBits, bitOnLine]

@[simp] theorem charsOnLine_length (bs : List Byte) : (bs.flatMap charOnLine).length = 160 * bs.length := by
  induction bs with
  | nil => rfl
  | cons b bs ih => rw [List.flatMap_cons, List.length_append, ih, charOnLine_length, List.length_cons]; omega

/-- Eight data bits, least significant first, make the byte they were taken from. -/
theorem byteOfBits_dataBits (b : Byte) : byteOfBits (dataBits b) = b := by
  revert b; decide +kernel

/-- An undisturbed character is received as its byte, without a mark. -/
theorem receiveChar_charOnLine (b : Byte) (line : List Bool) :
    receiveChar (sampledChar (charOnLine b ++ line)) = some ⟨b, false, false⟩ := by
  rw [sampledChar_charOnLine]
  simpa [receiveChar, startAccepted, majority3, charNoisy, allEqual3, dataBits] using byteOfBits_dataBits b

/-- The hunt takes an undisturbed character and stands after its stop bit. -/
theorem huntFrom_charOnLine (now : Nat) (b : Byte) (line : List Bool) :
    huntFrom now 0 true (charOnLine b ++ line)
      = ⟨now, sampledChar (charOnLine b ++ line)⟩ :: huntFrom (now + 160) 0 true line := by
  have hd : ∃ rest, charOnLine b ++ line = false :: rest ∧ 154 ≤ rest.length
      ∧ sampleAt rest 153 = true ∧ rest.drop 154 = List.replicate 5 true ++ line :=
    ⟨_, rfl, by simp [dataBits, bitOnLine], rfl, rfl⟩
  obtain ⟨rest, he, hl, hs, hr⟩ := hd
  have hk : heldSamples (sampledChar (false :: rest)) = 153 + 1 := by
    rw [← he, sampledChar_charOnLine]; rfl
  rw [he, huntFrom_edge, hk, huntFrom_held _ _ _ _ (by omega), hs, hr, huntFrom_quiet]

/-- The candidates of a run of undisturbed characters. -/
def charsFrom (now : Nat) : List Byte → List Bool → List Candidate
  | [], _ => []
  | b :: bs, line =>
    ⟨now, sampledChar (charOnLine b ++ (bs.flatMap charOnLine ++ line))⟩ :: charsFrom (now + 160) bs line

theorem huntFrom_chars (bs : List Byte) (now : Nat) (line : List Bool) :
    huntFrom now 0 true (bs.flatMap charOnLine ++ line)
      = charsFrom now bs line ++ huntFrom (now + 160 * bs.length) 0 true line := by
  induction bs generalizing now with
  | nil => simp [charsFrom]
  | cons b bs ih =>
    simp only [List.flatMap_cons, List.append_assoc, huntFrom_charOnLine, ih, charsFrom, List.cons_append,
      List.length_cons]
    congr 3; omega

/-- The characters of a run of undisturbed bytes. -/
def cleanChars (bs : List Byte) : List RxChar := bs.map fun b => ⟨b, false, false⟩

/-! ## Reply slots (R126) -/

/-- A slot's end is known at most seven samples after it, where a false start begun in time is told from a start bit. -/
theorem collect_known (wanted due busy : Nat) (taken : List RxChar) (cs : List Candidate) (h : busy ≤ due + 7) :
    (collect wanted due busy taken cs).known ≤ (collect wanted due busy taken cs).ended + 7 := by
  have hs (due busy : Nat) (taken : List RxChar) (h : busy ≤ due + 7) :
      (spentSlot due busy taken).known ≤ (spentSlot due busy taken).ended + 7 := by
    unfold spentSlot; split
    · exact Nat.max_le.mpr ⟨Nat.le_add_right due 7, h⟩
    · exact Nat.le_add_right _ 7
  induction cs generalizing due busy taken with
  | nil => exact hs due busy taken h
  | cons c cs ih =>
    rw [collect]; split
    · exact hs due busy taken h
    · next hd =>
      split
      · exact ih due _ taken (by omega)
      · split
        · exact Nat.le_add_right _ 7
        · exact ih _ 0 _ (Nat.zero_le _)

/-- At most 7 samples of a slot's window are carried by the slot before it (log 42). -/
theorem carriedOver_early (k : LinkController) (x : Slot) (heard : List Bool) :
    (carriedOver k x heard).early ≤ 7 :=
  Nat.sub_le_iff_le_add'.mpr (collect_known _ _ 0 _ _ (Nat.zero_le _))

/-- An unbroken run of undisturbed characters, fewer than are wanted, is collected whole, and the slot ends 4 bit times
after its last stop bit. -/
theorem collect_chars (wanted : Nat) (bs : List Byte) (now due busy : Nat) (line : List Bool) (taken : List RxChar)
    (hn : bs ≠ []) (hd : now < due) (hw : taken.length + bs.length < wanted) :
    collect wanted due busy taken (charsFrom now bs line)
      = ⟨taken ++ cleanChars bs, now + 160 * bs.length + 64, now + 160 * bs.length + 64⟩ := by
  induction bs generalizing now due busy taken with
  | nil => exact absurd rfl hn
  | cons b bs ih =>
    have hnd : ¬ due ≤ now := by omega
    have hnw : ¬ taken.length + 1 = wanted := by simp only [List.length_cons] at hw; omega
    simp only [charsFrom, collect, hnd, if_false, receiveChar_charOnLine, hnw, List.length_cons]
    cases bs with
    | nil => simp [charsFrom, collect, spentSlot, cleanChars]
    | cons c bs =>
      have h := ih (now + 160) (now + 160 + 64) 0 (taken ++ [⟨b, false, false⟩]) (by simp) (by omega)
        (by simp only [List.length_append, List.length_cons, List.length_nil] at hw ⊢; omega)
      simp only [h, cleanChars, List.map_cons, List.append_assoc, List.cons_append, List.nil_append, List.length_cons]
      congr 1 <;> omega

/-- An unbroken run of as many undisturbed characters as are wanted is collected, and the collection ends with its last
stop bit, whatever follows. -/
theorem collect_wanted (wanted : Nat) (bs : List Byte) (now due busy : Nat) (line : List Bool) (more : List Candidate)
    (taken : List RxChar) (hn : bs ≠ []) (hd : now < due) (hw : taken.length + bs.length = wanted) :
    collect wanted due busy taken (charsFrom now bs line ++ more)
      = ⟨taken ++ cleanChars bs, now + 160 * bs.length, now + 160 * bs.length⟩ := by
  induction bs generalizing now due busy taken with
  | nil => exact absurd rfl hn
  | cons b bs ih =>
    have hnd : ¬ due ≤ now := by omega
    simp only [charsFrom, List.cons_append, collect, hnd, if_false, receiveChar_charOnLine, List.length_cons]
    cases bs with
    | nil =>
      have hw' : taken.length + 1 = wanted := by simpa using hw
      simp [hw', cleanChars]
    | cons c bs =>
      have hnw : ¬ taken.length + 1 = wanted := by simp only [List.length_cons] at hw; omega
      have h := ih (now + 160) (now + 160 + 64) 0 (taken ++ [⟨b, false, false⟩]) (by simp) (by omega)
        (by simp only [List.length_append, List.length_cons, List.length_nil] at hw ⊢; omega)
      simp only [hnw, if_false, h, cleanChars, List.map_cons, List.append_assoc, List.cons_append, List.nil_append,
        List.length_cons]
      congr 1 <;> omega

/-! ## Received frames (R148) -/

/-- A gap that ends has lasted its 320 samples. -/
theorem idleEnd_le (now high g : Nat) (line : List Bool) (hh : high < 320) (h : idleEnd now high line = some g) :
    now + 320 ≤ g + high := by
  induction line generalizing now high with
  | nil => simp [idleEnd] at h
  | cons b line ih =>
    rw [idleEnd] at h
    split at h
    · split at h
      · simp only [Option.some.injEq] at h; omega
      · have := ih (now + 1) (high + 1) (by omega) h; omega
    · have := ih (now + 1) 0 (by omega) h; omega

theorem le_gapEnd (line : List Bool) (n g : Nat) (h : gapEnd line n = some g) : n + 320 ≤ g :=
  idleEnd_le n 0 g _ (by omega) h

/-- A quiet line closes the gap as soon as it is long enough. -/
theorem idleEnd_quiet (k now high : Nat) (hk : 0 < k) (h : high + k = 320) :
    idleEnd now high (List.replicate k true) = some (now + k) := by
  induction k generalizing now high with
  | zero => omega
  | succ k ih =>
    rw [List.replicate_succ, idleEnd, if_pos rfl]
    split
    · simp; omega
    · rw [ih (now + 1) (high + 1) (by omega) (by omega)]; simp; omega

/-- An unbroken run of undisturbed characters belongs to one frame, which the gap after the last of them closes. -/
theorem frameFrom_chars (line : List Bool) (bs : List Byte) (now : Nat) (closing : Option Nat) (rest : List Bool)
    (taken : List RxChar) (hn : bs ≠ []) (hc : ∀ g, closing = some g → now < g) :
    frameFrom line closing taken (charsFrom now bs rest)
      = (gapEnd line (now + 160 * bs.length)).map fun g => ⟨taken ++ cleanChars bs, g⟩ := by
  induction bs generalizing now closing taken with
  | nil => exact absurd rfl hn
  | cons b bs ih =>
    have ho : ¬ closing.any (· ≤ now) = true := by
      cases closing with
      | none => simp
      | some g => simpa using hc g rfl
    simp only [charsFrom, frameFrom, ho, receiveChar_charOnLine, List.length_cons]
    cases bs with
    | nil => simp [charsFrom, frameFrom, cleanChars]
    | cons c bs =>
      have h := ih (now + 160) (gapEnd line (now + 160)) (taken ++ [⟨b, false, false⟩]) (by simp)
        (fun g hg => by have := le_gapEnd _ _ _ hg; omega)
      have e : now + 160 + 160 * (c :: bs).length = now + 160 * ((c :: bs).length + 1) := by omega
      rw [e] at h
      simpa [cleanChars] using h

/-- A frame on an undisturbed line is received as its bytes, without a mark (R148). -/
theorem frameChars_frameOnLine (bs : List Byte) (hn : bs ≠ []) :
    frameChars (frameOnLine bs) = some (cleanChars bs) := by
  have hlen : (frameOnLine bs).length = 1 + 160 * bs.length + 320 := by
    rw [frameOnLine, List.length_append, List.length_append, charsOnLine_length, List.length_replicate]; rfl
  have hh : hunt (frameOnLine bs) = charsFrom 1 bs (List.replicate 320 true) := by
    have hq := huntFrom_quiet 320 (1 + 160 * bs.length) []
    rw [List.append_nil] at hq
    rw [frameOnLine, quietLine, List.append_assoc, List.singleton_append, hunt, huntFrom_chars, hq, huntFrom,
      List.append_nil]
  have hd : (frameOnLine bs).drop (1 + 160 * bs.length) = List.replicate 320 true := by
    have hl : (quietLine ++ bs.flatMap charOnLine).length = 1 + 160 * bs.length := by
      rw [List.length_append, charsOnLine_length]; rfl
    rw [frameOnLine, ← hl, List.drop_left]
  have hg : gapEnd (frameOnLine bs) (1 + 160 * bs.length) = some (1 + 160 * bs.length + 320) := by
    rw [gapEnd, hd, idleEnd_quiet 320 _ 0 (by omega) rfl]
  rw [frameChars, hh, frameFrom_chars _ _ _ none _ _ hn (by simp), hg]
  simp [hlen]

/-! ## The bits a link sends -/

@[simp] theorem endedWithOnes_length (t : Nat) (bits : List Bool) (h : t < bits.length) (hc : t < characterEnd t) :
    (endedWithOnes t bits).length = characterEnd t := by
  simp [endedWithOnes]; omega

theorem lt_characterEnd (t : Nat) : t < characterEnd t := by
  unfold characterEnd; split <;> omega

namespace Device

/-- A cut withdraws the waiting command of every link and marks those that transmit. -/
theorem cutLinks_link (d : Device) (l : Leg) :
    d.cutLinks.link l = cutLink (Config.cutBit (d.freeCount + l.number)) (d.link l) := by
  cases l <;> rfl

end Device

end Sys2Proof.Machine
end

