-- ==== Sys2Proof/Laws/PerInstr.lean ====
section
/-!
SUPPORT. What holds of each command as it is written: the body the host sends for a request is read back as that
request, and it fits in the longest frame; one lemma for each constructor.
-/

namespace Sys2Proof.Laws.RequestFrame

open Sys2Proof Sys2Proof.Machine

/-- The body the host sends for a well-formed request fits in a frame (R172), and the part reads it as that request
(R171, R175). A command that is no request has no body. -/
def Statement (i : Instr) : Prop :=
  i.wellFormed = true → ∀ body, requestBody i = some body →
    managementCommand body = i ∧ body.length + 5 ≤ Config.longestFrame

/-- A command that is no request. -/
theorem of_none {i : Instr} (h : requestBody i = none) : Statement i := by
  intro _ body hb; rw [h] at hb; cases hb

/-- A request whose body is read back and that is well-formed only when its body fits. -/
theorem of_some {i : Instr} {body : List Byte} (hb : requestBody i = some body) (hr : managementCommand body = i)
    (hw : i.wellFormed = fitsFrame i) : Statement i := by
  intro h b hb'
  rw [hb] at hb'
  obtain rfl := Option.some.inj hb'
  refine ⟨hr, ?_⟩
  rw [hw, fitsFrame, hb] at h
  simpa using h

theorem powerOn : Statement .powerOn := of_none rfl
theorem resetPin : Statement .resetPin := of_none rfl
theorem logicBrownout : Statement .logicBrownout := of_none rfl
theorem resetEnd (last : PowerCause) : Statement (.resetEnd last) := of_none rfl
theorem cycleFrame (body : List Byte) : Statement (.cycleFrame body) := of_none rfl
theorem frameDropped (run : List Bool) : Statement (.frameDropped run) := of_none rfl
theorem malformedRequest (body : List Byte) : Statement (.malformedRequest body) := by
  intro h b hb
  obtain rfl := Option.some.inj hb
  simp only [Instr.wellFormed, Bool.and_eq_true, decide_eq_true_eq] at h
  exact ⟨h.1, by simpa [fitsFrame, requestBody] using h.2⟩
theorem tableWrite (tag : Byte) (rest : List Byte) : Statement (.tableWrite tag rest) := of_some rfl rfl rfl
theorem tableRead (tag : Byte) (rest : List Byte) : Statement (.tableRead tag rest) := of_some rfl rfl rfl
theorem readState (tag : Byte) (rest : List Byte) : Statement (.readState tag rest) := of_some rfl rfl rfl
theorem arm (tag : Byte) (rest : List Byte) : Statement (.arm tag rest) := of_some rfl rfl rfl
theorem disarm (tag : Byte) (rest : List Byte) : Statement (.disarm tag rest) := of_some rfl rfl rfl
theorem hold (tag : Byte) (rest : List Byte) : Statement (.hold tag rest) := of_some rfl rfl rfl
theorem resume (tag : Byte) (rest : List Byte) : Statement (.resume tag rest) := of_some rfl rfl rfl
theorem sit (tag : Byte) (rest : List Byte) : Statement (.sit tag rest) := of_some rfl rfl rfl
theorem restart (tag : Byte) (rest : List Byte) : Statement (.restart tag rest) := of_some rfl rfl rfl
theorem clearFactors (tag : Byte) (rest : List Byte) : Statement (.clearFactors tag rest) := of_some rfl rfl rfl
theorem clearFaults (tag : Byte) (rest : List Byte) : Statement (.clearFaults tag rest) := of_some rfl rfl rfl
theorem ident (tag : Byte) (rest : List Byte) : Statement (.ident tag rest) := of_some rfl rfl rfl
theorem restartReset : Statement .restartReset := of_none rfl
theorem transmitComplete : Statement .transmitComplete := of_none rfl
theorem silenceExpiry : Statement .silenceExpiry := of_none rfl
theorem localCycle : Statement .localCycle := of_none rfl
theorem preambleEnd (link : Leg) : Statement (.preambleEnd link) := of_none rfl
theorem breakEnd (link : Leg) : Statement (.breakEnd link) := of_none rfl
theorem commandFrameEnd (link : Leg) : Statement (.commandFrameEnd link) := of_none rfl
theorem echoMismatch (link : Leg) (bitTime : Nat) (readBack : Sample3) : Statement (.echoMismatch link bitTime readBack) :=
  of_none rfl
theorem frameAbandoned (link : Leg) : Statement (.frameAbandoned link) := of_none rfl
theorem replyWindowExpiry (link : Leg) (heard : List Bool) : Statement (.replyWindowExpiry link heard) :=
  of_none rfl
theorem shortReply (link : Leg) (heard : List Bool) : Statement (.shortReply link heard) := of_none rfl
theorem replyComplete (link : Leg) (heard : List Bool) : Statement (.replyComplete link heard) := of_none rfl

end Sys2Proof.Laws.RequestFrame
end

