-- ==== Sys2Proof/Laws/Reports.lean ====
section
/-!
SUPPORT. What the body of a status frame holds, field by field (R174), and the sets of bits it carries.
-/

namespace Sys2Proof.Machine

/-- A bit of a number formed of bits. -/
theorem numberOfBits_testBit (bits : List Bool) (i : Nat) : (numberOfBits bits).testBit i = bits.getD i false := by
  induction bits generalizing i with
  | nil => simp [numberOfBits]
  | cons b bs ih =>
    have h : numberOfBits (b :: bs) = b.toNat + 2 * numberOfBits bs := rfl
    rw [h]
    cases i with
    | zero => cases b <;> simp [Nat.testBit_zero]
    | succ i =>
      rw [List.getD_cons_succ, ← ih, Nat.testBit_succ]
      congr 1
      cases b <;> simp
      omega

/-- A field of four bytes is read back as what was sent. -/
theorem set32_bytes32 (x : BitVec 32) (off : Nat) (bs : List Byte) (h : fieldAt bs off 4 = bytes32 x) :
    set32 bs off = x := by
  have e (k : Nat) (hk : k < 4) : byteAt bs (off + k) = (bytes32 x).getD k 0#8 := by
    rw [← h]; simp [fieldAt, byteAt, List.getD_eq_getElem?_getD, hk]
  have e0 := e 0 (by omega)
  have e1 := e 1 (by omega)
  have e2 := e 2 (by omega)
  have e3 := e 3 (by omega)
  simp only [Nat.add_zero] at e0
  unfold set32
  rw [e0, e1, e2, e3]
  apply BitVec.eq_of_getLsbD_eq
  intro i hi
  simp only [bytes32, List.getD_cons_zero, List.getD_cons_succ, BitVec.getLsbD_append, BitVec.getLsbD_extractLsb']
  split
  · simp [*]
  · split
    · have : 8 + (i - 8) = i := by omega
      simp [*]
    · split
      · have : 16 + (i - 8 - 8) = i := by omega
        simp [*]
      · have a : 24 + (i - 8 - 8 - 8) = i := by omega
        have b : i - 8 - 8 - 8 < 8 := by omega
        simp [a, b]

/-- A field of two bytes is read back as what was sent, within its width. -/
theorem u16_bytes16 (x off : Nat) (bs : List Byte) (h : fieldAt bs off 2 = bytes16 x) : u16 bs off = x % 65536 := by
  have e (k : Nat) (hk : k < 2) : byteAt bs (off + k) = (bytes16 x).getD k 0#8 := by
    rw [← h]; simp [fieldAt, byteAt, List.getD_eq_getElem?_getD, hk]
  have e0 := e 0 (by omega)
  have e1 := e 1 (by omega)
  simp only [Nat.add_zero, bytes16, List.getD_cons_zero, List.getD_cons_succ] at e0 e1
  simp only [u16, u8, e0, e1, BitVec.toNat_ofNat]
  omega

namespace Device

theorem liveSet_testBit (d : Device) (n : Node) : (d.liveSet % 65536).testBit n.number = (d.node n).live := by
  have h : (65536 : Nat) = 2 ^ 16 := rfl
  rw [h, Nat.testBit_mod_two_pow, liveSet, numberOfBits_testBit]
  obtain ⟨l, s⟩ := n
  cases l <;> cases s <;> rfl

theorem factorFlags_getLsbD (d : Device) (f : Factor) :
    (BitVec.ofNat 32 d.factorFlags).getLsbD f.bit = (d.factor f).flag := by
  rw [BitVec.getLsbD_ofNat, factorFlags, numberOfBits_testBit]
  cases f <;> rfl

/-- A status frame holds what R174 says, at its offsets. -/
theorem statusBody_reads (d : Device) (cause : CycleCause) :
    d.statusReads (BitVec.ofNat 8 cause.code) (d.statusBody cause) := by
  have hl := statusBody_length cause d
  obtain ⟨b, hb⟩ : ∃ b, b = d.statusBody cause := ⟨_, rfl⟩
  rw [← hb] at hl ⊢
  unfold statusBody at hb
  simp only [List.append_assoc] at hb
  refine ⟨hl, ?_, ?_, ?_, ?_, ?_, ?_, ?_, ?_, ?_, ?_, ?_, ?_, ?_, ?_, ?_⟩
  · rw [hb]; show [_, _] = [_, _]; cases d.upp.lastTag <;> simp
  · rw [hb]; rfl
  · intro h; rw [hb]; show [_, _] = [_, _]; simp [topHold, h]
  · intro below top h; rw [hb]; show [_, _] = [_, _]; simp [topHold, h]
  · rw [hb]; rfl
  · rw [hb]; rfl
  · intro l
    cases l <;> refine ⟨by rw [hb]; rfl, ?_, by rw [hb]; rfl, by rw [hb]; rfl, by rw [hb]; rfl⟩ <;>
      (rw [hb]; show [_, _] = _; simp only [reportedProgress]; split <;> simp [*, bytes16])
  · rw [hb]; rfl
  · rw [hb]; rfl
  · rintro ⟨l, i⟩
    cases l <;> cases i <;> (rw [hb]; show [_, _] = _; split <;> simp [*, bytes16s, bytes16, absent16])
  · intro n
    have h : fieldAt b 71 2 = bytes16 d.liveSet := by rw [hb]; rfl
    rw [u16_bytes16 _ _ _ h, liveSet_testBit]
  · rw [hb]; rfl
  · rw [hb]
    show BitVec.toNat (BitVec.ofNat 8 d.levelBits) = _
    unfold levelBits
    cases d.nsv.level1 <;> cases d.nsv.level2 <;> rfl
  · intro f
    have h : fieldAt b 76 4 = bytes32 (BitVec.ofNat 32 d.factorFlags) := by rw [hb]; rfl
    rw [set32_bytes32 _ _ _ h, factorFlags_getLsbD]
  · rw [hb]; rfl

end Device

end Sys2Proof.Machine
end

