-- ==== Sys2Proof/Tests/Slice0.lean ====
section
/-!
SUPPORT. The model's own tests: the well-formedness checks, worked cases of the manual, and for every statement with
hypotheses a concrete case that meets them, clause by clause.
-/

namespace Sys2Proof.Tests

-- The tests are checked one after another: at once, each would hold a thread and its stack until its turn came.
set_option Elab.async false

open Sys2Proof Sys2Proof.Machine

/-! ## Well-formedness: each check refuses an ill-formed term -/

def zeros (n : Nat) : List Byte := List.replicate n 0#8

theorem test_wf_cycleFrame_short : (Instr.cycleFrame (zeros 87)).wellFormed = false := by decide
theorem test_wf_cycleFrame_full : (Instr.cycleFrame (zeros 88)).wellFormed = true := by decide
theorem test_wf_frameDropped_empty : (Instr.frameDropped []).wellFormed = false := by decide
/-- One clean character and its gap are a run too short for a frame; without the gap they are no run. -/
theorem test_wf_frameDropped_one : (Instr.frameDropped (frameOnLine [0x31#8])).wellFormed = true := by decide +kernel
theorem test_wf_frameDropped_noGap :
    (Instr.frameDropped (true :: charOnLine 0x31#8)).wellFormed = false := by decide +kernel
theorem test_wf_malformed_known : (Instr.malformedRequest [3#8, 7#8, 9#8]).wellFormed = false := by decide
theorem test_wf_malformed_unknown : (Instr.malformedRequest [9#8, 7#8]).wellFormed = true := by decide
theorem test_wf_malformed_long : (Instr.malformedRequest (9#8 :: zeros 469)).wellFormed = false := by decide +kernel

/-- A request whose frame would have 475 bytes is refused, whichever it is. -/
theorem test_wf_requests_long :
    ([Instr.tableWrite 0 (zeros 468), .tableRead 0 (zeros 468), .readState 0 (zeros 468), .arm 0 (zeros 467),
      .disarm 0 (zeros 467), .hold 0 (zeros 467), .resume 0 (zeros 467), .sit 0 (zeros 467), .restart 0 (zeros 467),
      .clearFactors 0 (zeros 467), .clearFaults 0 (zeros 467), .ident 0 (zeros 467)]).all
      (fun i => !i.wellFormed) = true := by decide +kernel

theorem test_wf_requests_longest :
    ([Instr.tableWrite 0 (zeros 467), .arm 0 (zeros 466)]).all (fun i => i.wellFormed) = true := by decide +kernel

theorem test_wf_echo_late : (Instr.echoMismatch .fl 194 ⟨true, true, true⟩).wellFormed = false := by decide
theorem test_wf_echo_last : (Instr.echoMismatch .fl 193 ⟨true, true, true⟩).wellFormed = true := by decide
theorem test_wf_window_early : (Instr.replyWindowExpiry .fl (List.replicate 120 true)).wellFormed = false := by
  decide +kernel
theorem test_wf_window_late : (Instr.replyWindowExpiry .fl (List.replicate 1032 true)).wellFormed = false := by
  decide +kernel
theorem test_wf_short_early : (Instr.shortReply .fl (List.replicate 218 true)).wellFormed = false := by decide +kernel
theorem test_wf_complete_early : (Instr.replyComplete .fl (List.replicate 1084 true)).wellFormed = false := by
  decide +kernel
theorem test_wf_slots :
    ([Instr.replyWindowExpiry .fl (List.replicate 121 true), .shortReply .fl (List.replicate 219 true),
      .replyComplete .fl (List.replicate 1085 true)]).all (fun i => i.wellFormed) = true := by decide +kernel

/-! ## Words and worked cases of the manual -/

/-- The CRC of the digits 1 to 9 with polynomial 0x1021 and initial value 0xFFFF is 0x29B1. -/
theorem test_crc_digits :
    crc16 0x1021#16 0xFFFF#16 [0x31#8, 0x32#8, 0x33#8, 0x34#8, 0x35#8, 0x36#8, 0x37#8, 0x38#8, 0x39#8] = 0x29B1#16 := by
  decide +kernel

theorem test_roundings :
    roundHalfAway 5 2 = 3 ∧ roundHalfAway (-5) 2 = -3 ∧ (-2693 : Int).tdiv 100 = -26 ∧ isqrt 26 = 5 ∧ isqrt 25 = 5
      ∧ isqrt 24 = 4 ∧ isqrt 0 = 0 := by decide

/-- A management body written out byte by byte is the command R171 names: kind 3, tag 7, action 1 is ARM. -/
theorem test_arm_body : managementCommand [3#8, 7#8, 1#8] = .arm 7#8 [] := by decide

theorem test_unknown_action : managementCommand [3#8, 7#8, 10#8] = .malformedRequest [3#8, 7#8, 10#8] := by decide

/-- The kinds and actions next to the known ones. -/
theorem test_meets_MalformedRequestsChangeNothing_codes :
    (5#8 = 0 ∨ 4 < (5#8).toNat) ∧ ((0#8).toNat = 0 ∨ 9 < (0#8).toNat) ∧ ((10#8).toNat = 0 ∨ 9 < (10#8).toNat)
    ∧ managementCommand [0#8, 7#8] = .malformedRequest [0#8, 7#8]
    ∧ managementCommand [5#8, 7#8] = .malformedRequest [5#8, 7#8]
    ∧ managementCommand [4#8, 7#8] = .readState 7#8 [] := by decide

/-- The leg entry of the creep gait of section 1.5 for a lift point. -/
def creepLeg (own : Leg) (lift : Nat) : GaitLeg where
  liftPoint := lift
  swing := 80
  prereq := .ofFn fun l => l ≠ own
  partner := .replicate false
  clearance := ⟨0, -1500, 2500⟩

/-- The creep gait of section 1.5, with its entry phase as a parameter. -/
def creep (e : Nat) : GaitRecord where
  n := 400
  e := e
  mLift := 20
  sEarly := 12
  tWait := 100
  tLand := 40
  legs := ⟨creepLeg .fl 50, creepLeg .fr 250, creepLeg .rr 150, creepLeg .rl 350⟩

/-- The validation examples of section 1.1: E = 40 is valid, E = 0 lies in RL's window, and N = 300 leaves a lift point
outside the ring. -/
theorem test_creep_validation :
    (creep 40).isValid = true ∧ (creep 0).isValid = false ∧ ({ creep 40 with n := 300 } : GaitRecord).isValid = false := by
  decide

/-! ## States -/

def jointRecord : JointRecord where
  lo := -9000
  hi := 9000
  stepMax := 120
  limitMode := .clamp
  gj := 1024
  kr := 0
  kp := 0
  kh := 0
  cMax := 0
  faultMask := noFaults

/-- Tables that R98 accepts. -/
def tables : TableStore :=
  { tablesAtPowerUp with
    gait := .replicate 8 { record := creep 40, valid := true }
    joint := .replicate (.replicate jointRecord), jointValid := true, poseValid := true }

/-- All nodes live with no fault, their drives' reports fresh at 45.0 V. -/
def liveNodes : Supervisor :=
  { supervisorAtReset with
    nodes := .replicate (.replicate { nodeAtReset with live := true })
    voltages := .replicate (.replicate { volts := 450, age := 0 }), estimate := some 450 }

/-- A lane whose joints were last delivered at 0. -/
def knownLane : Lane where
  segment := none
  joints := .replicate { unknownJoint with lastPosition := some 0 }

/-- A machine in a mode with every leg in one state, known tables, and no command in flight. -/
def inMode (m : Mode) (leg : LegState) : State :=
  State.reset.withDev
    { State.reset.dev with
      tbs := tables, nsv := liveNodes
      mhu := { modeAtReset with mode := m, walkFlag := true, sit := if m = .safeSit then some .lowering else none }
      gpe := { engineAtReset with
                 phase := if m = .unarmed ∨ m = .safeSit then 0 else 40
                 legs := .replicate { unsetLeg with state := leg, partnerLatch := leg ≠ .unset } }
      lcc := { composerAtReset with lanes := .replicate knownLane }
      llc := .replicate { linkAtReset defaultLinkConfig with state := .idle } }

def unarmed : State := inMode .unarmed .unset
def standing : State := inMode .stand .stance
def walking : State := inMode .walk .stance
def sitting : State := inMode .safeSit .unset

/-- A record of a hold pushed in a mode. -/
def holdOf (h : Hold) (m : Mode) : HoldRecord where
  hold := h
  modeAtPush := m
  gait := 0
  phase := 40
  legStates := .replicate .stance
  tag := none

/-- HOLD with the given records. -/
def holding (stack : List HoldRecord) : State :=
  let s := inMode .hold .stance
  s.withDev { s.dev with mhu := { s.dev.mhu with stack := stack } }

/-- A state with another port, link or limb of a block. -/
def withUpp (s : State) (f : UpstreamPort → UpstreamPort) : State := s.withPort (f s.dev.upp)

def withLink (s : State) (l : Leg) (f : LinkController → LinkController) : State := s.withDev (s.dev.modLink l f)

/-- A machine whose leg FL has the given record. -/
def withLeg (s : State) (r : LegRecord → LegRecord) : State := s.withDev (s.dev.modLeg .fl r)

def command : LimbCommand := .replicate { position := some 0, stiffness := 0, engage := false }

/-- The characters a clean run of bytes gives. -/
def charsOf (bs : List Byte) : List RxChar := bs.map fun b => { value := b, noisy := false, framing := false }

/-- A line that is quiet for `w` samples and then carries the bytes back to back. -/
def lineOf (w : Nat) (bs : List Byte) : List Bool := List.replicate w true ++ bs.flatMap charOnLine

/-- The samples of 4 bit times in which no character begins, which end a short reply. -/
def silence : List Bool := List.replicate 64 true

/-! ## Worked cases of chapters 4 and 5 -/

/-- The body state of section 4.7. -/
def creepBody : BodyState where
  com := ⟨20, 10⟩
  height := 400
  roll := -50
  pitch := 100
  feet := ⟨⟨250, 150⟩, ⟨250, -150⟩, ⟨-250, -150⟩, ⟨-250, 150⟩⟩

/-- Section 4.7: the projection, the current margin and the four prospective margins. -/
theorem test_margins_of_creep_stance :
    projection creepBody = ⟨29, 14⟩
    ∧ marginOf (some creepBody) ⟨true, true, true, true⟩ = ⟨136, false⟩
    ∧ marginOf (some creepBody) ⟨false, true, true, true⟩ = ⟨-26, false⟩
    ∧ marginOf (some creepBody) ⟨true, false, true, true⟩ = ⟨-2, false⟩
    ∧ marginOf (some creepBody) ⟨true, true, false, true⟩ = ⟨26, false⟩
    ∧ marginOf (some creepBody) ⟨true, true, true, false⟩ = ⟨2, false⟩ := by decide

/-- Section 4.7: two feet, one foot, a degenerate set, and a coinciding pair of feet. -/
theorem test_margins_of_small_sets :
    marginOf (some creepBody) ⟨false, true, false, true⟩ = ⟨-26, false⟩
    ∧ marginOf (some creepBody) ⟨true, true, false, false⟩ = ⟨-221, false⟩
    ∧ marginOf (some creepBody) ⟨false, false, true, false⟩ = ⟨-2047, false⟩
    ∧ marginOf (some { creepBody with feet := { creepBody.feet with rr := ⟨0, 150⟩, rl := ⟨-250, 150⟩ } })
        ⟨true, false, true, true⟩ = ⟨-2047, true⟩
    ∧ marginOf (some { creepBody with feet := { creepBody.feet with fr := ⟨250, 150⟩ } }) ⟨true, true, true, true⟩
        = ⟨-2, false⟩ := by decide

/-- Section 5.13: the swing of joint 1 at s = 8, 9, 10, 20, 38 and 39. -/
theorem test_swing_of_hip_flexion :
    [8, 9, 10, 20, 38, 39].map (fun s => swingTarget 2500 3500 (-1500) s 40 Config.defaultLiftProfile)
      = [1822, 1847, 1637, 1500, 3158, 3183] := by decide

/-- The joint record of section 5.14. -/
def stanceJoint : JointRecord :=
  { jointRecord with
    lo := -4000, stepMax := 300, limitMode := .freeze, gj := 900, kr := -300, kp := 512, kh := 20, cMax := 200 }

/-- Section 5.14: correction, stiffness, step limit and soft limit of a stance joint. -/
theorem test_stance_joint :
    correctionOf stanceJoint ⟨40, -25, 6⟩ = -24 ∧ correctionOf { stanceJoint with cMax := 20 } ⟨40, -25, 6⟩ = -20
    ∧ stiffnessOf 3000 1024 900 = 2636 ∧ stiffnessOf 3000 1024 450 = 1318 ∧ stiffnessOf 3000 768 450 = 988
    ∧ stepLimit 2300 2376 300 = 2376 ∧ stepLimit 2300 2976 300 = 2600
    ∧ softLimit stanceJoint 2376 = ⟨2376, none, false⟩ ∧ softLimit stanceJoint 9001 = ⟨9000, none, true⟩ := by decide

/-! ## The step and the resets -/

theorem test_step_runs_front :
    step (State.reset.withPending [.ident 1#8 [], .powerOn])
      = exec (.ident 1#8 []) (State.reset.withPending [.powerOn]) ∧ step State.reset = .next State.reset := by
  exact ⟨rfl, rfl⟩

/-- A machine in a power-up-class reset that power-on began and the pin joined. -/
def inReset : State := State.reset.withDev ((State.reset.dev.beginReset .powerUp).beginReset .resetPin)

theorem test_meets_ResetEndStartsPart :
    PowerCause.powerUp ∈ inReset.dev.eeu.resetting ∧ PowerCause.resetPin ∈ inReset.dev.eeu.resetting := by decide

theorem test_meets_CommandDuringResetDoesNothing :
    inReset.dev.running = false ∧ Instr.localCycle ≠ .powerOn ∧ Instr.localCycle ≠ .resetPin
    ∧ Instr.localCycle ≠ .logicBrownout ∧ ∀ last, Instr.localCycle ≠ .resetEnd last := by
  refine ⟨by decide, by decide, by decide, by decide, fun last => ?_⟩
  cases last <;> decide

theorem test_meets_PowerUpClassResetStatesEveryBlock :
    exec .logicBrownout standing = .next (standing.withDev (standing.dev.beginReset .logicBrownout)) := rfl

/-- The part while the RESTART reply is on the wire. -/
def restarting : State :=
  withUpp standing fun u => { u with restartPending := true, sending := some (.reply [3#8, 1#8, 0#8, 0#8, 0#8]) }

theorem test_meets_RestartResetKeepsTables :
    restarting.dev.running = true ∧ restarting.dev.restartReplyOnWire = true := by decide

/-! ## The upstream link -/

/-- One character for each clause of the frame checks: a framing error, a run too long, a run too short, a wrong length,
a wrong CRC, a cycle frame, a cycle frame of another size, a management request, another kind. -/
theorem test_meets_ReceivedFrameChecksInOrder :
    judgeFrame [⟨0x31#8, false, true⟩] = .dropForm
    ∧ judgeFrame (charsOf (zeros 475)) = .dropForm ∧ judgeFrame (charsOf (zeros 474)) = .dropForm
    ∧ judgeFrame (charsOf (zeros 4)) = .dropForm
    ∧ judgeFrame (charsOf [0x32#8, 1#8, 0#8, 0#8, 0#8]) = .dropForm
    ∧ judgeFrame (charsOf [0x32#8, 0#8, 0#8, 0#8, 0#8]) = .dropCrc
    ∧ judgeFrame (charsOf (upstreamFrame kindManagement [3#8, 7#8, 9#8])) = .management [3#8, 7#8, 9#8]
    ∧ judgeFrame (charsOf (upstreamFrame kindStatus [])) = .dropForm
    ∧ frameChars (frameOnLine [0x32#8]) = some (charsOf [0x32#8]) ∧ standing.dev.running = true := by decide +kernel

/-- Both verdicts of a dropped run reach the clauses about FRAME_DROPPED. -/
theorem test_meets_ReceivedFrameChecksInOrder_dropped :
    (frameChars (frameOnLine [0x32#8, 0#8, 0#8, 0#8, 0#8])).map judgeFrame = some .dropCrc
    ∧ (frameChars (frameOnLine [0x32#8])).map judgeFrame = some .dropForm := by decide +kernel

/-- A line of one character, then a low glitch of two samples 100 samples into the gap, then high samples. -/
def glitchedGap (n : Nat) : List Bool :=
  lineOf 1 [0x32#8] ++ List.replicate 100 true ++ [false, false] ++ List.replicate n true

/-- A line of one character whose stop bit is low, held low on for 320 samples, then high samples. -/
def breakAfter (n : Nat) : List Bool :=
  [true] ++ (charOnLine 0x32#8).take 144 ++ List.replicate 336 false ++ List.replicate n true

/-- The closing gap (R148): a false start in it makes it begin again (log 43), and a line held low closes nothing. -/
theorem test_meets_ReceivedFrameChecksInOrder_gap :
    frameChars (glitchedGap 218) = none ∧ frameChars (glitchedGap 320) = some (charsOf [0x32#8])
    ∧ frameChars (breakAfter 0) = none ∧ frameChars (breakAfter 319) = none
    ∧ frameChars (breakAfter 320) = some [⟨0x32#8, false, true⟩] := by decide +kernel

/-- The clauses of a cycle frame: a body of 88 bytes and one of 87, each with its CRC. -/
theorem test_meets_ReceivedFrameChecksInOrder_cycle (n : Nat) (h : n = 88 ∨ n = 87) :
    let bs := (charsOf (upstreamFrame kindCycle (zeros n))).map (·.value)
    crcHolds 0x1021 0xFFFF bs = true ∧ 5 ≤ bs.length ∧ bs.length ≤ 474
    ∧ u8 bs 1 + 256 * u8 bs 2 = bs.length - 5 ∧ byteAt bs 0 = 0x31 ∧ ((bs.take (bs.length - 2)).drop 3).length = n := by
  have e (k : Nat) : (charsOf (upstreamFrame kindCycle (zeros k))).map (·.value) = upstreamFrame kindCycle (zeros k) := by
    simp [charsOf, Function.comp_def]
  simp only [e]
  rcases h with rfl | rfl <;> exact ⟨crcHolds_withCrc _ _ _, by decide, by decide, by decide, by decide, by decide⟩

theorem test_meets_HostFrameIsReadBack :
    (Instr.ident 7#8 []).wellFormed = true
    ∧ hostFrame (.ident 7#8 []) = some (upstreamFrame kindManagement [3#8, 7#8, 9#8])
    ∧ (Instr.cycleFrame (zeros 88)).wellFormed = true
    ∧ hostFrame (.cycleFrame (zeros 88)) = some (upstreamFrame kindCycle (zeros 88)) :=
  ⟨by decide, rfl, by decide, rfl⟩

/-- A character of 0xA5 with the samples at the given places disturbed. -/
def disturbed (places : List Nat) : List Bool :=
  places.foldl (fun line n => line.set n (!sampleAt line n)) (charOnLine 0xA5#8)

/-- One disturbed start sample, and one disturbed vote sample in a data bit and in the stop bit: accepted, right, noisy.
A clean character; a low stop bit; and a start bit with two high samples, which is a false start. -/
theorem test_meets_SingleSampleNoiseIsOutvoted :
    let noisy := disturbed [5, 24, 153]
    let low := disturbed [152, 153]
    (∀ line ∈ [noisy, charOnLine 0xA5#8, low], line.length = 160 ∧ sampleAt line 0 = false
      ∧ majority3 ⟨sampleAt line 3, sampleAt line 5, sampleAt line 7⟩ = false
      ∧ ∀ i : Fin 8, majority3 (bitSamples line (i + 1)) = (0xA5#8).getLsbD i)
    ∧ receiveChar (sampledChar noisy) = some ⟨0xA5#8, true, false⟩
    ∧ receiveChar (sampledChar (charOnLine 0xA5#8)) = some ⟨0xA5#8, false, false⟩
    ∧ receiveChar (sampledChar low) = some ⟨0xA5#8, true, true⟩
    ∧ sampleAt [false, false, false, true, false, true, false, true] 0 = false
    ∧ majority3 ⟨true, true, true⟩ = true := by decide +kernel

/-- The hunt finds a character after a false start: the false start is at sample 3 of the line, the character's edge at
sample 12, and the next edge counted is after sample 10 of its stop bit. -/
theorem test_hunt_after_false_start :
    (hunt ([true, true, true, false] ++ List.replicate 8 true ++ charOnLine 0xA5#8 ++ charOnLine 1#8)).map
      (fun c => (c.edge, receiveChar c.sampled))
      = [(3, none), (12, some ⟨0xA5#8, false, false⟩), (172, some ⟨1#8, false, false⟩)] := by decide +kernel

/-- The transmitter sends a status frame, and the given things wait. -/
def sendingWith (slot : Option (List Byte)) (queue : List (List Byte)) : State :=
  withUpp standing fun u => { u with sending := some (.status [1#8]), statusSlot := slot, replyQueue := queue }

theorem test_meets_TransmitterSendsStatusBeforeReplies :
    (sendingWith (some [2#8]) [[3#8]]).dev.upp.statusSlot = some [2#8]
    ∧ (sendingWith none [[3#8]]).dev.upp.replyQueue = [[3#8]] ∧ (sendingWith none []).dev.upp.replyQueue = []
    ∧ ([sendingWith (some [2#8]) [[3#8]], sendingWith none [[3#8]], sendingWith none []].all fun s =>
        s.dev.running && s.dev.upp.sending.isSome && !s.dev.restartReplyOnWire) = true := by decide

/-! ## Cycles -/

/-- The machine standing, with the given last accepted tag. -/
def tagged (s : State) (t : Option Byte) : State := withUpp s fun u => { u with lastTag := t }

theorem test_meets_CycleFrameJudgedByTag :
    (zeros 88).length = 88 ∧ standing.dev.listening = true
    ∧ (tagged standing (some 0#8)).dev.upp.lastTag = some (byteAt (zeros 88) 0)
    ∧ (tagged standing none).dev.upp.lastTag ≠ some (byteAt (zeros 88) 0)
    ∧ (tagged standing (some 0xFF#8)).dev.upp.lastTag ≠ some (byteAt (zeros 88) 0)
    ∧ Device.follows 0xFF#8 (byteAt (zeros 88) 0) = true
    ∧ Device.follows 0xFE#8 (byteAt (zeros 88) 0) = false := by decide

theorem test_meets_AcceptedFrameHandsContentToBlocks :
    (zeros 88).length = 88 ∧ standing.dev.listening = true ∧ (sendingWith none []).dev.listening = true
    ∧ standing.dev.upp.lastTag ≠ some (byteAt (zeros 88) 0) ∧ standing.dev.upp.sending = none
    ∧ (sendingWith none []).dev.upp.sending ≠ none := by decide

theorem test_meets_FrameOutsideGaitControlMovesNoLeg :
    unarmed.dev.listening = true ∧ sitting.dev.listening = true ∧ unarmed.dev.mhu.mode = .unarmed
    ∧ sitting.dev.mhu.mode = .safeSit ∧ unarmed.dev.upp.lastTag ≠ some (byteAt (zeros 88) 0)
    ∧ ∀ l, unarmed.dev.leg l = unsetLeg ∧ sitting.dev.leg l = unsetLeg := by
  refine ⟨by decide, by decide, by decide, by decide, by decide, fun l => ?_⟩
  cases l <;> decide

/-- The silence timer runs. -/
def timed (s : State) : State := withUpp s fun u => { u with silenceTimer := some 800 }

theorem test_meets_SilenceExpiryHoldsAndStartsLocalCycles :
    ([timed standing, timed walking, timed unarmed, timed sitting].all fun s =>
      s.dev.running && s.dev.upp.silenceTimer.isSome && s.dev.mhu.stack.isEmpty) = true
    ∧ (timed standing).dev.mhu.mode = .stand ∧ (timed walking).dev.mhu.mode = .walk
    ∧ (timed unarmed).dev.mhu.mode = .unarmed ∧ (timed sitting).dev.mhu.mode = .safeSit := by decide

/-- The host is silent: the local cycle timer runs. -/
def silent (s : State) : State := withUpp s fun u => { u with localTimer := some 200 }

theorem test_meets_LocalCycleRunsWithoutFrame :
    (silent walking).dev.running = true ∧ (silent walking).dev.upp.localTimer ≠ none
    ∧ (silent walking).dev.upp.sending = none ∧ (silent (sendingWith none [])).dev.upp.sending ≠ none := by decide

/-- A walk with a leg in SWING, one in LANDING and two waiting, braced at the lowest limit. -/
def midStep : State :=
  walking.withDev
    { walking.dev with
      tbs := { tables with
        deviceConfig := { defaultDeviceConfig with mBrace := -2047 }
        pose := .replicate { zeroPoseRecord with reach := .replicate 1 } }
      gpe := { walking.dev.gpe with legs :=
        ⟨{ unsetLeg with state := .swing, progress := some 5, liftoff := some ⟨0, 0, 0⟩ },
         { unsetLeg with state := .landing, landing := 3 },
         { unsetLeg with state := .liftWait, wait := 7 }, { unsetLeg with state := .liftWait, wait := 4096 }⟩ } }

/-- Four records, none of them MARGIN. -/
def fullStack : List HoldRecord :=
  [holdOf .host .walk, holdOf (.slip .fl) .hold, holdOf (.slip .fr) .hold, holdOf .linkSilent .hold]

/-- The silence expiry in WALK, in HOLD with room, with its own record on the stack, and with a full stack. -/
theorem test_meets_SilenceExpiryHoldsAndStartsLocalCycles_hold :
    let slips := [holdOf .host .walk, holdOf (.slip .fl) .hold, holdOf (.slip .fr) .hold]
    let after (s : State) := match exec .silenceExpiry (timed s) with
      | .next t => (t.dev.mhu.stack.map (·.hold), t.dev.gpe.legs.toList.map (·.state), (t.dev.factor .modeChanged).count)
      | _ => ([], [], 0)
    let still := List.replicate 4 LegState.stance
    after midStep = ([.linkSilent], [.setDown, .setDown, .liftWait, .liftWait], 1)
    ∧ after (holding slips) = (slips.map (·.hold) ++ [.linkSilent], still, 0)
    ∧ after (holding fullStack) = (fullStack.map (·.hold), still, 0)
    ∧ after (holding (slips ++ [holdOf .margin .hold])) = ([], List.replicate 4 .unset, 1) := by decide +kernel

/-- A local cycle that leaves every leg in its state, with its counters counted; and one whose brace check overflows
the stack into SAFE_SIT. -/
theorem test_meets_LocalCycleRunsWithoutFrame_legs :
    (match exec .localCycle (silent midStep) with
      | .next t => (t.dev.mhu.mode, t.dev.gpe.phase, t.dev.gpe.legs.toList.map fun r => (r.state, r.wait, r.landing, r.clear))
      | _ => (.unarmed, 0, []))
      = (.walk, 40, [(.swing, 0, 0, 1), (.landing, 0, 4, 0), (.liftWait, 8, 0, 0), (.liftWait, 4096, 0, 0)])
    ∧ (match exec .localCycle (silent (holding fullStack)) with
      | .next t => (t.dev.mhu.mode, t.dev.gpe.phase)
      | _ => (.unarmed, 1)) = (.safeSit, 0) := by decide +kernel

/-! ## Requests -/

/-- Two replies wait behind the frame being sent. -/
def full : State := sendingWith none [[1#8], [2#8]]

theorem test_meets_RequestDroppedWhenTwoRepliesWait :
    (Instr.ident 7#8 []).wellFormed = true ∧ requestBody (.ident 7#8 []) = some [3#8, 7#8, 9#8]
    ∧ full.dev.listening = true ∧ 2 ≤ full.dev.upp.replyQueue.length
    ∧ hostFrame (.ident 7#8 []) = some (upstreamFrame kindManagement [3#8, 7#8, 9#8])
    ∧ restarting.dev.running = true ∧ restarting.dev.upp.restartPending = true :=
  ⟨by decide, rfl, by decide, by decide, rfl, by decide, by decide⟩

theorem test_meets_ExecutedRequestAnsweredOnce :
    requestBody (.hold 7#8 []) = some [3#8, 7#8, 3#8] ∧ (Instr.hold 7#8 []).wellFormed = true
    ∧ standing.dev.ready = true ∧ standing.dev.upp.sending = none ∧ standing.dev.upp.statusSlot = none
    ∧ standing.dev.upp.replyQueue = [] ∧ (sendingWith none [[1#8]]).dev.ready = true
    ∧ (sendingWith none [[1#8]]).dev.upp.sending ≠ none := by decide

/-- The port with a frame on the wire, and the idle one, take a reply. -/
theorem test_meets_ExecutedRequestAnsweredOnce_port :
    (full.dev.portReplied 3 7 .malformed).replyQueue = [[1#8], [2#8], [3#8, 7#8, 6#8, 0#8, 0#8]]
    ∧ full.dev.upp.sending ≠ none
    ∧ (standing.dev.portReplied 3 7 (.refusedInvalid .faults 9)).sending
      = some (.reply [3#8, 7#8, 2#8, 17#8, 9#8]) := by decide

theorem test_meets_MalformedRequestsChangeNothing :
    managementCommand [9#8, 7#8] = .malformedRequest [9#8, 7#8]
    ∧ managementCommand [3#8, 7#8] = .malformedRequest [3#8, 7#8]
    ∧ managementCommand [3#8, 7#8, 0#8] = .malformedRequest [3#8, 7#8, 0#8] ∧ standing.dev.ready = true
    ∧ ([0#8] : List Byte) ≠ [] ∧ ([] : List Byte).length ≠ 1 ∧ (zeros 3).length ≠ 4
    ∧ ∃ names : Byte, [0x80#8] = [names] ∧ (names.getLsbD 7 = true ∨ names = 0) := by decide

/-- IDENT is met in the reset state: its reply of five bytes follows the outcome. -/
theorem test_meets_IdentReturnsIdentification :
    State.reset.dev.ready = true
    ∧ (State.reset.replied 3#8 7#8 (.done [0x6C#8, 0x0D#8, 0x12#8, 0x0C#8, 3#8])).dev.upp.sending
      = some (.reply [3#8, 7#8, 0#8, 0#8, 0#8, 0x6C#8, 0x0D#8, 0x12#8, 0x0C#8, 3#8]) := by decide

theorem test_meets_RestartStopsTimersAndPends :
    standing.dev.ready = true ∧ standing.dev.upp.sending = none ∧ standing.dev.upp.replyQueue = []
    ∧ (sendingWith (some [1#8]) [[2#8]]).dev.ready = true ∧ (sendingWith (some [1#8]) [[2#8]]).dev.upp.sending ≠ none := by
  decide

theorem test_meets_ReadStateReportsAndClearsByPolicy :
    standing.dev.ready = true ∧ (0x7F#8).getLsbD 7 = false ∧ (0x7F#8 : Byte) ≠ 0 ∧ (0x7F#8).getLsbD 6 = true
    ∧ (0x01#8).getLsbD 7 = false ∧ (0x01#8 : Byte) ≠ 0 ∧ (0x01#8).getLsbD 6 = false
    ∧ (State.reset.dev.factor .resetDone).flag = true
    ∧ (holding [holdOf .host .walk]).dev.mhu.stack[0]? = some (holdOf .host .walk) := by decide

theorem test_meets_ClearFactorsClearsNamedSet :
    standing.dev.ready = true ∧ (0x7F#8).getLsbD 7 = false ∧ (0x80#8).getLsbD 7 = true := by decide

theorem test_meets_ClearFaultsKeepsReportedFaults : standing.dev.ready = true := by decide

/-! ## Tables -/

theorem test_meets_TableWriteJudgedInOrder :
    standing.dev.ready = true ∧ (Device.tableWrite [] standing.dev).1 = .malformed
    ∧ TableId.ofCode 0 = none ∧ TableId.ofCode 7 = none ∧ TableId.ofCode 1 = some .gait
    ∧ (zeros 57).length ≠ 1 * TableId.gait.entrySize
    ∧ (zeros 0).length = 0 * TableId.gait.entrySize
    ∧ (zeros 58).length = 1 * TableId.gait.entrySize ∧ TableId.gait.base + TableId.gait.entries ≤ 8
    ∧ (Device.tableWrite (1#8 :: 7#8 :: 2#8 :: zeros 116) standing.dev).1 = .refusedRange
    ∧ (Device.tableWrite (1#8 :: 0#8 :: 1#8 :: zeros 58) walking.dev).1 = .refusedMode
    ∧ (Device.tableWrite (4#8 :: 0#8 :: 1#8 :: zeros 2) standing.dev).1 = .refusedRange
    ∧ (Device.tableWrite (5#8 :: 0#8 :: 1#8 :: zeros 6) standing.dev).1 = .refusedMode := by decide +kernel

theorem test_meets_GaitWriteStoresClampedRecords :
    ([unarmed, standing, walking, sitting].all fun s => s.dev.ready) = true ∧ (zeros 58).length = (1#8).toNat * 58
    ∧ (0#8).toNat + (1#8).toNat ≤ 8 ∧ (7#8).toNat + (1#8).toNat ≤ 8 ∧ walking.dev.gpe.current.val < (7#8).toNat
    ∧ walking.dev.mhu.mode = .walk := by decide

/-- A joint entry with the given lower limit, upper limit 9000 and a step limit of 120. -/
def jointEntry (lo : Int) : List Byte := bytes16s lo ++ bytes16s 9000 ++ bytes16 120 ++ zeros 12

theorem test_meets_JointWriteKeepsPosesReachable :
    (jointEntry 0).length = (1#8).toNat * 18 ∧ unarmed.dev.ready = true ∧ standing.dev.ready = true
    ∧ (11#8).toNat + (1#8).toNat ≤ 12 ∧ unarmed.dev.mhu.mode = .unarmed ∧ standing.dev.mhu.mode ≠ .unarmed
    ∧ Device.excludedJoint (standing.dev.tbs.writeJoints ⟨11, 1⟩ (jointEntry 0)) ⟨11, 1⟩ = none
    ∧ Device.excludedJoint (standing.dev.tbs.writeJoints ⟨11, 1⟩ (jointEntry 1)) ⟨11, 1⟩ = some ⟨.rl, .kn⟩ := by
  decide +kernel

/-- The first joint and the first leg named when several fail: only the written joints count, and of two legs the one of
the lower number. The clamps of a joint record at the ends of their ranges. -/
theorem test_meets_JointWriteKeepsPosesReachable_first :
    let t := standing.dev.tbs.writeJoints ⟨4, 4⟩ ((List.replicate 4 (jointEntry 1)).flatten)
    Device.excludedJoint t ⟨4, 4⟩ = some ⟨.fr, .hf⟩ ∧ Device.excludedJoint t ⟨6, 2⟩ = some ⟨.rr, .ha⟩
    ∧ Device.excludedJoint t ⟨8, 4⟩ = none ∧ t.firstInvalidPose = some .fr
    ∧ (t.jointAt ⟨.fr, .ha⟩, (t.jointAt ⟨.fr, .hf⟩).lo) = (jointRecord, 1)
    ∧ jointOfBytes (List.replicate 18 0xFF#8)
      = ⟨-1, 0, 3000, .clamp, 1024, -1, -1, -1, 3000, ⟨true, true, true, true, true, false, false⟩⟩ := by decide +kernel

/-- A profile entry for each index from 1 that rises, falls and rises again at index 15. -/
def brokenProfile : List Byte := (List.range 15).flatMap fun k => bytes16 (if k = 13 then 0 else 100)

theorem test_meets_PoseAndProfileWritesJudged :
    (zeros 24).length = (1#8).toNat * 24 ∧ (3#8).toNat + (1#8).toNat ≤ 4 ∧ unarmed.dev.ready = true
    ∧ (standing.dev.tbs.writePoses ⟨3, 1⟩ (zeros 24)).firstInvalidPose = none
    ∧ (standing.dev.tbs.writePoses ⟨3, 1⟩ (bytes16 9001 ++ zeros 22)).firstInvalidPose = some .rl
    ∧ brokenProfile.length = (15#8).toNat * 2 ∧ 1 ≤ (1#8).toNat ∧ (1#8).toNat + (15#8).toNat ≤ 16
    ∧ peakBreak (standing.dev.tbs.writeProfile ⟨1, 15⟩ (zeros 30)).liftProfile = none
    ∧ peakBreak (standing.dev.tbs.writeProfile ⟨1, 15⟩ brokenProfile).liftProfile = some 15 := by decide +kernel

theorem test_meets_ConfigWritesStoreClampedFields :
    unarmed.dev.ready = true ∧ unarmed.dev.mhu.mode = .unarmed ∧ (zeros 6).length = 6 ∧ (zeros 30).length = 30
    ∧ linkConfigOfBytes (zeros 6) = ⟨1, 8, 1#16, 0#16⟩
    ∧ deviceConfigOfBytes (List.replicate 30 0xFF#8)
      = ⟨64, 15, 4095, 4094, -1, 100, 1024, 1023, .flag, 1022, .flag, 100, 1024, 800, 64, 0x7FFFFC00#32, true,
         .explicit, .explicit⟩ := by decide +kernel

theorem test_meets_TableReadReturnsStoredEntries :
    standing.dev.ready = true ∧ ([1#8, 0#8] : List Byte).length ≠ 3 ∧ TableId.ofCode (0#8).toNat = none
    ∧ TableId.ofCode (1#8).toNat = some .gait ∧ TableId.ofCode (4#8).toNat = some .liftProfile
    ∧ (0#8).toNat < TableId.liftProfile.base ∧ TableId.gait.base + TableId.gait.entries < (7#8).toNat + (2#8).toNat
    ∧ (7#8).toNat + (1#8).toNat ≤ TableId.gait.base + TableId.gait.entries
    ∧ (1#8).toNat + (15#8).toNat ≤ TableId.liftProfile.base + TableId.liftProfile.entries := by decide

/-! ## Modes and holds -/

theorem test_meets_ArmEntersStand :
    unarmed.dev.ready = true ∧ unarmed.dev.mhu.mode = .unarmed ∧ (∀ n, (unarmed.dev.node n).live = true)
    ∧ (∀ n, (unarmed.dev.unmasked n).any = false) ∧ unarmed.dev.gaitRecord.isValid = true
    ∧ unarmed.dev.tbs.jointValid = true
    ∧ (∀ l, (unarmed.dev.tbs.pose.get l).isValid (unarmed.dev.tbs.joint.get l) = true)
    ∧ peakBreak unarmed.dev.tbs.liftProfile = none := by
  refine ⟨by decide, by decide, (Node.all_iff _).mp (by decide), fun n => ?_, by decide, by decide,
    (Leg.all_iff _).mp (by decide), by decide⟩
  rcases n with ⟨l, x⟩; cases l <;> cases x <;> decide

/-- The unarmed machine with other nodes or tables. -/
def unarmedWith (nsv : Supervisor) (tbs : TableStore) : State :=
  unarmed.withDev { unarmed.dev with nsv := nsv, tbs := tbs }

/-- What ARM would name in each refused case: a silent node, a faulted node, an invalid gait, joint, pose and profile. -/
theorem test_meets_ArmRefusedNamesFirstObstacle :
    (unarmedWith supervisorAtReset tables).dev.armJudgements.armObstacle = some (.nodes, 0)
    ∧ (unarmedWith { liveNodes with nodes := .replicate (.replicate { nodeAtReset with
        live := true, latched := { noFaults with encoder := true } }) } tables).dev.armJudgements.armObstacle
      = some (.faults, 0)
    ∧ (unarmedWith liveNodes { tables with gait := .replicate 8 zeroGaitEntry }).dev.armJudgements.armObstacle
      = some (.gait, 0)
    ∧ (unarmedWith liveNodes { tables with joint := .replicate (.replicate zeroJoint), jointValid := false }
        ).dev.armJudgements.armObstacle = some (.joint, 0)
    ∧ (unarmedWith liveNodes { tables with joint := .replicate (.replicate { jointRecord with lo := 1 }) }
        ).dev.armJudgements.armObstacle = some (.pose, 0)
    ∧ (unarmedWith liveNodes (tables.writeProfile ⟨1, 15⟩ brokenProfile)).dev.armJudgements.armObstacle
      = some (.liftProfile, 15)
    ∧ standing.dev.ready = true ∧ standing.dev.mhu.mode ≠ .unarmed := by decide +kernel

/-- The first invalid joint and pose behind valid ones; and every fault under a mask of all five drive faults, which
takes those and leaves NODE_LOST, beside a drive with no mask and a foot node, which has none. -/
theorem test_meets_ArmRefusedNamesFirstObstacle_masked :
    let all : FaultSet := ⟨true, true, true, true, true, true, true⟩
    let drives : FaultSet := { all with nodeLost := false, sensorFault := false }
    let at_ (j : JointRecord) : TableStore := { tables with
      joint := tables.joint.set .rr ⟨jointRecord, j, jointRecord⟩, jointValid := j.isValid }
    let d := (unarmedWith { liveNodes with nodes := .replicate (.replicate { nodeAtReset with live := true, latched := all }) }
      (at_ { jointRecord with faultMask := drives })).dev
    (unarmedWith liveNodes (at_ zeroJoint)).dev.armJudgements.armObstacle = some (.joint, 7)
    ∧ (unarmedWith liveNodes (at_ { jointRecord with lo := 1 })).dev.armJudgements.armObstacle = some (.pose, 2)
    ∧ d.unmasked ⟨.rr, .hf⟩ = { noFaults with nodeLost := true, sensorFault := true }
    ∧ d.unmasked ⟨.rr, .ha⟩ = all ∧ d.unmasked ⟨.rr, .foot⟩ = all
    ∧ Slot.hf = JointIx.hf.slot ∧ noFaults.any = false := by decide +kernel

/-- Every mode in which a mode request is judged. -/
theorem test_meets_mode_requests :
    ([unarmed, standing, walking, sitting, holding [holdOf .host .walk]].map fun s => (s.dev.ready, s.dev.mhu.mode))
      = [(true, .unarmed), (true, .stand), (true, .walk), (true, .safeSit), (true, .hold)] := by decide

theorem test_meets_DisarmReleasesEveryLeg :
    standing.dev.ready = true ∧ standing.dev.mhu.mode = .stand ∧ sitting.dev.mhu.mode = .safeSit
    ∧ walking.dev.ready = true ∧ walking.dev.mhu.mode = .walk := by decide

/-- A link of each kind that DISARM finds: in BREAK, in SENDING, with a frame abandoned already, and in none of these. -/
theorem test_meets_DisarmReleasesEveryLeg_links :
    let link (s : LinkState) (t : Option Nat) :=
      (withLink standing .fl fun k => { k with state := s, inFlight := some command, abandoned := t }).dev.link .fl
    ((link .lowBreak none).abandoned, (link .lowBreak none).state) = (none, .lowBreak)
    ∧ ((link .sending none).abandoned, (link .sending none).state) = (none, .sending)
    ∧ (link .sending (some 14)).abandoned = some 14 ∧ (standing.dev.link .fl).state = .idle := by decide

theorem test_meets_SitEntersSafeSit :
    walking.dev.ready = true ∧ walking.dev.mhu.mode = .walk ∧ walking.dev.loweringComplete = true
    ∧ State.reset.dev.loweringComplete = false ∧ sitting.dev.mhu.mode = .safeSit := by decide

/-- Four records, none of them HOST. -/
def fourHolds : List HoldRecord :=
  [holdOf .margin .walk, holdOf (.slip .fl) .hold, holdOf (.slip .fr) .hold, holdOf .linkSilent .hold]

theorem test_meets_HostHoldOutcomes :
    (holding [holdOf .host .walk]).dev.ready = true ∧ (∃ r ∈ (holding [holdOf .host .walk]).dev.mhu.stack, r.hold = .host)
    ∧ (∀ r ∈ (holding (fourHolds.take 3)).dev.mhu.stack, r.hold ≠ .host)
    ∧ (holding (fourHolds.take 3)).dev.mhu.stack.length < 4
    ∧ (∀ r ∈ (holding fourHolds).dev.mhu.stack, r.hold ≠ .host) ∧ 4 ≤ (holding fourHolds).dev.mhu.stack.length
    ∧ unarmed.dev.mhu.mode = .unarmed := by decide

/-- Requests of every outcome: no hold in UNARMED and SAFE_SIT, the same hold, a first hold, one in HOLD, a full stack;
and legs that a first hold converts. -/
theorem test_meets_PushRequestJudgedAgainstStack :
    unarmed.dev.mhu.mode = .unarmed ∧ sitting.dev.mhu.mode = .safeSit
    ∧ (∃ r ∈ (holding [holdOf (.snag .fl) .walk]).dev.mhu.stack, r.hold = (PushRequest.snag .fl).hold)
    ∧ walking.dev.mhu.mode = .walk ∧ walking.dev.mhu.stack = [] ∧ standing.dev.mhu.stack = []
    ∧ (∀ r ∈ (holding [holdOf .host .walk]).dev.mhu.stack, r.hold ≠ (PushRequest.margin).hold)
    ∧ (holding [holdOf .host .walk]).dev.mhu.stack.length < 4 ∧ (holding [holdOf .host .walk]).dev.mhu.mode = .hold
    ∧ (∀ r ∈ (holding fullStack).dev.mhu.stack, r.hold ≠ (PushRequest.margin).hold)
    ∧ 4 ≤ (holding fullStack).dev.mhu.stack.length
    ∧ (midStep.dev.request (.noGround .fr)).gpe.legs.toList.map (·.state) = [.setDown, .hang, .liftWait, .liftWait]
    ∧ (midStep.dev.request .margin).gpe.legs.toList.map (·.state) = [.setDown, .setDown, .liftWait, .liftWait] := by
  decide

theorem test_meets_ResumePopsTopWhenConditionMet :
    standing.dev.ready = true ∧ standing.dev.mhu.stack = []
    ∧ (holding [holdOf .host .walk]).dev.mhu.stack = [] ++ [holdOf .host .walk]
    ∧ (holding [holdOf .host .walk]).dev.resumable .host = true
    ∧ (holding fourHolds).dev.mhu.stack = fourHolds.take 3 ++ [holdOf .linkSilent .hold]
    ∧ (holding fourHolds).dev.resumable .linkSilent = false := by decide

/-- The same RESUME reaches the pop that LastPopLeavesHold speaks of. -/
theorem test_meets_ResumePopsTopWhenConditionMet_pop :
    (match exec (.resume 7#8 []) (holding [holdOf .host .walk]) with
      | .next t => (t.dev.mhu.mode, t.dev.gpe.phase, t.dev.gpe.legs.toList.map (·.state))
      | _ => (.unarmed, 0, [])) = (.walk, 40, [.stance, .stance, .stance, .stance]) := by decide +kernel

/-- A pop that leaves a record: of NO_GROUND with its subject in HANG, which touches down and sets the latch of the leg
that names it as a partner; of NO_GROUND with its subject in STANCE, and of another hold, after which no leg changes. -/
theorem test_meets_ResumePopsTopWhenConditionMet_touchdown :
    let below := [holdOf .host .walk]
    let hangs (s : LegState) (h : Hold) : Device :=
      let d := (withLeg (holding (below ++ [holdOf h .hold])) fun r => { r with state := s, landing := 9 }).dev
      let legs := (creep 40).legs.modify .fr fun g => { g with partner := ⟨true, false, false, false⟩ }
      let gait := tables.gait.set 0 { record := { creep 40 with legs := legs }, valid := true }
      { d with
        tbs := { tables with gait := gait }
        gpe := { d.gpe with legs := d.gpe.legs.map fun r => { r with partnerLatch := false } } }
    let popped (s : LegState) (h : Hold) := (hangs s h).popRecord (holdOf h .hold)
    (hangs .hang (.noGround .fl)).mhu.stack = below ++ [holdOf (.noGround .fl) .hold] ∧ below ≠ []
    ∧ ((hangs .hang (.noGround .fl)).gaitLeg .fr).partner.get .fl = true
    ∧ (popped .hang (.noGround .fl)).mhu.stack = below
    ∧ (popped .hang (.noGround .fl)).leg .fl = { unsetLeg with state := .stance, stanceBase := some ⟨0, 0, 0⟩ }
    ∧ (popped .hang (.noGround .fl)).gpe.legs.toList.map (·.partnerLatch) = [false, true, false, false]
    ∧ (popped .stance (.noGround .fl)).gpe = (hangs .stance (.noGround .fl)).gpe
    ∧ (popped .hang .margin).gpe = (hangs .hang .margin).gpe := by decide +kernel

theorem test_meets_LastPopLeavesHold :
    (holding [holdOf .host .walk]).dev.mhu.mode = .hold ∧ (holding [holdOf .host .walk]).dev.legsFitMode = true
    ∧ (holding [holdOf .host .walk]).dev.mhu.stack = [holdOf .host .walk]
    ∧ (holding [holdOf .host .walk]).dev.mhu.walkFlag = true ∧ (holdOf .host .walk).modeAtPush = .walk
    ∧ Device.groundedAtPush (holdOf .host .walk) = true
    ∧ Device.groundedAtPush { holdOf .host .walk with legStates := ⟨.swing, .stance, .stance, .stance⟩ } = false
    ∧ (holdOf .host .stand).modeAtPush ≠ .walk ∧ (holding [holdOf .host .stand]).dev.gpe.waiting = none := by decide

/-- RR waits in WALK on the creep gait, with the body state of section 4.7 and every foot in contact. -/
def rrWaits (contact : Contact) (com : Point) : State :=
  walking.withDev
    { walking.dev with
      gpe := { walking.dev.gpe with legs := walking.dev.gpe.legs.modify .rr fun r => { r with state := .liftWait } }
      cfl := .replicate { filterAtReset with contact := contact }
      bal := { balanceAtReset with body := some { creepBody with com := com } } }

theorem test_meets_LiftAndTouchdownWriteLegRecords :
    ([rrWaits .present ⟨20, 10⟩, rrWaits .present ⟨0, 0⟩, rrWaits .unknown ⟨20, 10⟩].all fun s =>
      decide (s.dev.legState .rr = .liftWait) && (s.dev.node ⟨.rr, .foot⟩).live
        && !(s.dev.node ⟨.rr, .foot⟩).reported.sensorFault) = true
    ∧ (rrWaits .present ⟨20, 10⟩).dev.mayAskToLift .rr = true
    ∧ ((rrWaits .present ⟨20, 10⟩).dev.marginWithout .rr).value = 26
    ∧ ((rrWaits .present ⟨20, 10⟩).dev.tryLift .rr).legState .rr = .swing
    ∧ (rrWaits .present ⟨0, 0⟩).dev.mayAskToLift .rr = true
    ∧ ((rrWaits .present ⟨0, 0⟩).dev.tryLift .rr).legState .rr = .liftWait
    ∧ (rrWaits .unknown ⟨20, 10⟩).dev.mayAskToLift .rr = false := by decide +kernel

/-- The clauses of the counter update on leg FL: a wait that passes T_wait = 100 and one that does not, a cleared
swing, an uncleared one that reaches T_clear = 6 in contact and one that does not, a landing that reaches T_land = 40
or has its reach pose delivered and one that has not, a set-down complete and one still in the air. -/
theorem test_meets_LiftAndTouchdownWriteLegRecords_counters :
    let leg (s : LegState) (n : Nat) (x : Contact) (reach : Int) : Device :=
      let d := (withLeg walking fun r => { r with state := s, wait := n, landing := n, clear := n }).dev
      { d with
        cfl := .replicate { filterAtReset with contact := x }
        tbs := { tables with pose := .replicate { zeroPoseRecord with reach := .replicate reach } } }
    let clearsAt : Nat := (leg .swing 5 .present 1).tbs.deviceConfig.tClear
    (((leg .liftWait 100 .present 1).updateCounter .fl).leg .fl).wait = 101
    ∧ (((leg .liftWait 100 .present 1).updateCounter .fl).factor .liftStarved).count = 1
    ∧ (((leg .liftWait 101 .present 1).updateCounter .fl).factor .liftStarved).count = 0
    ∧ clearsAt = 6 ∧ ((leg .swing 5 .present 1).leg .fl).cleared = false
    ∧ ((leg .swing 5 .present 1).updateCounter .fl).legState .fl = .setDown
    ∧ ((leg .swing 5 .absent 1).updateCounter .fl).legState .fl = .swing
    ∧ ((leg .swing 4 .present 1).updateCounter .fl).legState .fl = .swing
    ∧ (leg .swing 6 .present 1).updateCounter .fl = leg .swing 6 .present 1
    ∧ ((leg .landing 39 .absent 1).updateCounter .fl).legState .fl = .hang
    ∧ ((leg .landing 38 .absent 1).updateCounter .fl).legState .fl = .landing
    ∧ ((leg .landing 0 .absent 0).updateCounter .fl).legState .fl = .hang
    ∧ ((leg .setDown 0 .present 1).updateCounter .fl).legState .fl = .stance
    ∧ ((leg .setDown 0 .absent 1).updateCounter .fl).legState .fl = .setDown := by decide +kernel

/-! ## Limb links -/

/-- The front-left link in a state, with or without a command in flight, abandoned or not, and a command waiting. -/
def linkIn (state : LinkState) (flight waiting : Option LimbCommand) (abandoned : Option Nat) : State :=
  withLink standing .fl fun k =>
    { k with state := state, inFlight := flight, waiting := waiting, abandoned := abandoned }

theorem test_meets_PreambleAndBreakEndPassOn :
    ([linkIn .preamble none none none, linkIn .preamble none (some command) none,
      linkIn .lowBreak (some command) none none].all fun s => s.dev.running) = true
    ∧ ((linkIn .preamble none none none).dev.link .fl).state = .preamble
    ∧ ((linkIn .preamble none (some command) none).dev.link .fl).waiting = some command
    ∧ ((linkIn .lowBreak (some command) none none).dev.link .fl).state = .lowBreak
    ∧ ((linkIn .lowBreak (some command) none none).dev.link .fl).abandoned = none
    ∧ ((linkIn .idle none none none).dev.link .fl).state = .idle
    ∧ ((linkIn .sending (some command) (some command) none).dev.link .fl).waiting ≠ none := by decide

/-- A second command handed over while one waits replaces it, with CYCLE_OVERRUN. -/
theorem test_meets_PreambleAndBreakEndPassOn_handOff :
    (((linkIn .sending (some command) (some command) none).dev.handOff .fl command).factor .cycleOverrun).count = 1
    ∧ (((linkIn .sending (some command) none none).dev.handOff .fl command).factor .cycleOverrun).count = 0
    ∧ (((linkIn .idle none none none).dev.handOff .fl command).link .fl).state = .lowBreak := by decide

theorem test_meets_DeliveredCommandBecomesLastDelivered :
    (linkIn .sending (some command) none none).dev.running = true
    ∧ ((linkIn .sending (some command) none none).dev.link .fl).state = .sending
    ∧ ((linkIn .sending (some command) none none).dev.link .fl).abandoned = none
    ∧ ((linkIn .sending (some command) none none).dev.link .fl).inFlight = some command
    ∧ (command.get .ha).position = some 0 ∧ sitting.dev.loweringComplete = true
    ∧ sitting.dev.mhu.sit = some .lowering := by decide

/-- The break is low and the start bit of the frame follows it: a high read-back at its first, last and next bit time
is a mismatch, a low one is none. -/
theorem test_meets_EchoMismatchAbandonsFrame :
    ((linkIn .lowBreak (some command) none none).dev.link .fl).inFlight = some command
    ∧ majority3 ⟨true, true, false⟩ ≠ (transmissionBits defaultLinkConfig .fl command).getD 0 true
    ∧ majority3 ⟨false, true, false⟩ = (transmissionBits defaultLinkConfig .fl command).getD 0 true
    ∧ majority3 ⟨true, true, false⟩ = (transmissionBits defaultLinkConfig .fl command).getD 13 true
    ∧ ((linkIn .sending (some command) none none).dev.link .fl).state = .sending
    ∧ majority3 ⟨true, true, false⟩ ≠ (transmissionBits defaultLinkConfig .fl command).getD 14 true
    ∧ majority3 ⟨true, true, false⟩ = (transmissionBits defaultLinkConfig .fl command).getD 193 true := by decide +kernel

/-- The bytes of a command frame: header, the entries of HA, HF and KN, and a CRC; a joint of no known position has the
code 0x8000. -/
theorem test_command_frame :
    (commandBytes defaultLinkConfig .rl
        ⟨⟨some (-2), 0x1234, true⟩, ⟨none, 0, false⟩, ⟨some 300, 4095, false⟩⟩).take 16
      = [0xC3#8, 0xFE#8, 0xFF#8, 0x34#8, 0x12#8, 1#8, 0#8, 0x80#8, 0#8, 0#8, 0#8, 0x2C#8, 1#8, 0xFF#8, 0x0F#8, 0#8] := by
  decide +kernel

theorem test_meets_AbandonedFrameDeliversNothing :
    (linkIn .sending (some command) none (some 193)).dev.running = true
    ∧ ((linkIn .sending (some command) none (some 193)).dev.link .fl).abandoned = some 193
    ∧ ((linkIn .sending (some command) none (some 193)).dev.link .fl).state = .sending
    ∧ ((linkIn .sending (some command) none (some 193)).dev.link .fl).inFlight = some command
    ∧ ((linkIn .lowBreak (some command) none (some 13)).dev.link .fl).state = .lowBreak := by decide

/-- The line of an abandoned frame: a mismatch at the last bit time of the break leaves the 14 of the break; one in the
first character's bit 3 leaves the break and that character, ones from the next bit on. -/
theorem test_abandoned_line :
    lineDrive .fl ((linkIn .lowBreak (some command) none (some 13)).dev.link .fl) = .sending breakBits
    ∧ lineDrive .fl ((linkIn .sending (some command) none (some 18)).dev.link .fl)
      = .sending (breakBits ++ [false, false, false, false, false] ++ List.replicate 5 true) := by decide +kernel

/-- The front-left link in a reply slot whose node has missed that many times in a row. -/
def slotOpen (x : Slot) (misses : Nat) : State :=
  let s := linkIn (.slot x) none none none
  s.withDev (s.dev.modNode ⟨.fl, x⟩ fun r => { r with misses := misses })

theorem test_meets_EmptyAndShortSlotsAreMisses :
    let k := (slotOpen .ha 0).dev.link .fl
    k.state = .slot .ha ∧ ((slotOpen .foot 2).dev.link .fl).state = .slot .foot ∧ k.tail = [true]
    ∧ (slotOpen .ha 0).dev.running = true ∧ 0 < 16 * k.settings.window
    ∧ slotChars k .ha (List.replicate 384 true) = some [] ∧ slotChars k .ha (List.replicate 383 true) = none
    ∧ slotChars k .ha (lineOf 383 [1#8] ++ silence) = some (charsOf [1#8])
    ∧ slotChars k .ha (lineOf 384 [1#8] ++ silence) = none
    ∧ slotChars k .foot (lineOf 0 [1#8, 2#8] ++ silence) = some (charsOf [1#8, 2#8])
    ∧ ((slotOpen .ha 1).dev.node ⟨.fl, .ha⟩).misses < 2 ∧ ((slotOpen .foot 2).dev.node ⟨.fl, .foot⟩).misses = 2
    ∧ ((slotOpen .foot 2).dev.node ⟨.fl, .foot⟩).live = true := by decide +kernel

/-- A false start whose start is the last sample but three of the window: the slot is empty and ends with the window,
four samples before the verification completes; they count in the next window, which is that much shorter. -/
theorem test_meets_EmptyAndShortSlotsAreMisses_straddled :
    let k := (slotOpen .ha 0).dev.link .fl
    let heard := List.replicate 380 true ++ false :: List.replicate 7 true
    let next : LinkController := { k with early := 4 }
    slotChars k .ha heard = some [] ∧ slotChars k .ha (heard.take 384) = none
    ∧ (slotReception k .ha heard).known - (slotReception k .ha heard).ended = 4
    ∧ (match exec (.replyWindowExpiry .fl heard) (slotOpen .ha 0) with
        | .next t => ((t.dev.link .fl).state, (t.dev.link .fl).tail, (t.dev.link .fl).early)
        | _ => (.idle, [], 0)) = (.slot .hf, [true], 4)
    ∧ slotChars next .hf (List.replicate 380 true) = some [] ∧ slotChars next .hf (List.replicate 384 true) = none
    ∧ next.early < 16 * next.settings.window
    ∧ slotChars next .hf (lineOf 379 [1#8] ++ silence) = some (charsOf [1#8])
    ∧ slotChars next .hf (lineOf 380 [1#8] ++ silence) = none := by decide +kernel

/-- The bytes of a reply with its CRC under the default link config. -/
def reply (bs : List Byte) : List Byte := withCrc 0xC867#16 0xFFFF#16 bs

/-- A slot of each judgement: the foot node of FL is node 3. -/
theorem test_meets_ReplySlotJudgedAndCounted :
    judgeSlot defaultLinkConfig ⟨.fl, .foot⟩ [] = .noReply
    ∧ judgeSlot defaultLinkConfig ⟨.fl, .foot⟩ (charsOf (zeros 6)) = .short
    ∧ judgeSlot defaultLinkConfig ⟨.fl, .foot⟩ (⟨3#8, false, true⟩ :: charsOf (zeros 6)) = .framing
    ∧ judgeSlot defaultLinkConfig ⟨.fl, .foot⟩ (charsOf (zeros 7)) = .crcFailed
    ∧ judgeSlot defaultLinkConfig ⟨.fl, .foot⟩ (charsOf (reply (2#8 :: zeros 4))) = .wrongNode
    ∧ judgeSlot defaultLinkConfig ⟨.fl, .foot⟩ (charsOf (reply (3#8 :: zeros 4))) = .good false
    ∧ slotChars ((slotOpen .foot 0).dev.link .fl) .foot (lineOf 20 (reply (3#8 :: zeros 4)))
      = some (charsOf (reply (3#8 :: zeros 4)))
    ∧ (slotChars ((slotOpen .ha 0).dev.link .fl) .ha (lineOf 0 (reply (zeros 6)))).map List.length = some 8
    ∧ (slotOpen .foot 0).dev.running = true := by decide +kernel

/-- A full reply that is not good at a third miss in a row, one of a good drive, and one of a good foot node: each ends
its slot and reaches its block. -/
theorem test_meets_ReplySlotJudgedAndCounted_steps :
    let after (x : Slot) (misses : Nat) (bs : List Byte) :=
      match exec (.replyComplete .fl (lineOf 20 bs)) (slotOpen x misses) with
      | .next t => ([(t.dev.node ⟨.fl, x⟩).live, (t.dev.link .fl).answered.ha], (t.dev.link .fl).state,
          [(t.dev.node ⟨.fl, x⟩).misses, (t.dev.factor .replyCrc).count, (t.dev.factor .nodeLost).count])
      | _ => ([], .preamble, [])
    after .ha 2 (zeros 8) = ([false, false], .slot .hf, [3, 1, 1])
    ∧ after .ha 1 (reply (2#8 :: zeros 5)) = ([true, false], .slot .hf, [2, 0, 0])
    ∧ after .ha 2 (reply (zeros 6)) = ([true, true], .slot .hf, [0, 0, 0])
    ∧ after .foot 2 (zeros 7) = ([false, false], .idle, [3, 1, 1])
    ∧ after .foot 2 (reply (3#8 :: zeros 4)) = ([true, false], .idle, [0, 0, 0]) := by decide +kernel

/-! ## Supervision, contact, supply, balance, composition and gait -/

theorem test_meets_GoodRepliesReachTheirBlocks :
    (standing.dev.jointState ⟨.fl, .ha⟩).lastPosition = some 0 ∧ (State.reset.dev.jointState ⟨.fl, .ha⟩).lastPosition = none
    ∧ (⟨200, true, true⟩ : FootReply).sensorFault = true
    ∧ sampleOf defaultDeviceConfig ⟨false, false, false⟩ 200 = true
    ∧ sampleOf defaultDeviceConfig ⟨true, true, true⟩ 120 = false
    ∧ sampleOf defaultDeviceConfig ⟨false, false, true⟩ 121 = true
    ∧ sampleOf defaultDeviceConfig ⟨false, false, false⟩ 199 = false := by decide

/-- The walk with leg FL in a state, its filter with the given windows, contact and slip record. -/
def footAt (s : LegState) (progress : Nat) (cleared : Bool) (samples shear : Window) (was : Contact) (slipped : Bool) :
    Device :=
  let d := (withLeg walking fun r => { r with state := s, progress := some progress, cleared := cleared }).dev
  { d with cfl := .replicate { filterAtReset with
      samples := samples, shear := shear, contact := was, majority := was, slipReported := slipped } }

/-- A contact change in each state of the leg, and each case of the slip judgement: a load of 0 makes the contact
ABSENT, one of 4095 PRESENT. The early threshold of the creep gait is 60. -/
theorem test_meets_GoodRepliesReachTheirBlocks_contact :
    let quiet : Window := ⟨false, false, false⟩
    let firm : Window := ⟨true, true, true⟩
    let lifts (s : LegState) := (footAt s 0 false ⟨true, true, false⟩ quiet .present false).filterReply .fl ⟨0, false, false⟩
    let lands (s : LegState) (p : Nat) (c : Bool) :=
      (footAt s p c ⟨false, false, true⟩ quiet .absent false).filterReply .fl ⟨4095, false, false⟩
    let slips (s : LegState) (x : Contact) (load : Nat) (slipped : Bool) :=
      (footAt s 0 false firm firm x slipped).filterReply .fl ⟨load, true, false⟩
    ((lifts .stance).factor .unload).count = 1 ∧ ((lifts .swing).leg .fl).cleared = true
    ∧ (lands .swing 5 false).legState .fl = .swing
    ∧ ((lands .swing 59 true).factor .scuff).count = 1 ∧ ((lands .swing 60 true).factor .touchdownEarly).count = 1
    ∧ (lands .landing 0 false).legState .fl = .stance ∧ (lands .setDown 0 false).legState .fl = .stance
    ∧ (lands .hang 0 false).legState .fl = .hang
    ∧ ((slips .stance .present 4095 false).factor .slip).count = 1
    ∧ ((slips .stance .present 4095 true).factor .slip).count = 0
    ∧ ((slips .hang .present 4095 false).factor .slip).count = 0
    ∧ ((footAt .stance 0 false ⟨true, false, false⟩ firm .absent false).filterReply .fl ⟨0, true, false⟩).contact .fl = .absent
    ∧ ((footAt .swing 0 false firm quiet .present false).filterReply .fl ⟨0, true, true⟩).contact .fl = .unknown := by
  decide +kernel

/-- A leg that touches down while its shear runs slips at once, in each state from which it touches down; one that stays
in the air does not; a window of three equal samples is no chatter; and the last leg's touchdown completes a stop. -/
theorem test_meets_GoodRepliesReachTheirBlocks_touchdown :
    let firm : Window := ⟨true, true, true⟩
    let lands (s : LegState) (samples : Window) :=
      (footAt s 60 true samples firm .absent false).filterReply .fl ⟨4095, true, false⟩
    let stops (w : Bool) : Device :=
      let d := footAt .landing 0 false ⟨false, false, true⟩ ⟨false, false, false⟩ .absent false
      ({ d with mhu := { d.mhu with walkFlag := w } } : Device).filterReply .fl ⟨4095, false, false⟩
    ([LegState.swing, .landing, .setDown].map fun s =>
        (((lands s ⟨false, false, true⟩).factor .slip).count, ((lands s ⟨false, false, true⟩).factor .chatter).count))
      = [(1, 1), (1, 1), (1, 1)]
    ∧ ([LegState.swing, .landing, .setDown].map fun s => ((lands s ⟨false, false, false⟩).factor .slip).count)
      = [0, 0, 0]
    ∧ ((lands .hang firm).factor .chatter).count = 0 ∧ ((lands .hang firm).factor .slip).count = 0
    ∧ (stops false).mhu.mode = .stand ∧ (stops true).mhu.mode = .walk
    ∧ ([Leg.fr, .rr, .rl].map (footAt .landing 0 false firm firm .absent false).legState)
      = [.stance, .stance, .stance] := by decide +kernel

/-- The reactions to faults: a drive's OVERCURRENT on a supporting leg, masked or latched before, OVERTEMP, and a foot
node's fault in SWING. -/
theorem test_meets_GoodRepliesReachTheirBlocks_faults :
    let drive (flags : Byte) (d : Device) := d.handOn .fl .ha (.good false) [0#8, flags, 0#8, 0#8, 0xC2#8, 1#8, 0#8, 0#8]
    let old : Device := walking.dev.modNode ⟨.fl, .ha⟩ fun n => { n with latched := { noFaults with overcurrent := true } }
    let foot (s : LegState) := (withLeg walking fun r => { r with state := s }).dev.handOn .fl .foot (.good false)
      [3#8, 0#8, 0#8, 0#8, 1#8, 0#8, 0#8]
    (drive 1#8 walking.dev).mhu.stack.map (·.hold) = [.node ⟨.fl, .ha⟩]
    ∧ (drive 1#8 old).mhu.stack = [] ∧ ((drive 8#8 walking.dev).factor .overtemp).count = 1
    ∧ (drive 8#8 walking.dev).mhu.stack = [] ∧ (foot .swing).mhu.stack.map (·.hold) = [.node ⟨.fl, .foot⟩]
    ∧ (foot .stance).mhu.stack = [] ∧ ((foot .stance).factor .driveFault).count = 1 := by decide +kernel

/-- The levels at their limits: 42.0 V and 38.0 V are not below V1 and V2, and LOW ends at the limit plus V_h. -/
theorem test_meets_SupplyLevelsFollowEstimate :
    levelAfter .normal 420 10 (some 420) = .normal ∧ levelAfter .normal 420 10 (some 419) = .low
    ∧ levelAfter .low 420 10 (some 429) = .low ∧ levelAfter .low 420 10 (some 430) = .normal
    ∧ levelAfter .low 380 10 none = .normal ∧ standing.dev.mhu.mode ≠ .unarmed
    ∧ (standing.withDev { standing.dev with nsv := { liveNodes with
        voltages := .replicate (.replicate ⟨379, 3⟩) } }).dev.formEstimate.mhu.mode = .safeSit
    ∧ standing.dev.formEstimate.nsv.level2 = .normal := by decide +kernel

/-- Of the leg whose transaction ends, the report of a drive that answered stands and the others age, to 4 at most. -/
theorem test_meets_SupplyLevelsFollowEstimate_ages :
    let d := (withLink standing .fl fun k => { k with answered := ⟨true, false, false⟩ }).dev
    let e := ((d.ageReports .fl).ageReports .fl).ageReports .fl
    ((d.ageReports .fl).nsv.voltages.fl.toList.map (·.age), (d.ageReports .fl).nsv.voltages.fr.toList.map (·.age))
      = ([0, 1, 1], [0, 0, 0])
    ∧ ((e.ageReports .fl).ageReports .fl).nsv.voltages.fl.toList.map (·.age) = [0, 4, 4] := by decide

theorem test_meets_ProjectionAndMarginOfFewFeet :
    projection { creepBody with com := ⟨500, -500⟩, height := 800, roll := 2048, pitch := 2048 } = ⟨900, -900⟩
    ∧ feetOf creepBody ⟨true, false, true, false⟩ = [⟨250, 150⟩, ⟨-250, -150⟩]
    ∧ 3 ≤ (feetOf creepBody ⟨true, true, true, false⟩).length
    ∧ doubledArea (feetOf creepBody ⟨true, true, true, true⟩) = 300000
    ∧ doubledArea (feetOf { creepBody with feet := .replicate ⟨0, 0⟩ } ⟨true, true, true, true⟩) = 0
    ∧ walking.dev.bal.current < walking.dev.tbs.deviceConfig.mBrace
    ∧ ¬ midStep.dev.bal.current < midStep.dev.tbs.deviceConfig.mBrace
    ∧ ((⟨true, false, true, false⟩ : LegSet).toList.filter id).length ≤ 2
    ∧ ((⟨true, false, false, false⟩ : LegSet).toList.filter id).length ≤ 1 := by decide

theorem test_meets_ComposedPositionWithinLimits :
    (standing.dev.jointState ⟨.fl, .ha⟩).lastPosition = some 0 ∧ standing.dev.globalGain ≤ 1024
    ∧ standing.dev.jointGain ⟨.fl, .ha⟩ ≤ 1024 ∧ (standing.dev.tbs.jointAt ⟨.fl, .ha⟩).limitMode = .clamp
    ∧ (standing.dev.tbs.jointAt ⟨.fl, .ha⟩).lo ≤ (standing.dev.tbs.jointAt ⟨.fl, .ha⟩).hi
    ∧ unarmed.dev.mhu.mode = .unarmed ∧ (State.reset.dev.jointState ⟨.fl, .ha⟩).lastPosition = none
    ∧ standing.dev.legState .fl = .stance ∧ unarmed.dev.legState .fl = .unset ∧ sitting.dev.legState .fl = .unset
    ∧ sitting.dev.mhu.mode = .safeSit ∧ midStep.dev.legState .fl = .swing
    ∧ (midStep.dev.leg .fl).liftoff = some ⟨0, 0, 0⟩ ∧ (midStep.dev.leg .fl).progress = some 5
    ∧ midStep.dev.legState .fr = .landing ∧ (∀ j, (midStep.dev.composeJoint j).freeze = false) := by
  refine ⟨by decide, by decide, by decide, by decide, by decide, by decide, by decide, by decide, by decide, by decide,
    by decide, by decide, by decide, by decide, by decide, fun j => ?_⟩
  rcases j with ⟨l, i⟩; cases l <;> cases i <;> decide

/-- A segment of each kind on a leg in STANCE, SWING, SETDOWN and HANG: the targets it writes and the base it gives. -/
theorem test_meets_ComposedPositionWithinLimits_segments :
    let leg (s : LegState) (k : TargetKind) : Device :=
      let d := (withLeg walking fun r => { r with
        state := s, liftoff := some ⟨0, 0, 0⟩, progress := some 40, stanceBase := some ⟨7, 8, 9⟩ }).dev
      { d with lcc := { d.lcc with lanes := .replicate { knownLane with segment := some ⟨k, ⟨100, 50, 30⟩, ⟨0, 0, 0⟩⟩ } } }
    let base (s : LegState) (k : TargetKind) := (leg s k).baseTarget ⟨.fl, .ha⟩ 0 0
    base .stance .stance = 100 ∧ base .stance .touchdown = 7 ∧ base .swing .touchdown = 50 ∧ base .swing .stance = 0
    ∧ base .hang .stance = 100 ∧ base .setDown .stance = 0
    ∧ ((leg .stance .stance).keepTargets .fl ((leg .stance .stance).leg .fl)).stanceBase = some ⟨100, 50, 30⟩
    ∧ ((leg .swing .touchdown).keepTargets .fl ((leg .swing .touchdown).leg .fl)).touchdownTarget = some ⟨100, 50, 30⟩ := by
  decide +kernel

/-- What a composition raises: the wrong kind of segment for a leg; a position outside the limits in each mode; a long
step; and the gains under OVERTEMP and DERATE, and of each mode. -/
theorem test_meets_ComposedPositionWithinLimits_raised :
    let bounded (m : LimitMode) : Device :=
      let record : JointRecord := { jointRecord with lo := 1, limitMode := m }
      { standing.dev with tbs := { tables with joint := .replicate (.replicate record) } }
    let sent (k : TargetKind) : Device :=
      let lane : Lane := { knownLane with segment := some ⟨k, ⟨500, 50, 30⟩, ⟨7, 8, 9⟩⟩ }
      { standing.dev with lcc := { standing.dev.lcc with lanes := .replicate lane } }
    let hot : Device := standing.dev.modNode ⟨.fl, .ha⟩ fun n => { n with reported := { noFaults with overtemp := true } }
    let low : Device :=
      let derates : DeviceConfig := { defaultDeviceConfig with action2 := .derate }
      { standing.dev with nsv := { liveNodes with level2 := .low }, tbs := { tables with deviceConfig := derates } }
    ([LimitMode.off, .note, .clamp, .freeze].map fun m => ((bounded m).composeJoint ⟨.fl, .ha⟩).raised)
      = [[], [.limitNote], [.limitClamp], []]
    ∧ ((bounded .freeze).composeJoint ⟨.fl, .ha⟩).freeze = true
    ∧ ((bounded .freeze).compose.factor .limitFreeze).count = 12 ∧ (bounded .freeze).compose.mhu.mode = .safeSit
    ∧ ((sent .stance).composeJoint ⟨.fl, .ha⟩).raised = [.stepLimited]
    ∧ ((sent .touchdown).compose.factor .targetMismatch).count = 4
    ∧ ((sent .stance).compose.factor .targetMismatch).count = 0
    ∧ (hot.jointGain ⟨.fl, .ha⟩, hot.jointGain ⟨.fl, .hf⟩) = (512, 1024)
    ∧ (low.globalGain, standing.dev.globalGain) = (768, 1024)
    ∧ (sent .stance).inputStiffness ⟨.fl, .hf⟩ = 8 ∧ unarmed.dev.inputStiffness ⟨.fl, .hf⟩ = 0 := by decide +kernel

theorem test_meets_FrameInStandSelectsAndStarts :
    standing.dev.mhu.mode = .stand ∧ (1 : Fin 8) ≠ standing.dev.gpe.current ∧ (standing.dev.tbs.gaitAt 1).valid = true
    ∧ ((inMode .stand .stance).dev.takeGaitIndex 1).gpe.current = 1
    ∧ (State.reset.dev.tbs.gaitAt 1).valid = false := by decide

/-- A device with a pending gait index; record 2 alone is not valid. -/
def pending (d : Device) (g : Fin 8) : Device :=
  { d with
    tbs := { tables with gait := tables.gait.set 2 { zeroGaitEntry with valid := false } }
    gpe := { d.gpe with waiting := some g, legs := d.gpe.legs.map fun r => { r with partnerLatch := false } } }

/-- The pending index: set and ended by the frames of WALK and HOLD, and judged on entry to STAND. -/
theorem test_meets_FrameInStandSelectsAndStarts_pending :
    ([walking, holding [holdOf .host .walk]].map fun s => ((s.dev.takeGaitIndex 5).gpe.waiting,
        ((pending s.dev 5).takeGaitIndex 0).gpe.waiting)) = [(some 5, none), (some 5, none)]
    ∧ (unarmed.dev.takeGaitIndex 5).gpe.current = 5 ∧ (sitting.dev.takeGaitIndex 5).gpe.current = 0
    ∧ walking.dev.enterStand.gpe.current = 0
    ∧ ((pending walking.dev 5).enterStand.gpe.current, (pending walking.dev 5).enterStand.gpe.waiting) = (5, none)
    ∧ ((pending walking.dev 5).enterStand.factor .gaitAdopted).count = 1
    ∧ ((pending walking.dev 2).enterStand.gpe.current, (pending walking.dev 2).enterStand.gpe.waiting) = (0, none)
    ∧ ((pending walking.dev 2).enterStand.factor .gaitRefused).count = 1 := by decide +kernel

/-- The walk of the creep gait with leg FL in SWING, started at a phase, with the given contact and node. -/
def flSwings (phase progress : Nat) (x : Contact) (live : Bool) : Device :=
  let d := (withLeg walking fun r => { r with state := .swing, progress := some progress }).dev
  { d with
    gpe := { d.gpe with phase := phase }
    cfl := .replicate { filterAtReset with contact := x }
    nsv := { liveNodes with nodes := .replicate (.replicate { nodeAtReset with live := live }) } }

/-- On the creep gait at phase 40 the front-left lift point is 10 phases ahead; RR at its lift point has none. A stop
with no leg in SWING stands still, and DERATE limits the step. -/
theorem test_meets_AdvanceSkipsNoEventPoint :
    walking.dev.eventDistance .fl = some 10 ∧ walking.dev.advanceOf 64 = 10 ∧ walking.dev.advanceOf 8 = 8
    ∧ walking.dev.gpe.phase < walking.dev.gaitRecord.n
    ∧ (rrWaits .present ⟨0, 0⟩).dev.eventPoint .rr = none
    ∧ ({ walking.dev with mhu := { walking.dev.mhu with walkFlag := false } } : Device).advanceOf 8 = 0
    ∧ (flSwings 100 50 .absent true).eventDistance .fl = some 30
    ∧ ({ walking.dev with nsv := { liveNodes with level1 := .low }, tbs := { tables with deviceConfig :=
        { defaultDeviceConfig with action1 := .derate } } } : Device).effectiveStep 64 = 4 := by decide

/-- Phase steps of each outcome: a plain advance, one to a lift point, one stalled, and the judgement of a swing at its
touchdown point with contact, without it, and without it on a leg whose foot node is not live, which is set down. -/
theorem test_meets_AdvanceSkipsNoEventPoint_steps :
    let after (d : Device) := ((d.stepInWalk 12).gpe.phase, (d.stepInWalk 12).legState .fl)
    walking.dev.mhu.mode = .walk ∧ walking.dev.mhu.stack = []
    ∧ ((walking.dev.stepInWalk 8).gpe.phase, (walking.dev.stepInWalk 8).legState .fl) = (48, .stance)
    ∧ after walking.dev = (50, .liftWait)
    ∧ after (walking.dev.stepInWalk 12) = (50, .liftWait)
    ∧ after (flSwings 101 51 .absent true) = (113, .swing) ∧ ((flSwings 101 51 .absent true).stepInWalk 12).leg .fl
      = { (flSwings 101 51 .absent true).leg .fl with progress := some 63 }
    ∧ after (flSwings 120 70 .present true) = (130, .stance) ∧ after (flSwings 120 70 .absent true) = (130, .landing)
    ∧ after (flSwings 120 70 .absent false) = (130, .setDown) := by decide +kernel

/-- The stages of a phase step: a pending gait adopted, refused and left while a leg swings; a lift point underfoot; the
returns of a stop, with and without a leg in the air; and the completion of a stop. -/
theorem test_meets_AdvanceSkipsNoEventPoint_stages :
    let at_ (phase : Nat) (s : LegState) (w : Bool) : Device :=
      let d := (withLeg walking fun r => { r with state := s, progress := some 3, wait := 9 }).dev
      { d with mhu := { d.mhu with walkFlag := w }, gpe := { d.gpe with phase := phase } }
    let judged (g : Fin 8) (s : LegState) :=
      ((pending (at_ 100 s true) g).stageAdoption.gpe.current, (pending (at_ 100 s true) g).stageAdoption.gpe.waiting,
        (pending (at_ 100 s true) g).stageAdoption.gpe.phase)
    judged 5 .stance = (5, none, 40) ∧ judged 2 .stance = (0, none, 100) ∧ judged 5 .swing = (0, some 5, 100)
    ∧ ((at_ 50 .stance true).liftPointsUnderfoot.leg .fl).state = .liftWait
    ∧ ((at_ 50 .stance false).liftPointsUnderfoot.leg .fl).state = .stance
    ∧ ((at_ 50 .liftWait false).stagePermission.legState .fl, (at_ 50 .liftWait false).stagePermission.mhu.mode)
      = (.stance, .stand)
    ∧ ((at_ 50 .swing false).stagePermission.legState .fl, (at_ 50 .swing false).stagePermission.mhu.mode)
      = (.swing, .walk)
    ∧ (at_ 50 .stance false).completeStop.mhu.mode = .stand ∧ (at_ 50 .stance true).completeStop.mhu.mode = .walk
    ∧ ((at_ 50 .liftWait false).stepInWalk 8).mhu.mode = .stand := by decide +kernel

/-! ## Invariants -/

/-- Every invariant holds of a machine at reset and of one that stands, and a step is taken from each. -/
theorem test_meets_invariants :
    (∃ t, step State.reset = .next t) ∧ (∃ t, step (standing.withPending [.ident 7#8 []]) = .next t)
    ∧ ([State.reset, standing, walking].all fun s => s.dev.factorsCoherent && s.dev.alertFollows && s.dev.holdsCoherent
        && s.dev.legsFitMode && s.dev.gaitCoherent && s.dev.phaseOnRing && s.dev.marginsInRange && s.dev.linksCoherent
        && s.dev.portCoherent && s.dev.tablesCoherent && s.dev.supervisorCoherent) = true :=
  ⟨⟨_, rfl⟩, ⟨_, rfl⟩, by decide +kernel⟩

theorem test_meets_invariant_of_filters : State.reset.dev.filtersCoherent = true := by decide

end Sys2Proof.Tests
end

section
/-!
PROOFS of the family 01_gait_records_and_the_phase_ring.md: distances on the phase ring, the swing window of a leg as
the phases that R4 lists, and what validation judges and writes (O31).
-/

namespace Sys2Proof.Machine

/-- What holds of the four values listed holds of each leg's. -/
@[simp] theorem PerLeg.forall_mem_toList {α : Type} (p : PerLeg α) (c : α → Prop) :
    (∀ x ∈ p.toList, c x) ↔ ∀ l, c (p.get l) := by
  constructor
  · intro h l
    refine h _ ?_
    cases l <;> simp [PerLeg.toList, PerLeg.get]
  · intro h
    simpa [PerLeg.toList] using ⟨h .fl, h .fr, h .rr, h .rl⟩

/-! ## Distances on the ring -/

/-- Counting the distance forward from `a` leads to `p`. -/
theorem add_ringDistance {n a p : Nat} (ha : a < n) (hp : p < n) : (a + ringDistance n a p) % n = p := by
  have turn : a + (p + n - a) = p + n := by omega
  rw [ringDistance, Nat.mod_eq_of_lt ha, Nat.add_mod_mod, turn, Nat.add_mod_right, Nat.mod_eq_of_lt hp]

/-- The phase `k` units after `a`, less than one turn, lies at distance `k`. -/
theorem ringDistance_add {n a k : Nat} (ha : a < n) (hk : k < n) : ringDistance n a ((a + k) % n) = k := by
  rw [ringDistance, Nat.mod_eq_of_lt ha]
  by_cases wraps : a + k < n
  · have back : a + k + n - a = k + n := by omega
    rw [Nat.mod_eq_of_lt wraps, back, Nat.add_mod_right, Nat.mod_eq_of_lt hk]
  · have back : a + k - n + n - a = k := by omega
    have wrapped : (a + k) % n = a + k - n := by
      rw [Nat.mod_eq_sub_mod (by omega), Nat.mod_eq_of_lt (by omega)]
    rw [wrapped, back, Nat.mod_eq_of_lt hk]

/-- The swing window holds the W phases after the lift point, on a ring that has the lift point, the swing length and
the phase below its length (R2, R4). -/
theorem GaitLeg.inWindow_iff {g : GaitLeg} {n p : Nat} (hlift : g.liftPoint < n) (hswing : g.swing < n) (hp : p < n) :
    g.inWindow n p = true ↔ ∃ k, 1 ≤ k ∧ k ≤ g.swing ∧ p = (g.liftPoint + k) % n := by
  simp only [GaitLeg.inWindow, Bool.and_eq_true, decide_eq_true_eq]
  constructor
  · rintro ⟨hone, hle⟩
    exact ⟨_, hone, hle, (add_ringDistance hlift hp).symm⟩
  · rintro ⟨k, hone, hle, rfl⟩
    rw [ringDistance_add hlift (hle.trans_lt hswing)]
    exact ⟨hone, hle⟩

/-! ## Validation -/

/-- Validation leg by leg, with the swing windows as the model forms them. -/
theorem GaitRecord.isValid_iff_inWindow (r : GaitRecord) :
    r.isValid = true ↔
      r.e < r.n
      ∧ (∀ l, (r.legs.get l).liftPoint < r.n ∧ 1 ≤ (r.legs.get l).swing ∧ (r.legs.get l).swing < r.n)
      ∧ ∀ l, ¬ (r.legs.get l).inWindow r.n r.e = true := by
  simp [GaitRecord.isValid, and_assoc]

/-- A record is valid exactly under the four conditions of R4. The first three put E, the lift points and the swing
lengths on the ring, which is what lets the fourth list the phases of a window. -/
theorem GaitRecord.isValid_iff (r : GaitRecord) :
    r.isValid = true ↔
      r.e < r.n ∧ (∀ l, (r.legs.get l).liftPoint < r.n) ∧ (∀ l, 1 ≤ (r.legs.get l).swing ∧ (r.legs.get l).swing < r.n)
      ∧ ∀ l k, 1 ≤ k → k ≤ (r.legs.get l).swing → r.e ≠ ((r.legs.get l).liftPoint + k) % r.n := by
  rw [GaitRecord.isValid_iff_inWindow]
  constructor
  · rintro ⟨he, hlegs, hout⟩
    refine ⟨he, fun l => (hlegs l).1, fun l => (hlegs l).2, fun l k hone hle heq => hout l ?_⟩
    obtain ⟨hlift, -, hswing⟩ := hlegs l
    exact (GaitLeg.inWindow_iff hlift hswing he).mpr ⟨k, hone, hle, heq⟩
  · rintro ⟨he, hlift, hswing, hout⟩
    refine ⟨he, fun l => ⟨hlift l, hswing l⟩, fun l hin => ?_⟩
    obtain ⟨k, hone, hle, heq⟩ := (GaitLeg.inWindow_iff (hlift l) (hswing l).2 he).mp hin
    exact hout l k hone hle heq

/-- Validating the table judges each entry's record and writes that entry's flag (R5). -/
@[simp] theorem TableStore.judgeGaits_gaitAt (t : TableStore) (g : Fin 8) :
    t.judgeGaits.gaitAt g = { t.gaitAt g with valid := (t.gaitAt g).record.isValid } :=
  Vector.get_ofFn _ g

/-- Validating the table writes no other part of the Table Store (R4). -/
theorem TableStore.judgeGaits_frame (t : TableStore) : t.judgeGaits = { t with gait := t.judgeGaits.gait } := rfl

/-- Settles O31: a gait record is judged by the four conditions of R4, and validation writes the flags alone. -/
theorem gaitValidationJudgesRecord : Obligations.GaitValidationJudgesRecord :=
  ⟨GaitRecord.isValid_iff, fun t => ⟨t.judgeGaits_gaitAt, t.judgeGaits_frame⟩⟩

end Sys2Proof.Machine
end

section
/-!
PROOFS of the family 04_support_polygon_and_stability_margin.md: the projected centre of mass, the edges of a set's
feet, the margin of a set by its number of feet, and the margins of a cycle with what they raise (O50).
-/

namespace Sys2Proof.Machine

/-! ## The projected centre of mass (R60) -/

theorem projection_eq (b : BodyState) :
    projection b = { x := b.com.x + (b.height * b.pitch).tdiv 4096
                     y := b.com.y - (b.height * b.roll).tdiv 4096 } := rfl

/-- The product of a body height and a tilt, both in the ranges of R56. -/
theorem height_mul_tilt_bounds {h a : Int} (hlo : 100 ≤ h) (hhi : h ≤ 800) (alo : -2048 ≤ a) (ahi : a ≤ 2048) :
    -1638400 ≤ h * a ∧ h * a ≤ 1638400 :=
  abs_le.mp <| calc
    |h * a| = |h| * |a| := abs_mul h a
    _ ≤ 800 * 2048 := mul_le_mul (abs_le.mpr ⟨by omega, hhi⟩) (abs_le.mpr ⟨alo, ahi⟩) (abs_nonneg a) (by norm_num)

/-- The shift that such a product gives. -/
theorem tdiv_4096_bounds {n : Int} (lo : -1638400 ≤ n) (hi : n ≤ 1638400) :
    -400 ≤ n.tdiv 4096 ∧ n.tdiv 4096 ≤ 400 :=
  ⟨Int.tdiv_le_tdiv (by decide : (0 : Int) < 4096) lo, Int.tdiv_le_tdiv (by decide : (0 : Int) < 4096) hi⟩

/-! ## The feet of a set and their edges (R61 to R63) -/

/-- A set has as many feet as it has legs: the order of R61 is one of the four legs. -/
theorem feetOf_length (b : BodyState) (s : LegSet) : (feetOf b s).length = (s.toList.filter id).length := by
  have legs : s.toList = Leg.all.map s.get := rfl
  have order : footOrder.Perm Leg.all := by decide
  rw [feetOf, List.length_map, legs, List.filter_map, List.length_map]
  exact (order.filter s.get).length_eq

theorem edgesOf_eq_zip_rotate (feet : List Point) : edgesOf feet = feet.zip (feet.rotate 1) := by
  cases feet with
  | nil => rfl
  | cons p ps => simp [edgesOf]

theorem edgeLength_eq_sqrt (a b : Point) :
    edgeLength a b = Nat.sqrt ((b.x - a.x) ^ 2 + (b.y - a.y) ^ 2).toNat := isqrt_eq_sqrt _

/-- Only an edge between coinciding feet has length 0. -/
theorem eq_of_edgeLength_eq_zero {a b : Point} (h : edgeLength a b = 0) : a = b := by
  rw [edgeLength_eq_sqrt, Nat.sqrt_eq_zero, Int.toNat_eq_zero] at h
  have hx : (b.x - a.x) ^ 2 = 0 := by linarith [sq_nonneg (b.x - a.x), sq_nonneg (b.y - a.y)]
  have hy : (b.y - a.y) ^ 2 = 0 := by linarith [sq_nonneg (b.x - a.x), sq_nonneg (b.y - a.y)]
  rw [sq_eq_zero_iff, sub_eq_zero] at hx hy
  cases a; cases b; simp_all

theorem areaTerm_of_edgeLength_eq_zero {e : Point × Point} (h : edgeLength e.1 e.2 = 0) : areaTerm e = 0 := by
  rw [areaTerm, eq_of_edgeLength_eq_zero h, sub_self]

/-- A set that passes the orientation check has an edge of length above 0. -/
theorem exists_edge_of_doubledArea_pos {feet : List Point} (h : 0 < doubledArea feet) :
    ∃ e ∈ edgesOf feet, edgeLength e.1 e.2 ≠ 0 := by
  by_contra! flat
  have zero : doubledArea feet = 0 := List.sum_eq_zero fun t ht => by
    obtain ⟨e, he, rfl⟩ := List.mem_map.mp ht
    exact areaTerm_of_edgeLength_eq_zero (flat e he)
  omega

theorem edgeDistance_eq_some_iff {p : Point} {e : Point × Point} {d : Int} :
    edgeDistance p e = some d ↔
      edgeLength e.1 e.2 ≠ 0 ∧ d = (crossOf p e.1 e.2).tdiv (edgeLength e.1 e.2) := by
  simp [edgeDistance, eq_comm]

/-! ## The margin of a set, by its number of feet (R62 to R66) -/

theorem clampMargin_eq (x : Int) : clampMargin x = clampInt (-2047) 2047 x := rfl

theorem clampMargin_mem (x : Int) : -2047 ≤ clampMargin x ∧ clampMargin x ≤ 2047 :=
  ⟨clampInt_ge _ _ x (by decide), clampInt_le _ _ x (by decide)⟩

theorem clampMargin_nonpos {x : Int} (h : x ≤ 0) : clampMargin x ≤ 0 := by
  rw [clampMargin_eq, clampInt]
  split_ifs <;> omega

theorem pairMargin_eq (p a b : Point) :
    pairMargin p a b = if edgeLength a b = 0 then -2047
      else clampMargin (-((crossOf p a b).natAbs / edgeLength a b : Nat)) := rfl

theorem pairMargin_mem (p a b : Point) : -2047 ≤ pairMargin p a b ∧ pairMargin p a b ≤ 0 := by
  rw [pairMargin_eq]
  split
  · decide
  · exact ⟨(clampMargin_mem _).1, clampMargin_nonpos (neg_nonpos.mpr (Int.natCast_nonneg _))⟩

theorem polygonMargin_of_doubledArea_nonpos (p : Point) {feet : List Point} (h : doubledArea feet ≤ 0) :
    polygonMargin p feet = { value := -2047, degenerate := true } := if_pos h

/-- The margin of a set that passes the orientation check is the least of the distances its edges give. -/
theorem polygonMargin_of_doubledArea_pos (p : Point) {feet : List Point} (h : 0 < doubledArea feet) :
    ∃ least, (∃ e ∈ edgesOf feet, edgeDistance p e = some least)
      ∧ (∀ e ∈ edgesOf feet, ∀ d, edgeDistance p e = some d → least ≤ d)
      ∧ polygonMargin p feet = { value := clampMargin least, degenerate := false } := by
  obtain ⟨e, he, hlen⟩ := exists_edge_of_doubledArea_pos h
  rw [polygonMargin, if_neg (by omega)]
  cases distances : (edgesOf feet).filterMap (edgeDistance p) with
  | nil => simpa [edgeDistance, hlen] using List.filterMap_eq_nil_iff.mp distances e he
  | cons x xs =>
    obtain ⟨hmem, hle⟩ := List.min?_eq_some_iff.mp (List.min?_cons' (x := x) (xs := xs))
    rw [← distances] at hmem hle
    exact ⟨_, List.mem_filterMap.mp hmem, fun e he d hd => hle d (List.mem_filterMap.mpr ⟨e, he, hd⟩), rfl⟩

@[simp] theorem marginOf_none (s : LegSet) : marginOf none s = { value := -2047, degenerate := false } := rfl

theorem marginOf_of_length_le_one {b : BodyState} {s : LegSet} (h : (feetOf b s).length ≤ 1) :
    marginOf (some b) s = { value := -2047, degenerate := false } := by
  match feet : feetOf b s with
  | [] => simp [marginOf, feet, Config.noMargin]
  | [_] => simp [marginOf, feet, Config.noMargin]
  | _ :: _ :: _ => simp [feet] at h

theorem marginOf_of_pair {b : BodyState} {s : LegSet} {p q : Point} (h : feetOf b s = [p, q]) :
    marginOf (some b) s = { value := pairMargin (projection b) p q, degenerate := false } := by
  simp [marginOf, h]

theorem marginOf_of_three_le {b : BodyState} {s : LegSet} (h : 3 ≤ (feetOf b s).length) :
    marginOf (some b) s = polygonMargin (projection b) (feetOf b s) := by
  match feet : feetOf b s with
  | [] | [_] | [_, _] => simp [feet] at h
  | _ :: _ :: _ :: _ => simp [marginOf, feet]

/-- At most two feet are not degenerate, and their margin is that of a body that stands on nothing or on a line. -/
theorem marginOf_of_length_le_two {b : BodyState} {s : LegSet} (h : (feetOf b s).length ≤ 2) :
    (marginOf (some b) s).degenerate = false ∧ -2047 ≤ (marginOf (some b) s).value
      ∧ (marginOf (some b) s).value ≤ 0 := by
  by_cases one : (feetOf b s).length ≤ 1
  · simp [marginOf_of_length_le_one one]
  · obtain ⟨p, q, feet⟩ := List.length_eq_two.mp (by omega : (feetOf b s).length = 2)
    rw [marginOf_of_pair feet]
    exact ⟨rfl, pairMargin_mem _ p q⟩

theorem polygonMargin_mem (p : Point) (feet : List Point) :
    -2047 ≤ (polygonMargin p feet).value ∧ (polygonMargin p feet).value ≤ 2047 := by
  by_cases area : doubledArea feet ≤ 0
  · simp [polygonMargin_of_doubledArea_nonpos p area]
  · obtain ⟨least, -, -, heq⟩ := polygonMargin_of_doubledArea_pos p (not_le.mp area)
    rw [heq]
    exact clampMargin_mem least

/-- Every margin lies in the range of R56. -/
theorem marginOf_mem (body : Option BodyState) (s : LegSet) :
    -2047 ≤ (marginOf body s).value ∧ (marginOf body s).value ≤ 2047 := by
  cases body with
  | none => simp
  | some b =>
    by_cases few : (feetOf b s).length ≤ 2
    · obtain ⟨-, lo, hi⟩ := marginOf_of_length_le_two few
      exact ⟨lo, by omega⟩
    · rw [marginOf_of_three_le (by omega)]
      exact polygonMargin_mem _ _

/-! ## The margins of a cycle (R67, R68, R70, R71) -/

theorem Device.supporting_iff (d : Device) (l : Leg) :
    d.supporting l = true ↔ (d.legState l = .stance ∨ d.legState l = .liftWait) ∧ d.contact l ≠ .absent := by
  simp [Device.supporting]

@[simp] theorem Device.supportSet_get (d : Device) (l : Leg) : d.supportSet.get l = d.supporting l :=
  PerLeg.get_ofFn _ l

theorem Device.computeMargins_current (d : Device) :
    d.computeMargins.bal.current = (marginOf d.bal.body d.supportSet).value := by
  simp [Device.computeMargins]

theorem Device.computeMargins_prospective (d : Device) (l : Leg) :
    d.computeMargins.bal.prospective.get l
      = if d.supporting l then (d.marginWithout l).value else (marginOf d.bal.body d.supportSet).value := by
  simp [Device.computeMargins, Device.prospectiveOf, apply_ite Margin.value]

/-- A factor raised `n` times over counts `n` more, up to 255 (R163). -/
theorem Device.raiseAll_replicate_factor (d : Device) (f : Factor) (n : Nat) :
    (d.raiseAll (List.replicate n f)).factor f
      = if n = 0 then d.factor f else ⟨true, min ((d.factor f).count + n) 255⟩ := by
  induction n generalizing d with
  | zero => rfl
  | succ n ih =>
    have once : d.raiseAll (List.replicate (n + 1) f) = (d.raise f).raiseAll (List.replicate n f) := rfl
    rw [once, ih, Device.raise_factor_self, if_neg n.succ_ne_zero]
    by_cases hn : n = 0
    · simp [hn, saturate, countUp]
    · simp only [hn, if_false, saturate, countUp, FactorRecord.mk.injEq, true_and]
      omega

/-- The raisings of a list of margins, one for each that is degenerate. -/
theorem flatMap_degenerate_eq_replicate (ms : List Margin) (f : Factor) :
    (ms.flatMap fun m => if m.degenerate then [f] else []) = List.replicate (ms.countP Margin.degenerate) f := by
  induction ms with
  | nil => rfl
  | cons m ms ih =>
    cases h : m.degenerate <;> simp [ih, h, List.replicate_succ]

theorem Device.prospectiveOf_degenerate (d : Device) (current : Margin) (l : Leg) :
    (d.prospectiveOf current l).degenerate = (d.supporting l && (d.marginWithout l).degenerate) := by
  unfold Device.prospectiveOf
  cases d.supporting l <;> rfl

/-- The legs whose removal leaves a degenerate set, counted over the prospective margins. -/
theorem Device.countP_prospectiveOf (d : Device) (current : Margin) :
    (PerLeg.ofFn (d.prospectiveOf current)).toList.countP Margin.degenerate
      = (Leg.all.filter fun l => d.supporting l && (d.marginWithout l).degenerate).length := by
  have legs : (PerLeg.ofFn (d.prospectiveOf current)).toList = Leg.all.map (d.prospectiveOf current) := rfl
  have same : Margin.degenerate ∘ d.prospectiveOf current
      = fun l => d.supporting l && (d.marginWithout l).degenerate :=
    funext (d.prospectiveOf_degenerate current)
  rw [legs, List.countP_map, same, List.countP_eq_length_filter]

/-- A cycle raises POLY_DEGENERATE once for each of its computations that finds its set degenerate. -/
theorem Device.computeMargins_polyDegenerate (d : Device) (found : Nat)
    (hfound : found = (Leg.all.filter fun l => d.supporting l && (d.marginWithout l).degenerate).length
      + if (marginOf d.bal.body d.supportSet).degenerate then 1 else 0) :
    d.computeMargins.factor .polyDegenerate = if found = 0 then d.factor .polyDegenerate
      else ⟨true, min ((d.factor .polyDegenerate).count + found) 255⟩ := by
  rw [← Device.countP_prospectiveOf d (marginOf d.bal.body d.supportSet), ← List.countP_cons] at hfound
  rw [Device.computeMargins, flatMap_degenerate_eq_replicate, ← hfound, Device.raiseAll_replicate_factor]
  rfl

/-! ## The obligation -/

/-- Settles O50: by the number of feet of a set, and by counting the degenerate computations of a cycle. -/
theorem projectionAndMarginOfFewFeet : Obligations.ProjectionAndMarginOfFewFeet := by
  refine ⟨fun b => ⟨projection_eq b, ?projected⟩, fun b s => ⟨rfl, ?pair⟩, fun b s many => ?polygon,
    fun d => ⟨d.computeMargins_current, d.supporting_iff, fun l => ⟨d.supportSet_get l, d.computeMargins_prospective l⟩,
      d.computeMargins_polyDegenerate _ rfl, fun low => if_pos low, fun fine => if_neg fine⟩,
    fun body s => ⟨(marginOf_mem body s).1, (marginOf_mem body s).2, ?few, ?fewest, ?bodiless⟩⟩
  case projected =>
    intro xlo xhi ylo yhi hlo hhi rlo rhi plo phi
    obtain ⟨pitchLo, pitchHi⟩ := height_mul_tilt_bounds hlo hhi plo phi
    obtain ⟨rollLo, rollHi⟩ := height_mul_tilt_bounds hlo hhi rlo rhi
    obtain ⟨xShiftLo, xShiftHi⟩ := tdiv_4096_bounds pitchLo pitchHi
    obtain ⟨yShiftLo, yShiftHi⟩ := tdiv_4096_bounds rollLo rollHi
    simp only [projection_eq]
    omega
  case pair =>
    intro p q feet
    simp only [marginOf_of_pair feet, pairMargin_eq, edgeLength_eq_sqrt]
    rfl
  case polygon =>
    simp only [← edgesOf_eq_zip_rotate, ← edgeLength_eq_sqrt, marginOf_of_three_le many]
    refine ⟨polygonMargin_of_doubledArea_nonpos _, fun area => ?_⟩
    obtain ⟨least, ⟨e, he, hleast⟩, hle, heq⟩ := polygonMargin_of_doubledArea_pos (projection b) area
    exact ⟨least, ⟨e, he, edgeDistance_eq_some_iff.mp hleast⟩,
      fun e he hlen => hle e he _ (edgeDistance_eq_some_iff.mpr ⟨hlen, rfl⟩), heq⟩
  case few =>
    intro few
    cases body with
    | none => simp
    | some b =>
      obtain ⟨sound, -, hi⟩ := marginOf_of_length_le_two ((feetOf_length b s).trans_le few)
      exact ⟨sound, hi⟩
  case fewest =>
    intro fewest
    cases body with
    | none => rfl
    | some b =>
      have one : (s.toList.filter id).length ≤ 1 := fewest.resolve_right (by simp)
      rw [marginOf_of_length_le_one ((feetOf_length b s).trans_le one)]
  case bodiless =>
    rintro rfl
    rfl

end Sys2Proof.Machine
end

section
/-!
PROOFS of the family 06_modes_and_the_hold_stack.md: a HOLD request of the host as a push request of cause HOST, and
what an overflow of the hold stack comes to (O36).
-/

namespace Sys2Proof.Machine

/-- The modes in which a hold is pushed are not those in which none is (R105). -/
theorem Mode.not_down_of_up {m : Mode} (h : m = .stand ∨ m = .walk ∨ m = .hold) :
    ¬ (m = .unarmed ∨ m = .safeSit) := by
  rcases h with rfl | rfl | rfl <;> simp

namespace Device

/-! ## Overflow (R100, R105) -/

/-- A sit demand in STAND, WALK or HOLD leaves SAFE_SIT with no hold, and no factor but MODE_CHANGED raised (R100). -/
theorem sitDemand_outcome {d : Device} (h : d.mhu.mode = .stand ∨ d.mhu.mode = .walk ∨ d.mhu.mode = .hold) :
    d.sitDemand.mhu.mode = .safeSit ∧ d.sitDemand.mhu.stack = []
      ∧ ∀ f, f ≠ .modeChanged → d.sitDemand.factor f = d.factor f := by
  rw [sitDemand_of_up d h]
  exact ⟨rfl, rfl, fun _ hf => raise_factor_ne _ hf⟩

/-- An overflow empties the stack and takes the mode to SAFE_SIT, with HOLD_OVERFLOW raised once (R105). -/
theorem judgePush_overflow {h : Hold} {d : Device}
    (hm : d.mhu.mode = .stand ∨ d.mhu.mode = .walk ∨ d.mhu.mode = .hold) (hs : ∀ r ∈ d.mhu.stack, r.hold ≠ h)
    (hf : 4 ≤ d.mhu.stack.length) :
    (d.judgePush h).mhu.mode = .safeSit ∧ (d.judgePush h).mhu.stack = []
      ∧ (d.judgePush h).factor .holdOverflow = d.raisedOnce .holdOverflow := by
  obtain ⟨mode, stack, factors⟩ :=
    sitDemand_outcome (d := raise .holdOverflow { d with mhu := { d.mhu with stack := [] } }) hm
  rw [judgePush_of_full h d (Mode.not_down_of_up hm) (by simpa using hs) hf]
  exact ⟨mode, stack, (factors .holdOverflow (by decide)).trans (raise_factor_self .holdOverflow _)⟩

/-! ## The HOLD request of the host (R107) -/

/-- A push request of cause HOST raises no factor and is only judged (R104). -/
theorem request_host (d : Device) : d.request .host = d.judgePush .host := rfl

theorem hostHold_of_down {d : Device} (h : d.mhu.mode = .unarmed ∨ d.mhu.mode = .safeSit) :
    d.hostHold = (.refusedMode, d) := if_pos h

theorem hostHold_of_up {d : Device} (h : d.mhu.mode = .stand ∨ d.mhu.mode = .walk ∨ d.mhu.mode = .hold) :
    d.hostHold = (.done [], d.request .host) :=
  if_neg (Mode.not_down_of_up h)

end Device

theorem exec_hold (tag : Byte) (s : State) : exec (.hold tag []) s = s.manage kindControl tag Device.hostHold := rfl

theorem exec_hold_of_down {s : State} (tag : Byte) (hr : s.dev.ready = true)
    (h : s.dev.mhu.mode = .unarmed ∨ s.dev.mhu.mode = .safeSit) :
    exec (.hold tag []) s = .next (s.replied kindControl tag .refusedMode) := by
  have hold := Device.hostHold_of_down h
  rw [exec_hold, State.manage_of_same s kindControl tag Device.hostHold hr (by rw [hold]), hold]

theorem exec_hold_of_up {s : State} (tag : Byte) (hr : s.dev.ready = true)
    (h : s.dev.mhu.mode = .stand ∨ s.dev.mhu.mode = .walk ∨ s.dev.mhu.mode = .hold) :
    exec (.hold tag []) s
      = .next (s.withDev ((s.dev.request .host).withPort (s.dev.portReplied kindControl tag (.done [])))) := by
  have hold := Device.hostHold_of_up h
  rw [exec_hold, State.manage_of_ready s kindControl tag Device.hostHold hr (by simp [hold]), hold]

/-! ## The obligation -/

/-- Settles O36: the request is answered by the mode, and its push is judged as the stack stands. -/
theorem hostHoldOutcomes : Obligations.HostHoldOutcomes := by
  intro tag s hr
  refine ⟨exec_hold_of_down tag hr, fun hm => ⟨_, exec_hold_of_up tag hr hm, rfl, rfl, ?same, ?room, ?full⟩⟩
  case same =>
    rintro ⟨r, hmem, hhost⟩
    have unchanged : s.dev.request .host = s.dev :=
      Device.judgePush_of_same .host s.dev (List.any_eq_true.mpr ⟨r, hmem, by simpa using hhost⟩)
    rw [unchanged]
    rfl
  case room =>
    intro hs hf
    have pushed : s.dev.request .host = s.dev.pushRecord .host :=
      Device.judgePush_of_room .host s.dev (Mode.not_down_of_up hm) (by simpa using hs) hf
    rw [pushed]
    exact ⟨Device.pushRecord_mode .host s.dev, Device.pushRecord_stack .host s.dev,
      Device.pushRecord_phase .host s.dev⟩
  case full =>
    intro hs hf
    rw [Device.request_host]
    exact Device.judgePush_overflow hm hs hf

end Sys2Proof.Machine
end

section
/-!
PROOFS of the family 09_the_upstream_link_and_management_requests.md: what TABLE_READ answers and carries (O29), and the
judgement of a cycle frame by its tag (O11). For O11 the work is to see that of all a cycle does, taking the tag alone
raises SEQ_GAP: one lemma for each operation that raises factors, cited by those that are made of it.
-/

namespace Sys2Proof.Machine

/-! ## The fields of a read (R158, R171) -/

theorem byte1_toNat (b : Byte) : byte1 b.toNat = [b] := by simp [byte1]

/-- A table's code is the one it is known by. -/
theorem TableId.code_of_ofCode {n : Nat} {t : TableId} (h : ofCode n = some t) : t.code = n := by
  unfold ofCode at h
  split at h <;> cases h <;> rfl

theorem EntryRange.inTable_iff (r : EntryRange) (t : TableId) :
    r.inTable t = true ↔ 0 < r.count ∧ t.base ≤ r.first ∧ r.first + r.count ≤ t.base + t.entries := by
  simp [inTable, and_assoc, Nat.lt_iff_add_one_le]

/-- The flags of a read, table by table: one for each gait entry it names, one for a table that has a flag as a whole,
and none for a config. -/
theorem TableStore.readFlags_eq (ts : TableStore) (t : TableId) (first count : Nat) :
    ts.readFlags t ⟨first, count⟩ =
      match t with
      | .gait => (List.range count).flatMap fun k =>
          [if (ts.gait.toList[first + k]?).any GaitEntry.valid then 1 else 0]
      | .joint => [if ts.jointValid then 1 else 0]
      | .pose => [if ts.poseValid then 1 else 0]
      | .liftProfile => [if ts.liftValid then 1 else 0]
      | .linkConfig => []
      | .deviceConfig => [] := by
  cases t
  case gait => simp only [readFlags, EntryRange.indexes, List.flatMap_map]; rfl
  all_goals rfl

namespace Device

/-- The payload of a read: the table, the range, the entries in index order and their flags. -/
theorem readPayload_eq (d : Device) {t : TableId} {code : Byte} (first count : Byte)
    (ht : TableId.ofCode code.toNat = some t) :
    d.readPayload t ⟨first.toNat, count.toNat⟩ =
      [code, first, count]
        ++ (List.range count.toNat).flatMap (fun k => d.tbs.readEntry t (first.toNat + k))
        ++ d.tbs.readFlags t ⟨first.toNat, count.toNat⟩ := by
  simp only [readPayload, TableId.code_of_ofCode ht, byte1_toNat, EntryRange.indexes, List.flatMap_map]
  rfl

/-! ## The answer to a read (R158) -/

/-- A read changes nothing but the port that carries its reply (R158). -/
theorem tableRead_device (rest : List Byte) (d : Device) : (d.tableRead rest).2 = d := by
  unfold tableRead
  dsimp only
  repeat' split
  all_goals rfl

theorem tableRead_of_length_ne {rest : List Byte} (d : Device) (h : rest.length ≠ 3) :
    (d.tableRead rest).1 = .malformed := by
  unfold tableRead
  split
  next => exact absurd rfl h
  next => rfl

theorem tableRead_of_unknown {code : Byte} (first count : Byte) (d : Device) (h : TableId.ofCode code.toNat = none) :
    (d.tableRead [code, first, count]).1 = .refusedRange := by
  simp only [tableRead, h]

/-- A read of a known table is judged for its range alone. -/
theorem tableRead_of_known {code : Byte} {t : TableId} (first count : Byte) (d : Device)
    (h : TableId.ofCode code.toNat = some t) :
    (d.tableRead [code, first, count]).1 =
      if EntryRange.inTable ⟨first.toNat, count.toNat⟩ t then
        .done (d.readPayload t ⟨first.toNat, count.toNat⟩)
      else .refusedRange := by
  simp only [tableRead, h]
  split <;> rfl

end Device

/-- TABLE_READ taken when the part is ready: its answer joins the reply queue and nothing else happens. -/
theorem exec_tableRead (tag : Byte) (rest : List Byte) {s : State} (hr : s.dev.ready = true) :
    exec (.tableRead tag rest) s = .next (s.replied kindTableRead tag (s.dev.tableRead rest).1) :=
  State.manage_of_same s kindTableRead tag (Device.tableRead rest) hr (s.dev.tableRead_device rest)

/-- Settles O29: a read is judged for its size, its table and its range, and answered with the entries as stored. -/
theorem tableReadReturnsStoredEntries : Obligations.TableReadReturnsStoredEntries := by
  intro tag rest s hr
  rw [exec_tableRead tag rest hr]
  refine ⟨fun size => by rw [Device.tableRead_of_length_ne s.dev size]; rfl, ?_⟩
  rintro code first count rfl
  refine ⟨fun unknown => by rw [Device.tableRead_of_unknown first count s.dev unknown]; rfl, fun t known => ?_⟩
  rw [Device.tableRead_of_known first count s.dev known]
  refine ⟨fun outside => ?_, fun some_entry from_base to_end => ?_⟩
  · have misses : ¬ EntryRange.inTable ⟨first.toNat, count.toNat⟩ t = true := by
      rw [EntryRange.inTable_iff]
      rintro ⟨some_entry, from_base, to_end⟩
      rcases outside with rfl | before | after
      · exact Nat.lt_irrefl 0 some_entry
      · exact absurd from_base (Nat.not_le.mpr before)
      · exact absurd to_end (Nat.not_le.mpr after)
    rw [if_neg misses]
    rfl
  · have lies : EntryRange.inTable ⟨first.toNat, count.toNat⟩ t = true :=
      (EntryRange.inTable_iff _ t).mpr ⟨some_entry, from_base, to_end⟩
    rw [if_pos lies, Device.readPayload_eq s.dev first count known, TableStore.readFlags_eq]
    rfl

/-! ## The factors that requests and soft limits name -/

/-- No push request raises SEQ_GAP: its factor, where it has one, is an error factor (R104). -/
theorem PushRequest.factor_ne_seqGap {q : PushRequest} {f : Factor} (h : q.factor = some f) : .seqGap ≠ f := by
  rintro rfl
  cases q
  case node n why => cases why <;> cases h
  all_goals cases h

theorem NodeReason.factor_ne_seqGap (why : NodeReason) : .seqGap ≠ why.factor := by cases why <;> decide

theorem softLimit_raised_ne_seqGap (r : JointRecord) (x : Int) : (softLimit r x).raised ≠ some .seqGap := by
  unfold softLimit; (repeat' split) <;> simp

namespace Device

/-! ## SEQ_GAP at the shared operations

A device whose Event and Error Unit stands has its factors unchanged, and a raising of another factor leaves SEQ_GAP
as it is; the rest follows operation by operation. -/

@[simp] theorem factor_of_same_eeu (d : Device) (f : Factor) (tbs : TableStore) (gpe : GaitEngine) (bal : BalanceUnit)
    (cfl : PerLeg FilterRecord) (lcc : Composer) (mhu : ModeUnit) (llc : PerLeg LinkController) (nsv : Supervisor)
    (upp : UpstreamPort) (free : Nat) :
    (Device.mk tbs gpe bal cfl lcc mhu llc nsv upp d.eeu free).factor f = d.factor f := rfl

@[simp] theorem modLeg_factor (l : Leg) (r : LegRecord → LegRecord) (f : Factor) (d : Device) :
    (d.modLeg l r).factor f = d.factor f := rfl
@[simp] theorem mapLegs_factor (r : Leg → LegRecord → LegRecord) (f : Factor) (d : Device) :
    (d.mapLegs r).factor f = d.factor f := rfl
@[simp] theorem setLatches_factor (f : Factor) (d : Device) : d.setLatches.factor f = d.factor f := rfl
@[simp] theorem unsetLegs_factor (f : Factor) (d : Device) : d.unsetLegs.factor f = d.factor f := rfl
@[simp] theorem enterLiftWait_factor (l : Leg) (f : Factor) (d : Device) :
    (d.enterLiftWait l).factor f = d.factor f := rfl
@[simp] theorem touchDown_factor (l : Leg) (f : Factor) (d : Device) : (d.touchDown l).factor f = d.factor f := rfl
@[simp] theorem setMode_factor (m : Mode) (f : Factor) (d : Device) : (d.setMode m).factor f = d.factor f := rfl
@[simp] theorem modLink_factor (l : Leg) (k : LinkController → LinkController) (f : Factor) (d : Device) :
    (d.modLink l k).factor f = d.factor f := rfl

@[simp] theorem raise_seqGap {f : Factor} (d : Device) (h : .seqGap ≠ f) :
    (d.raise f).factor .seqGap = d.factor .seqGap := raise_factor_ne d h

@[simp] theorem raiseIf_seqGap (b : Bool) {f : Factor} (d : Device) (h : .seqGap ≠ f) :
    (d.raiseIf b f).factor .seqGap = d.factor .seqGap := by
  unfold raiseIf; split <;> simp [h]

/-- A list of operations each of which leaves SEQ_GAP as it is. -/
theorem foldl_seqGap {α : Type} (op : Device → α → Device)
    (h : ∀ d x, (op d x).factor .seqGap = d.factor .seqGap) (xs : List α) (d : Device) :
    (xs.foldl op d).factor .seqGap = d.factor .seqGap := by
  induction xs generalizing d with
  | nil => rfl
  | cons x xs ih => rw [List.foldl_cons, ih, h]

theorem raiseAll_seqGap (fs : List Factor) (d : Device) (h : .seqGap ∉ fs) :
    (d.raiseAll fs).factor .seqGap = d.factor .seqGap := by
  unfold raiseAll
  induction fs generalizing d with
  | nil => rfl
  | cons f fs ih =>
    obtain ⟨head, tail⟩ : .seqGap ≠ f ∧ .seqGap ∉ fs := by simpa using h
    rw [List.foldl_cons, ih _ tail, raise_seqGap d head]

/-! ## SEQ_GAP at the requests and the changes of mode -/

@[simp] theorem sitDemand_seqGap (d : Device) : d.sitDemand.factor .seqGap = d.factor .seqGap := by
  unfold sitDemand; split <;> simp

@[simp] theorem pushRecord_seqGap (h : Hold) (d : Device) :
    (d.pushRecord h).factor .seqGap = d.factor .seqGap := by
  unfold pushRecord; split <;> simp

@[simp] theorem judgePush_seqGap (h : Hold) (d : Device) :
    (d.judgePush h).factor .seqGap = d.factor .seqGap := by
  unfold judgePush; (repeat' split) <;> simp

@[simp] theorem noteSilence_seqGap (q : PushRequest) (d : Device) :
    (d.noteSilence q).factor .seqGap = d.factor .seqGap := by
  unfold noteSilence; split <;> simp

@[simp] theorem request_seqGap (q : PushRequest) (d : Device) :
    (d.request q).factor .seqGap = d.factor .seqGap := by
  unfold request
  rw [judgePush_seqGap, noteSilence_seqGap]
  split
  next f raised => exact raise_seqGap d (PushRequest.factor_ne_seqGap raised)
  next => rfl

@[simp] theorem requestAll_seqGap (qs : List PushRequest) (d : Device) :
    (d.requestAll qs).factor .seqGap = d.factor .seqGap := foldl_seqGap _ (fun d q => request_seqGap q d) qs d

@[simp] theorem adopt_seqGap (g : Fin 8) (d : Device) : (d.adopt g).factor .seqGap = d.factor .seqGap := by
  unfold adopt; simp

@[simp] theorem refuseGait_seqGap (d : Device) : d.refuseGait.factor .seqGap = d.factor .seqGap := by
  unfold refuseGait; simp

@[simp] theorem selectGait_seqGap (g : Fin 8) (d : Device) :
    (d.selectGait g).factor .seqGap = d.factor .seqGap := by
  unfold selectGait; split <;> simp

@[simp] theorem enterStand_seqGap (d : Device) : d.enterStand.factor .seqGap = d.factor .seqGap := by
  unfold enterStand; dsimp only; split <;> simp

@[simp] theorem completeStop_seqGap (d : Device) : d.completeStop.factor .seqGap = d.factor .seqGap := by
  unfold completeStop; split <;> simp

/-! ## SEQ_GAP at the engine's work in a cycle (R9, R24) -/

@[simp] theorem askMargin_seqGap (l : Leg) (d : Device) :
    (d.askMargin l).2.factor .seqGap = d.factor .seqGap := by
  unfold askMargin; simp

@[simp] theorem footReaction_seqGap (l : Leg) (why : NodeReason) (d : Device) :
    (d.footReaction l why).factor .seqGap = d.factor .seqGap := by
  unfold footReaction; split <;> simp [NodeReason.factor_ne_seqGap]

@[simp] theorem footEntryJudgement_seqGap (l : Leg) (d : Device) :
    (d.footEntryJudgement l).factor .seqGap = d.factor .seqGap := by
  unfold footEntryJudgement; (repeat' split) <;> simp

@[simp] theorem countWait_seqGap (l : Leg) (d : Device) :
    (d.countWait l).factor .seqGap = d.factor .seqGap := by
  unfold countWait; simp

@[simp] theorem countClear_seqGap (l : Leg) (d : Device) :
    (d.countClear l).factor .seqGap = d.factor .seqGap := by
  unfold countClear; dsimp only; (repeat' split) <;> simp

@[simp] theorem countLanding_seqGap (l : Leg) (d : Device) :
    (d.countLanding l).factor .seqGap = d.factor .seqGap := by
  unfold countLanding; dsimp only; split <;> simp

@[simp] theorem judgeSetDown_seqGap (l : Leg) (d : Device) :
    (d.judgeSetDown l).factor .seqGap = d.factor .seqGap := by
  unfold judgeSetDown; split <;> simp

@[simp] theorem updateCounter_seqGap (l : Leg) (d : Device) :
    (d.updateCounter l).factor .seqGap = d.factor .seqGap := by
  unfold updateCounter; split <;> simp

@[simp] theorem updateCounters_seqGap (d : Device) : d.updateCounters.factor .seqGap = d.factor .seqGap :=
  foldl_seqGap _ (fun d l => updateCounter_seqGap l d) Leg.all d

@[simp] theorem grantLift_seqGap (l : Leg) (d : Device) :
    (d.grantLift l).factor .seqGap = d.factor .seqGap := by
  unfold grantLift; simp

@[simp] theorem tryLift_seqGap (l : Leg) (d : Device) : (d.tryLift l).factor .seqGap = d.factor .seqGap := by
  unfold tryLift; (repeat' split) <;> simp

@[simp] theorem liftPointsUnderfoot_seqGap (d : Device) :
    d.liftPointsUnderfoot.factor .seqGap = d.factor .seqGap := by
  unfold liftPointsUnderfoot; split <;> simp

@[simp] theorem stageAdoption_seqGap (d : Device) : d.stageAdoption.factor .seqGap = d.factor .seqGap := by
  unfold stageAdoption; (repeat' split) <;> simp

@[simp] theorem stagePermission_seqGap (d : Device) : d.stagePermission.factor .seqGap = d.factor .seqGap := by
  unfold stagePermission
  split
  · rw [completeStop_seqGap]; rfl
  · exact foldl_seqGap _ (fun d l => tryLift_seqGap l d) Leg.all d

@[simp] theorem enterLanding_seqGap (l : Leg) (d : Device) :
    (d.enterLanding l).factor .seqGap = d.factor .seqGap := by
  unfold enterLanding; simp

@[simp] theorem judgeAtPoint_seqGap (l : Leg) (d : Device) :
    (d.judgeAtPoint l).factor .seqGap = d.factor .seqGap := by
  unfold judgeAtPoint; (repeat' split) <;> simp

@[simp] theorem stageAdvance_seqGap (step : Nat) (d : Device) :
    (d.stageAdvance step).factor .seqGap = d.factor .seqGap := by
  unfold stageAdvance
  rw [completeStop_seqGap, foldl_seqGap _ (fun d l => judgeAtPoint_seqGap l d)]
  rfl

@[simp] theorem phaseStep_seqGap (step : Nat) (d : Device) :
    (d.phaseStep step).factor .seqGap = d.factor .seqGap := by
  unfold phaseStep; dsimp only; (repeat' split) <;> simp

@[simp] theorem stepInWalk_seqGap (step : Nat) (d : Device) :
    (d.stepInWalk step).factor .seqGap = d.factor .seqGap := by
  unfold stepInWalk; split <;> simp

@[simp] theorem takeGaitIndex_seqGap (g : Fin 8) (d : Device) :
    (d.takeGaitIndex g).factor .seqGap = d.factor .seqGap := by
  unfold takeGaitIndex; (repeat' split) <;> simp

@[simp] theorem takeWalkFlag_seqGap (w : Bool) (d : Device) :
    (d.takeWalkFlag w).factor .seqGap = d.factor .seqGap := by
  unfold takeWalkFlag; dsimp only; (repeat' split) <;> simp

/-! ## SEQ_GAP at the margins, the compositions and the status frame (R67, R71, R75, R154) -/

/-- The margins raise POLY_DEGENERATE alone (R70). -/
@[simp] theorem computeMargins_seqGap (d : Device) : d.computeMargins.factor .seqGap = d.factor .seqGap := by
  unfold computeMargins
  rw [raiseAll_seqGap _ _ ?others]
  · simp
  case others =>
    simp only [List.mem_flatMap, not_exists, not_and]
    intro m _
    split <;> simp

@[simp] theorem braceCheck_seqGap (d : Device) : d.braceCheck.factor .seqGap = d.factor .seqGap := by
  unfold braceCheck; split <;> simp

theorem seqGap_not_mem_raised (d : Device) (j : Joint) : .seqGap ∉ (d.composeJoint j).raised := by
  unfold composeJoint
  split
  next => simp
  next last _ =>
    simp only [composeKnown, List.mem_append, Option.mem_toList, not_or]
    refine ⟨?_, softLimit_raised_ne_seqGap _ _⟩
    split <;> simp

/-- A lane's composition raises the factors of R77, R78, R84 and R85, which SEQ_GAP is not among. -/
theorem seqGap_not_mem_laneFactors (d : Device) (l : Leg) : .seqGap ∉ d.laneFactors l := by
  have mismatch : .seqGap ∉ (if d.mismatch l then [Factor.targetMismatch] else []) := by split <;> simp
  have joints : .seqGap ∉ (d.composeLeg l).toList.flatMap (·.raised) := by
    simp [composeLeg, PerJoint.toList, PerJoint.ofFn, seqGap_not_mem_raised]
  rw [laneFactors, List.mem_append, not_or]
  exact ⟨mismatch, joints⟩

@[simp] theorem handOff_seqGap (l : Leg) (c : LimbCommand) (d : Device) :
    (d.handOff l c).factor .seqGap = d.factor .seqGap := by
  unfold handOff beginTransaction; split <;> simp

@[simp] theorem handOffLane_seqGap (seen : Device) (l : Leg) (d : Device) :
    (seen.handOffLane l d).factor .seqGap = d.factor .seqGap := handOff_seqGap l _ d

@[simp] theorem compose_seqGap (d : Device) : d.compose.factor .seqGap = d.factor .seqGap := by
  have others : .seqGap ∉ Leg.all.flatMap d.laneFactors := by simp [seqGap_not_mem_laneFactors]
  unfold compose
  dsimp only
  rw [foldl_seqGap _ (fun e l => handOffLane_seqGap d l e), requestAll_seqGap, raiseAll_seqGap _ _ others]
  rfl

@[simp] theorem pump_factor (f : Factor) (d : Device) : d.pump.factor f = d.factor f := by
  rw [pump_eq_withPort]; rfl

@[simp] theorem finishCycle_seqGap (cause : CycleCause) (d : Device) :
    (d.finishCycle cause).factor .seqGap = d.factor .seqGap := by
  unfold finishCycle postStatus; simp

/-! ## The judgement of a cycle frame (R150) -/

theorem raiseIf_factor_self (b : Bool) (f : Factor) (d : Device) :
    (d.raiseIf b f).factor f = if b then d.raisedOnce f else d.factor f := by
  unfold raiseIf; split
  · exact raise_factor_self f d
  · rfl

/-- SEQ_GAP is raised once exactly when the tag does not follow the last accepted one (R150). -/
theorem takeTag_seqGap (tag : Byte) (d : Device) :
    (d.takeTag tag).factor .seqGap =
      match d.upp.lastTag with
      | none => d.factor .seqGap
      | some last => if tag = last + 1 then d.factor .seqGap else d.raisedOnce .seqGap := by
  rw [takeTag, raiseIf_factor_self]
  unfold tagGap
  cases d.upp.lastTag with
  | none => rfl
  | some last =>
    by_cases hnext : tag = last + 1
    · have follower : follows last tag = true := decide_eq_true hnext
      simp only [follower, if_pos hnext]
      rfl
    · have breaks : follows last tag = false := decide_eq_false hnext
      simp only [breaks, if_neg hnext]
      rfl

/-- What an accepted frame brings besides its tag raises no SEQ_GAP. -/
theorem takeFrame_seqGap (c : CycleContent) (d : Device) :
    (d.takeFrame c).factor .seqGap = (d.takeTag c.tag).factor .seqGap := by
  unfold takeFrame
  rw [takeWalkFlag_seqGap, takeGaitIndex_seqGap]
  rfl

/-- In the cycle of an accepted frame the taking of the tag alone raises SEQ_GAP (R150, R151). -/
theorem acceptFrame_seqGap (c : CycleContent) (d : Device) :
    (d.acceptFrame c).factor .seqGap = (d.takeTag c.tag).factor .seqGap := by
  unfold acceptFrame
  rw [finishCycle_seqGap, stepInWalk_seqGap, updateCounters_seqGap, takeFrame_seqGap]

/-- The port before the end of a frame's cycle: the tag and the timers, as the frame's content has set them. -/
theorem stepped_upp (c : CycleContent) (d : Device) :
    (((d.takeFrame c).updateCounters).stepInWalk c.step).upp
      = { d.upp with lastTag := some c.tag, localTimer := none, silenceTimer := some d.silenceLimit } := by
  simp [takeFrame_blocks]

theorem finishCycle_lastTag (cause : CycleCause) (d : Device) :
    (d.finishCycle cause).upp.lastTag = d.upp.lastTag := by
  rw [finishCycle_upp]; split <;> rfl

theorem finishCycle_duplicateCount (cause : CycleCause) (d : Device) :
    (d.finishCycle cause).upp.duplicateCount = d.upp.duplicateCount := by
  rw [finishCycle_upp]; split <;> rfl

theorem acceptFrame_lastTag (c : CycleContent) (d : Device) : (d.acceptFrame c).upp.lastTag = some c.tag := by
  rw [acceptFrame, finishCycle_lastTag, stepped_upp]

theorem acceptFrame_duplicateCount (c : CycleContent) (d : Device) :
    (d.acceptFrame c).upp.duplicateCount = d.upp.duplicateCount := by
  rw [acceptFrame, finishCycle_duplicateCount, stepped_upp]

theorem cycleFrame_of_duplicate {c : CycleContent} {d : Device} (hp : d.upp.restartPending = false)
    (h : d.upp.lastTag = some c.tag) :
    d.cycleFrame c = d.withPort { d.upp with duplicateCount := saturate d.upp.duplicateCount } := by
  unfold cycleFrame
  rw [if_neg (by simp [hp]), if_pos h]
  rfl

theorem cycleFrame_of_accepted {c : CycleContent} {d : Device} (hp : d.upp.restartPending = false)
    (h : d.upp.lastTag ≠ some c.tag) : d.cycleFrame c = d.acceptFrame c := by
  unfold cycleFrame
  rw [if_neg (by simp [hp]), if_neg h]

end Device

@[simp] theorem State.withDev_dev (s : State) (d : Device) : (s.withDev d).dev = d := rfl

/-- A cycle frame with a whole body acts on the device of a part that runs (R150). -/
theorem exec_cycleFrame {body : List Byte} {s : State} (hb : body.length = 88) (hr : s.dev.running = true) :
    exec (.cycleFrame body) s = .next (s.withDev (s.dev.cycleFrame (cycleContent body))) := by
  show execCycleFrame body s = _
  unfold execCycleFrame State.whenRunning State.onDevice
  rw [if_pos hr, if_pos (show body.length = Config.cycleBodyLength from hb)]
  rfl

/-- Settles O11: a frame is counted as a duplicate or accepted by its tag, and the taking of the tag alone raises
SEQ_GAP. -/
theorem cycleFrameJudgedByTag : Obligations.CycleFrameJudgedByTag := by
  intro body s hb hl
  obtain ⟨running, listens⟩ : s.dev.running = true ∧ s.dev.upp.restartPending = false := by
    simpa [Device.listening] using hl
  rw [exec_cycleFrame hb running]
  refine ⟨fun duplicate => ?_, fun other => ?_⟩
  · rw [Device.cycleFrame_of_duplicate listens duplicate]
    rfl
  · rw [Device.cycleFrame_of_accepted listens other]
    refine ⟨_, rfl, ?_⟩
    rw [State.withDev_dev]
    refine ⟨Device.acceptFrame_lastTag (cycleContent body) s.dev, Device.acceptFrame_duplicateCount _ s.dev, ?_⟩
    rw [Device.acceptFrame_seqGap, Device.takeTag_seqGap]
    rfl

end Sys2Proof.Machine
end

section
/-!
PROOFS of the family 10_events_errors_and_the_alert_line.md: what a raising does to the factor it names, and how it
stands to a clearing of that factor (O48).
-/

namespace Sys2Proof.Machine

namespace Device

/-- A raising leaves everything outside the unit, and inside it all but the factors and ALERT (R163). -/
theorem raise_frame (f : Factor) (d : Device) :
    d.raise f = { d with eeu := { d.eeu with factors := (d.raise f).eeu.factors, alert := (d.raise f).eeu.alert } } :=
  rfl

/-- A clearing of one factor leaves it with its flag clear and its count 0, whatever went before (R165). -/
theorem clearFactors_factor_self (f : Factor) (d : Device) : (d.clearFactors (· = f)).factor f = ⟨false, 0⟩ := by
  rw [clearFactors_factor, if_pos (decide_eq_true rfl)]
  rfl

/-- A raising that finds the factor cleared gives the count 1 (R163). -/
theorem raise_factor_of_cleared {f : Factor} {d : Device} (h : d.factor f = ⟨false, 0⟩) :
    (d.raise f).factor f = ⟨true, 1⟩ := by
  rw [raise_factor_self, h]
  rfl

end Device

/-- Settles O48: the record of the raised factor is the one `FactorTable.raise` puts, ALERT is refreshed with it, and a
raising and a clearing of one factor act in the order in which they are taken. -/
theorem raisingCountsOneFactor : Obligations.RaisingCountsOneFactor := by
  intro d f
  have counted : (d.raise f).factor f = d.raisedOnce f := Device.raise_factor_self f d
  have others : ∀ g, g ≠ f → (d.raise f).factor g = d.factor g := fun _ => Device.raise_factor_ne d
  have alertCondition := Device.alertDue_iff (d.raise f)
  rw [Device.raise_running, Device.raise_tbs] at alertCondition
  have removed := Device.clearFactors_factor_self f (d.raise f)
  have counted_afresh := Device.raise_factor_of_cleared (Device.clearFactors_factor_self f d)
  exact ⟨counted, others, Device.raise_frame f d, Device.raise_alert f d, alertCondition, removed, counted_afresh⟩

end Sys2Proof.Machine
end

section
/-!
SUPPORT OF THE PROOFS. What one step can do to the device, said once: every command that answers a next state has either
left the machine as it is or done one of the device's operations, under the condition its event needs. The invariants
O54 to O60 go through these cases in place of the commands' meanings.
-/

namespace Sys2Proof.Machine

namespace Device

/-- The actions of the control requests that carry nothing after their action code (R175). -/
inductive ControlAct : (Device → Answer × Device) → Prop
  | arm : ControlAct arm
  | disarm : ControlAct disarm
  | hold : ControlAct hostHold
  | resume : ControlAct resume
  | sit : ControlAct hostSit
  | restart : ControlAct restart
  | clearFaults : ControlAct clearFaults
  | ident : ControlAct ident

/-- The actions of the management requests. -/
inductive RequestAct : (Device → Answer × Device) → Prop
  | tableWrite (rest : List Byte) : RequestAct (tableWrite rest)
  | tableRead (rest : List Byte) : RequestAct (tableRead rest)
  | readState (rest : List Byte) : RequestAct (readState rest)
  | control (rest : List Byte) {act : Device → Answer × Device} (h : ControlAct act) : RequestAct (plainControl rest act)
  | clearNamed (rest : List Byte) : RequestAct (clearNamed rest)
  | malformed (body : List Byte) : RequestAct (malformed body)

/-- What a command that answers a next state does to the device, with the condition of its event. -/
inductive Stepped (d : Device) : Device → Prop
  | same : Stepped d d
  | beginReset (cause : PowerCause) : Stepped d (d.beginReset cause)
  | endReset (cause : ResetCause) : Stepped d (d.endReset cause)
  | restartReset : Stepped d d.restartReset
  | cycleFrame (c : CycleContent) : Stepped d (d.cycleFrame c)
  | formDrop : Stepped d d.countFormDrop
  | crcDrop : Stepped d d.countCrcDrop
  | request (kind tag : Byte) {act : Device → Answer × Device} (h : RequestAct act) : Stepped d (d.manage kind tag act)
  | transmitted (notRestart : d.restartReplyOnWire = false) : Stepped d d.endTransmission
  | silence (timer : d.upp.silenceTimer.isSome = true) : Stepped d d.silenceExpiry
  | localCycle (timer : d.upp.localTimer.isSome = true) : Stepped d d.localCycle
  | preambleEnd (l : Leg) (state : (d.link l).state = .preamble) : Stepped d (d.lineFree l)
  | breakEnd (l : Leg) (state : (d.link l).state = .lowBreak) (whole : (d.link l).abandoned = none) :
      Stepped d (d.beginSending l)
  | delivered (l : Leg) (c : LimbCommand) (state : (d.link l).state = .sending)
      (whole : (d.link l).abandoned = none) : Stepped d (d.commandDelivered l c)
  | readBack (l : Leg) (bitTime : Nat) (samples : Sample3) (flight : (d.link l).inFlight.isSome = true)
      (checked : echoChecked l (d.link l) bitTime = true) : Stepped d (d.readBackBit l bitTime samples)
  | abandoned (l : Leg) (state : (d.link l).state = .lowBreak ∨ (d.link l).state = .sending) :
      Stepped d (d.frameAbandoned l)
  | slotEnd (l : Leg) (x : Slot) (heard : List Bool) (cs : List RxChar) (state : (d.link l).state = .slot x) :
      Stepped d (d.endSlot l x cs (carriedOver (d.link l) x heard))

end Device

open Device

/-! ## The shapes of a command that answers a next state -/

theorem State.onDevice_eq_next {s t : State} {f : Device → Device} (h : s.onDevice f = .next t) :
    t = s.withDev (f s.dev) := by
  cases h; rfl

theorem State.whenRunning_eq_next {s t : State} {o : Host.Outcome State Fault Refusal} (h : s.whenRunning o = .next t) :
    t = s ∨ o = .next t := by
  unfold State.whenRunning at h
  split at h
  · exact .inr h
  · cases h; exact .inl rfl

theorem State.whenPossible_eq_next {s t : State} {possible : Bool} {f : Device → Device}
    (h : s.whenPossible possible f = .next t) : t = s ∨ (possible = true ∧ t = s.withDev (f s.dev)) := by
  rcases State.whenRunning_eq_next h with same | acts
  · exact .inl same
  · split at acts
    next possible_here => exact .inr ⟨possible_here, State.onDevice_eq_next acts⟩
    next => cases acts

theorem State.manage_eq_next {s t : State} {kind tag : Byte} {act : Device → Answer × Device}
    (h : s.manage kind tag act = .next t) : t = s ∨ t = s.withDev (s.dev.manage kind tag act) :=
  (State.whenRunning_eq_next h).imp_right State.onDevice_eq_next

theorem State.slotEnds_eq_next {s t : State} {l : Leg} {heard : List Bool} {fits : Nat → Slot → Bool}
    (h : s.slotEnds l heard fits = .next t) :
    t = s ∨ ∃ x cs, (s.dev.link l).state = .slot x
      ∧ t = s.withDev (s.dev.endSlot l x cs (carriedOver (s.dev.link l) x heard)) := by
  unfold State.slotEnds at h
  split at h
  next => exact (State.whenPossible_eq_next h).imp_right fun ⟨never, _⟩ => nomatch never
  next x isOpen =>
    have state : (s.dev.link l).state = .slot x := by
      unfold LinkState.openSlot at isOpen
      split at isOpen
      next y is_slot => cases isOpen; exact is_slot
      next => cases isOpen
    rcases State.whenRunning_eq_next h with same | acts
    · exact .inl same
    · split at acts
      next cs _ =>
        split at acts
        · exact .inr ⟨x, cs, state, State.onDevice_eq_next acts⟩
        · cases acts
      next => cases acts

/-! ## The cases of a step -/

/-- The device has made one of the listed changes, and the queue stands. -/
def State.Stepped (s t : State) : Prop := ∃ e, Device.Stepped s.dev e ∧ t = s.withDev e

theorem State.Stepped.same (s : State) : s.Stepped s := ⟨s.dev, .same, rfl⟩

theorem State.whenRunning_stepped {s t : State} {o : Host.Outcome State Fault Refusal} (h : s.whenRunning o = .next t)
    (acts : o = .next t → s.Stepped t) : s.Stepped t := by
  rcases State.whenRunning_eq_next h with rfl | next
  · exact .same _
  · exact acts next

theorem State.onDevice_stepped {s t : State} {f : Device → Device} (h : s.onDevice f = .next t)
    (stepped : Device.Stepped s.dev (f s.dev)) : s.Stepped t := ⟨_, stepped, State.onDevice_eq_next h⟩

theorem State.whenPossible_stepped {s t : State} {possible : Bool} {f : Device → Device}
    (h : s.whenPossible possible f = .next t) (stepped : possible = true → Device.Stepped s.dev (f s.dev)) :
    s.Stepped t := by
  rcases State.whenPossible_eq_next h with rfl | ⟨can, next⟩
  · exact .same _
  · exact ⟨_, stepped can, next⟩

theorem State.manage_stepped {s t : State} {kind tag : Byte} {act : Device → Answer × Device}
    (h : s.manage kind tag act = .next t) (request : RequestAct act) : s.Stepped t := by
  rcases State.manage_eq_next h with rfl | next
  · exact .same _
  · exact ⟨_, .request kind tag request, next⟩

theorem State.slotEnds_stepped {s t : State} {l : Leg} {heard : List Bool} {fits : Nat → Slot → Bool}
    (h : s.slotEnds l heard fits = .next t) : s.Stepped t := by
  rcases State.slotEnds_eq_next h with rfl | ⟨x, cs, state, next⟩
  · exact .same _
  · exact ⟨_, .slotEnd l x heard cs state, next⟩

/-- A command that answers a next state leaves the queue as it is and does to the device one of the things listed. -/
theorem exec_eq_next {i : Instr} {s t : State} (h : exec i s = .next t) : s.Stepped t := by
  cases i with
  | powerOn => exact State.onDevice_stepped h (.beginReset .powerUp)
  | resetPin => exact State.onDevice_stepped h (.beginReset .resetPin)
  | logicBrownout => exact State.onDevice_stepped h (.beginReset .logicBrownout)
  | resetEnd last =>
    change execResetEnd last s = _ at h
    unfold execResetEnd at h
    split at h
    · exact State.onDevice_stepped h (.endReset _)
    · cases h
  | cycleFrame body =>
    refine State.whenRunning_stepped h fun acts => ?_
    split at acts
    · exact State.onDevice_stepped acts (.cycleFrame _)
    · cases acts
  | frameDropped run =>
    refine State.whenRunning_stepped h fun acts => ?_
    split at acts
    · exact State.onDevice_stepped acts .formDrop
    · exact State.onDevice_stepped acts .crcDrop
    all_goals cases acts
  | malformedRequest body =>
    refine State.whenRunning_stepped h fun acts => ?_
    split at acts
    · exact State.onDevice_stepped acts (.request _ _ (.malformed body))
    · cases acts
  | tableWrite tag rest => exact State.manage_stepped h (.tableWrite rest)
  | tableRead tag rest => exact State.manage_stepped h (.tableRead rest)
  | readState tag rest => exact State.manage_stepped h (.readState rest)
  | arm tag rest => exact State.manage_stepped h (.control rest .arm)
  | disarm tag rest => exact State.manage_stepped h (.control rest .disarm)
  | hold tag rest => exact State.manage_stepped h (.control rest .hold)
  | resume tag rest => exact State.manage_stepped h (.control rest .resume)
  | sit tag rest => exact State.manage_stepped h (.control rest .sit)
  | restart tag rest => exact State.manage_stepped h (.control rest .restart)
  | clearFactors tag rest => exact State.manage_stepped h (.clearNamed rest)
  | clearFaults tag rest => exact State.manage_stepped h (.control rest .clearFaults)
  | ident tag rest => exact State.manage_stepped h (.control rest .ident)
  | restartReset => exact State.whenPossible_stepped h fun _ => .restartReset
  | transmitComplete =>
    refine State.whenPossible_stepped h fun can => ?_
    simp only [Bool.and_eq_true, Bool.not_eq_true'] at can
    exact .transmitted can.2
  | silenceExpiry => exact State.whenPossible_stepped h .silence
  | localCycle => exact State.whenPossible_stepped h .localCycle
  | preambleEnd l => exact State.whenPossible_stepped h fun can => .preambleEnd l (of_decide_eq_true can)
  | breakEnd l =>
    refine State.whenPossible_stepped h fun can => ?_
    simp only [Bool.and_eq_true, decide_eq_true_eq, Option.isNone_iff_eq_none] at can
    exact .breakEnd l can.1 can.2
  | commandFrameEnd l =>
    change execCommandFrameEnd l s = _ at h
    unfold execCommandFrameEnd at h
    split at h
    next c _ =>
      refine State.whenPossible_stepped h fun can => ?_
      simp only [Bool.and_eq_true, decide_eq_true_eq, Option.isNone_iff_eq_none] at can
      exact .delivered l c can.1 can.2
    next => exact State.whenPossible_stepped h fun never => nomatch never
  | echoMismatch l bitTime samples =>
    refine State.whenPossible_stepped h fun can => ?_
    simp only [Bool.and_eq_true] at can
    exact .readBack l bitTime samples can.1 can.2
  | frameAbandoned l =>
    refine State.whenPossible_stepped h fun can => ?_
    simp only [Bool.and_eq_true, Bool.or_eq_true, decide_eq_true_eq] at can
    exact .abandoned l can.2
  | replyWindowExpiry l heard =>
    change execReplyWindowExpiry l heard s = _ at h
    exact State.slotEnds_stepped h
  | shortReply l heard =>
    change execShortReply l heard s = _ at h
    exact State.slotEnds_stepped h
  | replyComplete l heard =>
    change execReplyComplete l heard s = _ at h
    exact State.slotEnds_stepped h

/-- What a step does to the device. An empty queue leaves it as it is (log 1). -/
theorem step_eq_next {s t : State} (h : step s = .next t) : Stepped s.dev t.dev := by
  unfold step at h
  split at h
  · cases h; exact .same
  · obtain ⟨e, stepped, rfl⟩ := exec_eq_next h
    exact stepped

/-- A predicate of the device that no operation of a command breaks is kept by every step. -/
theorem step_keeps {P : Device → Prop} (keeps : ∀ d e, Stepped d e → P d → P e) {s t : State} (h : step s = .next t)
    (hp : P s.dev) : P t.dev :=
  keeps _ _ (step_eq_next h) hp

/-! ## Requests -/

namespace Device

/-- The port alone is written when a request is discarded, dropped or answered. -/
theorem manage_cases (kind tag : Byte) (act : Device → Answer × Device) (d : Device) :
    manage kind tag act d = d
    ∨ (∃ u, manage kind tag act d = d.withPort u)
    ∨ ∃ u, manage kind tag act d = (act d).2.withPort u := by
  unfold manage
  split
  · exact .inl rfl
  · split
    · exact .inr (.inl ⟨_, rfl⟩)
    · refine .inr (.inr ⟨(enqueue (replyBody kind tag (act d).1) (act d).2).pump.upp, ?_⟩)
      unfold execute
      rw [pump_eq_withPort]
      rfl

/-- A predicate that does not read the port is kept by a request whose action keeps it. -/
theorem manage_keeps {P : Device → Prop} (port : ∀ d u, P d → P (d.withPort u)) {kind tag : Byte}
    {act : Device → Answer × Device} {d : Device} (acts : P d → P (act d).2) (hp : P d) : P (manage kind tag act d) := by
  rcases manage_cases kind tag act d with h | ⟨u, h⟩ | ⟨u, h⟩ <;> rw [h]
  · exact hp
  · exact port d u hp
  · exact port _ u (acts hp)

/-- A predicate kept by every control action is kept by the requests that carry them. -/
theorem plainControl_keeps {P : Device → Prop} {rest : List Byte} {act : Device → Answer × Device} {d : Device}
    (acts : P d → P (act d).2) (hp : P d) : P (plainControl rest act d).2 := by
  unfold plainControl
  split
  · exact acts hp
  · exact hp

end Device

end Sys2Proof.Machine
end

section
/-!
PROOFS of the family of factors and ALERT (chapter 10): which factors each operation can raise, and that every step keeps
the flags with their counts and ALERT with its condition (O55). An operation that raises nothing but the factors of a
list leaves every other factor as it is; the later proofs read the factors off these lemmas.
-/

namespace Sys2Proof.Machine

namespace Device

/-! ## Raisings alone -/

/-- `e` comes of `d` by raising factors of `fs`, whatever else changes but the device config, on which ALERT depends. -/
inductive Raises (fs : List Factor) : Device → Device → Prop
  | quiet {d e : Device} (events : e.eeu = d.eeu) (config : e.tbs.deviceConfig = d.tbs.deviceConfig) : Raises fs d e
  | raise (d : Device) {f : Factor} (listed : f ∈ fs) : Raises fs d (d.raise f)
  | trans {a b c : Device} (first : Raises fs a b) (second : Raises fs b c) : Raises fs a c

namespace Raises

theorem refl {fs : List Factor} (d : Device) : Raises fs d d := .quiet rfl rfl

theorem mono {fs gs : List Factor} {d e : Device} (h : Raises fs d e) (sub : fs ⊆ gs) : Raises gs d e := by
  induction h with
  | quiet events config => exact .quiet events config
  | raise d listed => exact .raise d (sub listed)
  | trans _ _ first second => exact first.trans second

/-- Every factor that is not listed stands. -/
theorem factor_eq {fs : List Factor} {d e : Device} (h : Raises fs d e) {g : Factor} (hg : g ∉ fs) :
    e.factor g = d.factor g := by
  induction h with
  | quiet events _ => unfold factor; rw [events]
  | raise d listed => exact raise_factor_ne d fun same => hg (same ▸ listed)
  | trans _ _ first second => exact second.trans first

/-- A flag that is set stays set. -/
theorem flag_mono {fs : List Factor} {d e : Device} (h : Raises fs d e) {g : Factor} (hg : (d.factor g).flag = true) :
    (e.factor g).flag = true := by
  induction h with
  | quiet events _ => unfold factor; rw [events]; exact hg
  | raise d _ =>
    rw [raise_factor]
    split
    · rfl
    · exact hg
  | trans _ _ first second => exact second (first hg)

/-- What comes before the raisings and leaves the unit and the device config as they are. -/
theorem of_quiet {fs : List Factor} {d e f : Device} (h : Raises fs e f) (events : e.eeu = d.eeu)
    (config : e.tbs.deviceConfig = d.tbs.deviceConfig) : Raises fs d f := (Raises.quiet events config).trans h

theorem foldl {α : Type} {fs : List Factor} {op : Device → α → Device} (h : ∀ d x, Raises fs d (op d x)) (xs : List α)
    (d : Device) : Raises fs d (xs.foldl op d) := by
  induction xs generalizing d with
  | nil => exact .refl d
  | cons x xs ih => exact (h d x).trans (ih _)

end Raises

/-! ## The raisings of the shared operations -/

theorem modFilter_raises {fs : List Factor} (l : Leg) (f : FilterRecord → FilterRecord) (d : Device) :
    Raises fs d (d.modFilter l f) := .quiet rfl rfl

theorem takePosition_raises {fs : List Factor} (j : Joint) (x : Int) (d : Device) : Raises fs d (d.takePosition j x) :=
  .quiet rfl rfl

theorem postStatus_raises {fs : List Factor} (cause : CycleCause) (d : Device) : Raises fs d (d.postStatus cause) :=
  .quiet rfl rfl

theorem raiseIf_raises (b : Bool) (f : Factor) (d : Device) : Raises [f] d (d.raiseIf b f) := by
  unfold raiseIf
  split
  · exact .raise d (by simp)
  · exact .refl d

theorem raiseAll_raises (gs : List Factor) (d : Device) : Raises gs d (d.raiseAll gs) := by
  suffices h : ∀ hs, hs ⊆ gs → Raises gs d (d.raiseAll hs) from h gs (List.Subset.refl gs)
  intro hs sub
  unfold raiseAll
  induction hs generalizing d with
  | nil => exact .refl d
  | cons f fs ih => exact (Raises.raise d (sub (by simp))).trans (ih _ fun x hx => sub (by simp [hx]))

/-- The factors of a push that is honoured or overflows (R97, R105). -/
def pushFactors : List Factor := [.holdOverflow, .modeChanged]

theorem sitDemand_raises (d : Device) : Raises [.modeChanged] d d.sitDemand := by
  unfold sitDemand
  split
  · exact .refl d
  · exact .refl d
  · exact (Raises.raise _ (by simp)).of_quiet rfl rfl

theorem pushRecord_raises (h : Hold) (d : Device) : Raises [.modeChanged] d (d.pushRecord h) := by
  unfold pushRecord
  split
  · exact .quiet rfl rfl
  · exact (Raises.raise _ (by simp)).of_quiet rfl rfl

theorem judgePush_raises (h : Hold) (d : Device) : Raises pushFactors d (d.judgePush h) := by
  unfold judgePush
  split
  · exact .refl d
  · split
    · exact .refl d
    · split
      · refine Raises.trans ?_ ((sitDemand_raises _).mono (by decide))
        exact (Raises.raise _ (by decide)).of_quiet rfl rfl
      · exact (pushRecord_raises h d).mono (by decide)

theorem noteSilence_raises (q : PushRequest) (d : Device) : Raises [] d (d.noteSilence q) := by
  unfold noteSilence
  split
  · exact .quiet rfl rfl
  · exact .refl d

/-- A push request raises its own factor and those of its judgement (R104, R105). -/
theorem request_raises (q : PushRequest) (d : Device) : Raises (q.factor.toList ++ pushFactors) d (d.request q) := by
  unfold request
  refine Raises.trans ?_ (((noteSilence_raises q _).mono (by simp)).trans ((judgePush_raises q.hold _).mono (by simp)))
  split
  next f named => exact .raise d (by simp [named])
  next => exact .refl d

/-- The factors of a change of gait (R16, R17). -/
def gaitFactors : List Factor := [.gaitAdopted, .gaitRefused]

theorem adopt_raises (g : Fin 8) (d : Device) : Raises [.gaitAdopted] d (d.adopt g) :=
  (Raises.raise _ (by simp)).of_quiet rfl rfl

theorem refuseGait_raises (d : Device) : Raises [.gaitRefused] d d.refuseGait :=
  (Raises.raise _ (by simp)).of_quiet rfl rfl

theorem selectGait_raises (g : Fin 8) (d : Device) : Raises gaitFactors d (d.selectGait g) := by
  unfold selectGait
  split
  · exact (adopt_raises g d).mono (by decide)
  · exact (refuseGait_raises d).mono (by decide)

/-- The factors of an entry to STAND (R17, R97). -/
def standFactors : List Factor := .modeChanged :: gaitFactors

theorem enterStand_raises (d : Device) : Raises standFactors d d.enterStand := by
  have entered : Raises standFactors d ((d.setMode .stand).raise .modeChanged) :=
    (Raises.raise _ (by decide)).of_quiet rfl rfl
  unfold enterStand
  dsimp only
  split
  · exact entered.trans ((selectGait_raises _ _).mono (by decide))
  · exact entered

theorem completeStop_raises (d : Device) : Raises standFactors d d.completeStop := by
  unfold completeStop
  split
  · exact enterStand_raises d
  · exact .refl d

/-! ## The raisings of the engine's work (R9 to R41) -/

theorem askMargin_raises (l : Leg) (d : Device) : Raises [.polyDegenerate] d (d.askMargin l).2 := raiseIf_raises _ _ d

/-- The factors of a NODE request (R137, R139). -/
def nodeFactors : List Factor := .nodeLost :: .driveFault :: pushFactors

theorem nodeRequest_raises (n : Node) (why : NodeReason) (d : Device) :
    Raises (why.factor :: pushFactors) d (d.request (.node n why)) := request_raises (.node n why) d

theorem driveReaction_raises (n : Node) (why : NodeReason) (d : Device) :
    Raises (why.factor :: pushFactors) d (d.driveReaction n why) := by
  unfold driveReaction
  split
  · exact nodeRequest_raises n why d
  · exact .raise d (by simp)

theorem footReaction_raises (l : Leg) (why : NodeReason) (d : Device) :
    Raises (why.factor :: pushFactors) d (d.footReaction l why) := by
  unfold footReaction
  split
  · exact nodeRequest_raises _ why d
  · exact .raise d (by simp)

theorem footEntryJudgement_raises (l : Leg) (d : Device) : Raises nodeFactors d (d.footEntryJudgement l) := by
  unfold footEntryJudgement
  split
  · exact (footReaction_raises l .lost d).mono (by decide)
  · split
    · exact (footReaction_raises l .fault d).mono (by decide)
    · exact .refl d

theorem countWait_raises (l : Leg) (d : Device) : Raises [.liftStarved] d (d.countWait l) :=
  (raiseIf_raises _ _ _).of_quiet rfl rfl

theorem countClear_raises (l : Leg) (d : Device) : Raises (.snag :: pushFactors) d (d.countClear l) := by
  unfold countClear
  split
  · exact .refl d
  · dsimp only
    split
    · exact (request_raises (.snag l) _).of_quiet rfl rfl
    · exact .quiet rfl rfl

theorem countLanding_raises (l : Leg) (d : Device) : Raises (.noGround :: pushFactors) d (d.countLanding l) := by
  unfold countLanding
  dsimp only
  split
  · exact (request_raises (.noGround l) _).of_quiet rfl rfl
  · exact .quiet rfl rfl

theorem judgeSetDown_raises (l : Leg) (d : Device) : Raises [] d (d.judgeSetDown l) := by
  unfold judgeSetDown
  split
  · exact .quiet rfl rfl
  · exact .refl d

/-- The factors of the counter update (R24). -/
def counterFactors : List Factor := .liftStarved :: .snag :: .noGround :: pushFactors

theorem updateCounter_raises (l : Leg) (d : Device) : Raises counterFactors d (d.updateCounter l) := by
  unfold updateCounter
  split
  · exact (countWait_raises l d).mono (by decide)
  · exact (countClear_raises l d).mono (by decide)
  · exact (countLanding_raises l d).mono (by decide)
  · exact (judgeSetDown_raises l d).mono (by decide)
  all_goals exact .refl d

theorem updateCounters_raises (d : Device) : Raises counterFactors d d.updateCounters :=
  Raises.foldl (fun d l => updateCounter_raises l d) Leg.all d

/-- The factors of a lift or a landing (R26, R33, R139). -/
def liftFactors : List Factor := .polyDegenerate :: nodeFactors

theorem grantLift_raises (l : Leg) (d : Device) : Raises nodeFactors d (d.grantLift l) :=
  (footEntryJudgement_raises l _).of_quiet rfl rfl

theorem tryLift_raises (l : Leg) (d : Device) : Raises liftFactors d (d.tryLift l) := by
  unfold tryLift
  split
  · split
    · exact ((askMargin_raises l d).mono (by decide)).trans ((grantLift_raises l _).mono (by decide))
    · exact (askMargin_raises l d).mono (by decide)
  · exact .refl d

theorem liftPointsUnderfoot_raises (d : Device) : Raises [] d d.liftPointsUnderfoot := by
  unfold liftPointsUnderfoot
  split
  · exact .refl d
  · exact .quiet rfl rfl

theorem stageAdoption_raises (d : Device) : Raises gaitFactors d d.stageAdoption := by
  unfold stageAdoption
  split
  · exact .refl d
  · split
    · split
      · exact ((adopt_raises _ d).mono (by decide)).trans ((liftPointsUnderfoot_raises _).mono (by simp))
      · exact (refuseGait_raises d).mono (by decide)
    · exact .refl d

/-- The factors of a phase step (R11). -/
def stepFactors : List Factor := liftFactors ++ standFactors

theorem stagePermission_raises (d : Device) : Raises stepFactors d d.stagePermission := by
  unfold stagePermission
  split
  · exact ((completeStop_raises _).mono (by decide)).of_quiet rfl rfl
  · exact (Raises.foldl (fun d l => tryLift_raises l d) Leg.all d).mono (by decide)

theorem enterLanding_raises (l : Leg) (d : Device) : Raises nodeFactors d (d.enterLanding l) :=
  (footEntryJudgement_raises l _).of_quiet rfl rfl

theorem judgeAtPoint_raises (l : Leg) (d : Device) : Raises liftFactors d (d.judgeAtPoint l) := by
  unfold judgeAtPoint
  split
  · exact (tryLift_raises l _).of_quiet rfl rfl
  · split
    · exact .quiet rfl rfl
    · exact (enterLanding_raises l d).mono (by decide)
  · exact .refl d

theorem stageAdvance_raises (step : Nat) (d : Device) : Raises stepFactors d (d.stageAdvance step) := by
  unfold stageAdvance
  dsimp only
  refine Raises.trans ?_ ((completeStop_raises _).mono (by decide))
  exact ((Raises.foldl (fun d l => judgeAtPoint_raises l d) _ _).mono (by decide)).of_quiet rfl rfl

theorem phaseStep_raises (step : Nat) (d : Device) : Raises stepFactors d (d.phaseStep step) := by
  have staged : Raises stepFactors d d.stageAdoption.liftPointsUnderfoot.stagePermission :=
    (((stageAdoption_raises d).mono (by decide)).trans ((liftPointsUnderfoot_raises _).mono (by simp))).trans
      (stagePermission_raises _)
  unfold phaseStep
  dsimp only
  split
  · exact staged
  · split
    · exact staged
    · exact staged.trans (stageAdvance_raises _ _)

theorem stepInWalk_raises (step : Nat) (d : Device) : Raises stepFactors d (d.stepInWalk step) := by
  unfold stepInWalk
  split
  · exact phaseStep_raises step d
  · exact .refl d

theorem takeGaitIndex_raises (g : Fin 8) (d : Device) : Raises gaitFactors d (d.takeGaitIndex g) := by
  unfold takeGaitIndex
  split
  · exact .quiet rfl rfl
  · split
    · exact .refl d
    · exact selectGait_raises g d
  · exact .quiet rfl rfl
  · exact .quiet rfl rfl
  · exact .refl d

theorem takeWalkFlag_raises (w : Bool) (d : Device) : Raises [.modeChanged, .gaitRefused] d (d.takeWalkFlag w) := by
  have kept : Raises [.modeChanged, .gaitRefused] d { d with mhu := { d.mhu with walkFlag := w } } := .quiet rfl rfl
  unfold takeWalkFlag
  dsimp only
  split
  · split
    · exact (Raises.raise _ (by simp)).of_quiet rfl rfl
    · exact kept.trans (.raise _ (by simp))
  · exact kept

/-! ## The raisings of contact changes (R32, R35, R50, R54) -/

/-- The factors of a contact change (R32, R35, R40). -/
def contactFactors : List Factor := .unload :: .touchdownEarly :: .scuff :: standFactors

theorem swingContact_raises (l : Leg) (c : Contact) (d : Device) :
    Raises [.touchdownEarly, .scuff] d (d.swingContact l c) := by
  unfold swingContact
  split
  · exact .quiet rfl rfl
  · exact .refl d
  · split
    · split
      · exact (Raises.raise _ (by simp)).of_quiet rfl rfl
      · exact .raise d (by simp)
    · exact .refl d

theorem contactChange_raises (l : Leg) (c : Contact) (d : Device) : Raises contactFactors d (d.contactChange l c) := by
  unfold contactChange
  split
  · split
    · exact .raise d (by decide)
    · exact .refl d
  · split
    · exact .raise d (by decide)
    · exact .refl d
  · exact ((swingContact_raises l c d).mono (by decide)).trans ((completeStop_raises _).mono (by decide))
  · split
    · exact ((completeStop_raises _).mono (by decide)).of_quiet rfl rfl
    · exact .refl d
  · split
    · exact .quiet rfl rfl
    · exact .refl d
  · exact .refl d
  · exact .refl d

theorem formContact_raises (l : Leg) (c : Contact) (d : Device) : Raises contactFactors d (d.formContact l c) := by
  unfold formContact
  dsimp only
  split
  · exact .quiet rfl rfl
  · exact (contactChange_raises l c _).of_quiet rfl rfl

theorem takeSample_raises (l : Leg) (load : Nat) (d : Device) : Raises [.chatter] d (d.takeSample l load) :=
  (raiseIf_raises _ _ _).of_quiet rfl rfl

theorem judgeSlip_raises (l : Leg) (d : Device) : Raises (.slip :: pushFactors) d (d.judgeSlip l) := by
  unfold judgeSlip
  dsimp only
  split
  · exact .quiet rfl rfl
  · split
    · exact .refl d
    · split
      · exact (request_raises (.slip l) _).of_quiet rfl rfl
      · exact .refl d

/-- The factors of a foot reply at its filter and at the engine (R51). -/
def filterFactors : List Factor := .chatter :: .slip :: contactFactors ++ pushFactors

theorem filterReply_raises (l : Leg) (reply : FootReply) (d : Device) :
    Raises filterFactors d (d.filterReply l reply) := by
  unfold filterReply
  split
  · exact ((formContact_raises l _ _).mono (by decide)).of_quiet rfl rfl
  · dsimp only
    refine Raises.trans ?_ ((judgeSlip_raises l _).mono (by decide))
    refine Raises.trans ?_ (modFilter_raises l _ _)
    refine Raises.trans ?_ ((formContact_raises l _ _).mono (by decide))
    exact ((takeSample_raises l _ _).mono (by decide)).of_quiet rfl rfl

/-! ## The raisings of the supervisor (R135 to R144) -/

/-- The factors of a supply level that becomes LOW (R144). -/
def supplyFactors : List Factor := [.supplyLow, .supplySit, .modeChanged]

theorem supplyAction_raises (a : SupplyAction) (d : Device) : Raises supplyFactors d (d.supplyAction a) := by
  cases a with
  | flag => exact .raise d (by decide)
  | derate => exact .raise d (by decide)
  | sit => exact (Raises.raise d (by decide)).trans ((sitDemand_raises _).mono (by decide))

theorem judgeLevel1_raises (d : Device) : Raises supplyFactors d d.judgeLevel1 := by
  unfold judgeLevel1
  dsimp only
  split
  · exact (supplyAction_raises _ _).of_quiet rfl rfl
  · exact .quiet rfl rfl

theorem judgeLevel2_raises (d : Device) : Raises supplyFactors d d.judgeLevel2 := by
  unfold judgeLevel2
  dsimp only
  split
  · exact (supplyAction_raises _ _).of_quiet rfl rfl
  · exact .quiet rfl rfl

theorem formEstimate_raises (d : Device) : Raises supplyFactors d d.formEstimate :=
  Raises.trans ((judgeLevel1_raises { d with nsv := { d.nsv with estimate := d.leastReport } }).of_quiet rfl rfl)
    (judgeLevel2_raises _)

theorem transactionEnded_raises (l : Leg) (d : Device) : Raises supplyFactors d (d.transactionEnded l) :=
  (formEstimate_raises _).of_quiet rfl rfl

theorem reactToDrive_raises (n : Node) (s : FaultSet) (d : Device) :
    Raises (.overtemp :: .driveFault :: pushFactors) d (d.reactToDrive n s) := by
  unfold reactToDrive
  dsimp only
  split
  · exact ((raiseIf_raises _ _ d).mono (by decide)).trans ((driveReaction_raises n .fault _).mono (by decide))
  · exact (raiseIf_raises _ _ d).mono (by decide)

/-- The factors of a good drive reply (R136, R137, R142). -/
def driveFactors : List Factor := .overtemp :: .driveFault :: pushFactors ++ supplyFactors

theorem superviseDrive_raises (j : Joint) (reply : DriveReply) (d : Device) :
    Raises driveFactors d (d.superviseDrive j reply) := by
  unfold superviseDrive
  dsimp only
  refine Raises.trans ?_ ((formEstimate_raises _).mono (by decide))
  exact ((reactToDrive_raises _ _ _).mono (by decide)).of_quiet rfl rfl

/-- The factors of a good foot reply at the supervisor (R139, R142). -/
def footFactors : List Factor := .driveFault :: pushFactors ++ supplyFactors

theorem superviseFoot_raises (l : Leg) (reply : FootReply) (d : Device) :
    Raises footFactors d (d.superviseFoot l reply) := by
  have taken : Raises footFactors d ((d.goodOutcome ⟨l, .foot⟩).takeFaults ⟨l, .foot⟩ (footFaults reply)) :=
    .quiet rfl rfl
  have reacted (e : Device) (b : Bool) : Raises footFactors e (if b then e.footReaction l .fault else e) := by
    split
    · exact (footReaction_raises l .fault e).mono (by decide)
    · exact .refl e
  unfold superviseFoot
  dsimp only
  split
  · exact taken.trans (reacted _ _)
  · exact (taken.trans (reacted _ _)).trans ((formEstimate_raises _).mono (by decide))

/-- The factors of the loss of a node (R49, R135, R137, R139). -/
def lossFactors : List Factor := .nodeLost :: pushFactors ++ supplyFactors ++ contactFactors

theorem loseNode_raises (n : Node) (d : Device) : Raises lossFactors d (d.loseNode n) := by
  have marked (f : NodeRecord → NodeRecord) : Raises lossFactors d (d.modNode n f) := .quiet rfl rfl
  have reacted (e : Device) (b : Bool) : Raises lossFactors e (if b then e else e.driveReaction n .lost) := by
    split
    · exact .refl e
    · exact (driveReaction_raises n .lost e).mono (by decide)
  unfold loseNode
  dsimp only
  split
  · refine Raises.trans ?_ ((formContact_raises _ _ _).mono (by decide))
    refine Raises.trans ?_ ((formEstimate_raises _).mono (by decide))
    exact (marked _).trans ((footReaction_raises _ .lost _).mono (by decide))
  · refine Raises.trans ?_ ((formEstimate_raises _).mono (by decide))
    exact (marked _).trans (reacted _ _)

theorem missedOutcome_raises (n : Node) (d : Device) : Raises lossFactors d (d.missedOutcome n) := by
  unfold missedOutcome
  split
  · exact loseNode_raises n d
  · exact .quiet rfl rfl

/-! ## The raisings of the links (R101, R121, R124, R127) -/

theorem lineFree_raises (l : Leg) (d : Device) : Raises [] d (d.lineFree l) :=
  .quiet (lineFree_frame l d).2.2.2.2.2.2.2.2.2 (by rw [(lineFree_frame l d).1])

theorem handOff_raises (l : Leg) (c : LimbCommand) (d : Device) : Raises [.cycleOverrun] d (d.handOff l c) := by
  unfold handOff
  split
  · exact .quiet rfl rfl
  · exact (raiseIf_raises _ _ _).of_quiet rfl rfl

theorem judgeLowering_raises (d : Device) : Raises [.modeChanged] d d.judgeLowering := by
  unfold judgeLowering
  split
  · exact (Raises.raise _ (by simp)).of_quiet rfl rfl
  · exact .refl d

theorem commandDelivered_raises (l : Leg) (c : LimbCommand) (d : Device) :
    Raises [.modeChanged] d (d.commandDelivered l c) :=
  (judgeLowering_raises _).of_quiet rfl rfl

theorem frameAbandoned_raises (l : Leg) (d : Device) : Raises supplyFactors d (d.frameAbandoned l) :=
  (transactionEnded_raises l _).of_quiet rfl rfl

theorem abandonFrame_raises (l : Leg) (t : Nat) (d : Device) : Raises [.limbBitError] d (d.abandonFrame l t) :=
  (Raises.raise _ (by simp)).of_quiet rfl rfl

theorem readBackBit_raises (l : Leg) (t : Nat) (r : Sample3) (d : Device) :
    Raises [.limbBitError] d (d.readBackBit l t r) := by
  unfold readBackBit
  split
  · exact .refl d
  · exact abandonFrame_raises l t d

theorem countSlot_raises (l : Leg) (x : Slot) (j : SlotJudgement) (d : Device) :
    Raises [.replyCrc] d (d.countSlot l x j) := by
  unfold countSlot
  split
  · exact .quiet rfl rfl
  · exact (Raises.raise _ (by simp)).of_quiet rfl rfl
  · exact .quiet rfl rfl

/-- The factors of what a slot brought, once it is handed on (R128). -/
def slotFactors : List Factor := driveFactors ++ footFactors ++ filterFactors ++ lossFactors

theorem handOn_raises (l : Leg) (x : Slot) (j : SlotJudgement) (bs : List Byte) (d : Device) :
    Raises slotFactors d (d.handOn l x j bs) := by
  unfold handOn
  split
  · split
    · refine Raises.trans ?_ (takePosition_raises _ _ _)
      exact ((superviseDrive_raises _ _ _).mono (by decide)).of_quiet rfl rfl
    · exact ((superviseFoot_raises l _ d).mono (by decide)).trans ((filterReply_raises l _ _).mono (by decide))
  · exact (missedOutcome_raises _ d).mono (by decide)

theorem closeSlot_raises (l : Leg) (x : Slot) (carried : Carried) (d : Device) :
    Raises supplyFactors d (d.closeSlot l x carried) := by
  unfold closeSlot
  dsimp only
  split
  · exact .quiet rfl rfl
  · refine Raises.trans ?_ ((lineFree_raises l _).mono (by simp))
    exact (transactionEnded_raises l _).of_quiet rfl rfl

theorem endSlot_raises (l : Leg) (x : Slot) (cs : List RxChar) (carried : Carried) (d : Device) :
    Raises (.replyCrc :: slotFactors) d (d.endSlot l x cs carried) := by
  unfold endSlot
  dsimp only
  refine Raises.trans ?_ ((closeSlot_raises l x carried _).mono (by decide))
  refine Raises.trans ?_ ((handOn_raises l x _ _ _).mono (by decide))
  exact ((countSlot_raises l x _ _).mono (by decide)).of_quiet rfl rfl

/-! ## The raisings of a cycle (R67, R71, R75, R150 to R154) -/

theorem computeMargins_raises (d : Device) : Raises [.polyDegenerate] d d.computeMargins := by
  refine ((raiseAll_raises _ _).mono ?_).of_quiet rfl rfl
  intro f hf
  obtain ⟨m, _, raised⟩ := List.mem_flatMap.mp hf
  split at raised
  · exact raised
  · cases raised

theorem braceCheck_raises (d : Device) : Raises (.brace :: pushFactors) d d.braceCheck := by
  unfold braceCheck
  split
  · exact request_raises .margin d
  · exact .refl d

/-- The factors that the stages of a joint's composition raise (R84, R85). -/
def jointFactors : List Factor := [.stepLimited, .limitNote, .limitClamp]

theorem softLimit_raised_subset (r : JointRecord) (x : Int) : (softLimit r x).raised.toList ⊆ jointFactors := by
  unfold softLimit
  split
  · simp
  · split <;> simp [jointFactors]

theorem composeJoint_raised_subset (d : Device) (j : Joint) : (d.composeJoint j).raised ⊆ jointFactors := by
  unfold composeJoint
  split
  · exact List.nil_subset _
  · refine List.append_subset.mpr ⟨?_, softLimit_raised_subset _ _⟩
    split <;> decide

/-- The factors of one lane's composition (R77, R78, R84, R85). -/
theorem laneFactors_subset (d : Device) (l : Leg) : d.laneFactors l ⊆ .targetMismatch :: jointFactors := by
  refine List.append_subset.mpr ⟨?_, fun f hf => ?_⟩
  · split <;> decide
  · obtain ⟨c, hc, raised⟩ := List.mem_flatMap.mp hf
    have joint : ∃ i, c = d.composeJoint ⟨l, i⟩ := by
      simp only [composeLeg, PerJoint.toList, PerJoint.ofFn, List.mem_cons, List.not_mem_nil, or_false] at hc
      rcases hc with rfl | rfl | rfl
      exacts [⟨.ha, rfl⟩, ⟨.hf, rfl⟩, ⟨.kn, rfl⟩]
    obtain ⟨i, rfl⟩ := joint
    exact List.mem_cons_of_mem _ (composeJoint_raised_subset d ⟨l, i⟩ raised)

theorem limitRequests_raises (js : List Joint) (d : Device) :
    Raises (.limitFreeze :: pushFactors) d (d.requestAll (js.map .limit)) := by
  unfold requestAll
  rw [List.foldl_map]
  exact Raises.foldl (fun d j => request_raises (.limit j) d) js d

/-- The factors of the compositions of a cycle (R75, R85, R121). -/
def composeFactors : List Factor :=
  .cycleOverrun :: .targetMismatch :: .limitFreeze :: jointFactors ++ pushFactors

theorem compose_raises (d : Device) : Raises composeFactors d d.compose := by
  unfold compose
  dsimp only
  refine Raises.trans ?_ ((Raises.foldl (fun e l => handOff_raises l _ e) Leg.all _).mono (by decide))
  refine Raises.trans ?_ ((limitRequests_raises _ _).mono (by decide))
  refine ((raiseAll_raises _ _).mono fun f hf => ?_).of_quiet rfl rfl
  obtain ⟨l, _, raised⟩ := List.mem_flatMap.mp hf
  exact (List.Subset.trans (laneFactors_subset d l) (by decide)) raised

theorem pump_raises (d : Device) : Raises [] d d.pump := .quiet (pump_frame d).2.2.2.2.2.2.2.2.2 (by rw [(pump_frame d).1])

/-- The factors of a cycle after the engine's own work (R67, R71, R75). -/
def finishFactors : List Factor := .polyDegenerate :: .brace :: composeFactors

theorem finishCycle_raises (cause : CycleCause) (d : Device) : Raises finishFactors d (d.finishCycle cause) := by
  unfold finishCycle
  refine Raises.trans ?_ ((pump_raises _).mono (by simp))
  refine Raises.trans ?_ (postStatus_raises cause _)
  refine Raises.trans ?_ ((compose_raises _).mono (by decide))
  exact ((computeMargins_raises d).mono (by decide)).trans ((braceCheck_raises _).mono (by decide))

theorem takeFrame_raises (c : CycleContent) (d : Device) :
    Raises (.seqGap :: standFactors) d (d.takeFrame c) := by
  unfold takeFrame
  refine Raises.trans ?_ ((takeWalkFlag_raises _ _).mono (by decide))
  refine Raises.trans ?_ ((takeGaitIndex_raises _ _).mono (by decide))
  have tagged : Raises (.seqGap :: standFactors) d (d.takeTag c.tag) :=
    ((raiseIf_raises _ _ _).mono (by decide)).of_quiet rfl rfl
  exact tagged.trans (.quiet rfl rfl)

/-- The factors of a cycle, of a frame or of the local timer. -/
def cycleFactors : List Factor := .seqGap :: counterFactors ++ stepFactors ++ finishFactors

theorem acceptFrame_raises (c : CycleContent) (d : Device) : Raises cycleFactors d (d.acceptFrame c) := by
  unfold acceptFrame
  refine Raises.trans ?_ ((finishCycle_raises _ _).mono (by decide))
  refine Raises.trans ?_ ((stepInWalk_raises _ _).mono (by decide))
  exact ((takeFrame_raises c d).mono (by decide)).trans ((updateCounters_raises _).mono (by decide))

theorem cycleFrame_raises (c : CycleContent) (d : Device) : Raises cycleFactors d (d.cycleFrame c) := by
  unfold cycleFrame
  split
  · exact .refl d
  · split
    · exact .quiet rfl rfl
    · exact acceptFrame_raises c d

theorem localCycle_raises (d : Device) : Raises cycleFactors d d.localCycle := by
  unfold localCycle
  refine Raises.trans ?_ ((finishCycle_raises _ _).mono (by decide))
  have counted : Raises cycleFactors d d.startLocalTimer.updateCounters :=
    ((updateCounters_raises _).mono (by decide)).of_quiet rfl rfl
  exact counted.trans (.quiet rfl rfl)

theorem silenceExpiry_raises (d : Device) : Raises (.linkSilent :: pushFactors) d d.silenceExpiry := by
  unfold silenceExpiry
  have requested : Raises (.linkSilent :: pushFactors) d
      (request .linkSilent { d with upp := { d.upp with silenceTimer := none } }) :=
    (request_raises .linkSilent _).of_quiet rfl rfl
  exact requested.trans (.quiet rfl rfl)

/-! ## The raisings of a RESUME (R111 to R113) -/

theorem releaseLegs_raises (d : Device) : Raises [] d d.releaseLegs :=
  .quiet (releaseLegs_frame d).2.2.2.2.2.2.2.2.2 (by rw [(releaseLegs_frame d).1])

theorem popTouchDown_raises {fs : List Factor} (h : Hold) (d : Device) : Raises fs d (d.popTouchDown h) :=
  .quiet (by simp) (by simp)

theorem leaveHold_raises (r : HoldRecord) (d : Device) : Raises standFactors d (d.leaveHold r) := by
  unfold leaveHold
  split
  · refine Raises.trans ?_ (.raise _ (by decide))
    split
    · exact .quiet (by simp) (by simp)
    · exact .quiet (by simp) (by simp)
  · exact ((releaseLegs_raises d).mono (by simp)).trans (enterStand_raises _)

theorem popRecord_raises (r : HoldRecord) (d : Device) :
    Raises (.holdResumed :: standFactors) d (d.popRecord r) := by
  have popped : Raises (.holdResumed :: standFactors) d
      (popTouchDown r.hold (raise .holdResumed { d with mhu := { d.mhu with stack := d.mhu.stack.dropLast } })) := by
    refine Raises.trans ?_ (popTouchDown_raises r.hold _)
    exact (Raises.raise _ (by simp)).of_quiet rfl rfl
  unfold popRecord
  dsimp only
  split
  · exact popped.trans ((leaveHold_raises _ _).mono (by decide))
  · exact popped

/-! ## Flags, counts and ALERT (R162, R163, R168) -/

theorem factorsCoherent_iff (d : Device) : d.factorsCoherent = true ↔
    ∀ f, (d.factor f).flag = decide (0 < (d.factor f).count) ∧ (d.factor f).count ≤ 255 := by
  rw [factorsCoherent, Factor.all_iff]
  simp

theorem alertFollows_iff (d : Device) : d.alertFollows = true ↔ d.eeu.alert = d.alertDue := by
  simp [alertFollows]

/-- The two invariants of the Event and Error Unit. -/
def alertSound (d : Device) : Prop := d.factorsCoherent = true ∧ d.alertFollows = true

theorem factorsCoherent_raise (f : Factor) {d : Device} (h : d.factorsCoherent = true) :
    (d.raise f).factorsCoherent = true := by
  rw [factorsCoherent_iff] at h ⊢
  intro g
  rw [raise_factor]
  split
  · simp [saturate, countUp]
  · exact h g

/-- A raising keeps the counts with the flags, and makes ALERT follow whatever it was. -/
theorem alertSound_raise (f : Factor) {d : Device} (h : d.factorsCoherent = true) : (d.raise f).alertSound :=
  ⟨factorsCoherent_raise f h, (alertFollows_iff _).mpr rfl⟩

/-- The invariants read the unit and the device config alone. -/
theorem alertSound_congr {d e : Device} (events : e.eeu = d.eeu) (config : e.tbs.deviceConfig = d.tbs.deviceConfig)
    (h : d.alertSound) : e.alertSound := by
  obtain ⟨counts, alert⟩ := h
  rw [factorsCoherent_iff] at counts
  rw [alertFollows_iff] at alert
  refine ⟨(factorsCoherent_iff e).mpr ?_, (alertFollows_iff e).mpr ?_⟩
  · unfold factor at counts ⊢
    rwa [events]
  · rw [events, alert]
    exact alertDue_congr (by rw [events]) (by rw [events]) config.symm

/-- An operation that only raises factors keeps both invariants. -/
theorem Raises.alertSound {fs : List Factor} {d e : Device} (h : Raises fs d e) (sound : d.alertSound) :
    e.alertSound := by
  induction h with
  | quiet events config => exact alertSound_congr events config sound
  | raise d _ => exact alertSound_raise _ sound.1
  | trans _ _ first second => exact second (first sound)

/-- A clearing keeps both: a cleared factor has its flag clear and its count 0, and ALERT is judged anew (R165). -/
theorem clearFactors_alertSound (p : Factor → Bool) {d : Device} (h : d.alertSound) : (d.clearFactors p).alertSound := by
  refine ⟨(factorsCoherent_iff _).mpr fun f => ?_, (alertFollows_iff _).mpr (clearFactors_alert p d)⟩
  rw [clearFactors_factor]
  split
  · simp [clearFactor]
  · exact (factorsCoherent_iff d).mp h.1 f

theorem factorsCoherent_of_cleared {d : Device} (h : d.eeu.factors = clearFactorTable) : d.factorsCoherent = true := by
  rw [factorsCoherent_iff]
  intro f
  unfold factor
  rw [h, FactorTable.record_cleared]
  simp [clearFactor]

/-- While a reset is in progress every factor is clear and ALERT is released (R145, R164). -/
theorem beginReset_alertSound (cause : PowerCause) (d : Device) : (d.beginReset cause).alertSound := by
  have stopped : (d.beginReset cause).running = false := by
    show (if d.eeu.resetting.contains cause then d.eeu.resetting else d.eeu.resetting ++ [cause]).isEmpty = false
    split
    next h => exact List.isEmpty_eq_false_iff_exists_mem.mpr ⟨cause, by simpa using h⟩
    next => simp
  refine ⟨factorsCoherent_of_cleared rfl, (alertFollows_iff _).mpr ?_⟩
  unfold alertDue
  rw [stopped]
  rfl

theorem endReset_alertSound (cause : ResetCause) {d : Device} (h : d.alertSound) : (d.endReset cause).alertSound :=
  alertSound_raise _ h.1

theorem restartReset_alertSound (d : Device) : d.restartReset.alertSound :=
  alertSound_raise _ (factorsCoherent_of_cleared rfl)

/-- ALERT follows a new device config at once (R168). -/
theorem refreshAlert_alertSound {d e : Device} (events : e.eeu = d.eeu) (h : d.alertSound) :
    e.refreshAlert.alertSound := by
  refine ⟨?_, (alertFollows_iff _).mpr rfl⟩
  have counts := (factorsCoherent_iff d).mp h.1
  rw [factorsCoherent_iff]
  unfold factor at counts ⊢
  rwa [refreshAlert_factors, events]

theorem withPort_alertSound (d : Device) (u : UpstreamPort) (h : d.alertSound) : (d.withPort u).alertSound :=
  alertSound_congr rfl rfl h

/-- A table write leaves the factors alone, and a write of the device config has ALERT judged anew (R157, R168). -/
theorem writeTable_alertSound (t : TableId) (r : EntryRange) (data : List Byte) {d : Device} (h : d.alertSound) :
    (d.writeTable t r data).2.alertSound := by
  cases t with
  | gait =>
    show (if _ then _ else _ : Device).alertSound
    split <;> exact alertSound_congr rfl rfl h
  | joint =>
    show (writeJoint r data d).2.alertSound
    unfold writeJoint
    dsimp only
    split
    · split
      · exact h
      · exact alertSound_congr rfl rfl h
    · exact alertSound_congr rfl rfl h
  | pose =>
    show (writePose r data d).2.alertSound
    unfold writePose
    dsimp only
    split
    · split
      · exact h
      · exact alertSound_congr rfl rfl h
    · exact alertSound_congr rfl rfl h
  | liftProfile =>
    show (writeLiftProfile r data d).2.alertSound
    unfold writeLiftProfile
    dsimp only
    split
    · split
      · exact h
      · exact alertSound_congr rfl rfl h
    · exact alertSound_congr rfl rfl h
  | linkConfig => exact alertSound_congr rfl rfl h
  | deviceConfig => exact refreshAlert_alertSound (d := d) rfl h

/-- A table write is refused with the device unchanged, or is a write that has passed the judgements (R156, R157). -/
theorem tableWrite_device (rest : List Byte) (d : Device) :
    (d.tableWrite rest).2 = d ∨ ∃ t r data, r.inTable t = true ∧ d.writeBarred t r = false
      ∧ (d.tableWrite rest).2 = (d.writeTable t r data).2 := by
  unfold tableWrite
  split
  · exact .inl rfl
  · split
    · exact .inl rfl
    · split
      · unfold judgeWrite
        split
        · exact .inl rfl
        · split
          · exact .inl rfl
          · split
            · exact .inl rfl
            · next inside allowed => exact .inr ⟨_, _, _, by simpa using inside, by simpa using allowed, rfl⟩
      · exact .inl rfl

theorem requestAct_alertSound {act : Device → Answer × Device} (request : RequestAct act) {d : Device}
    (h : d.alertSound) : (act d).2.alertSound := by
  cases request with
  | tableWrite rest =>
    rcases tableWrite_device rest d with same | ⟨t, r, data, _, _, written⟩
    · rwa [same]
    · rw [written]
      exact writeTable_alertSound t r data h
  | tableRead rest => rwa [tableRead_device]
  | readState rest =>
    show (readState rest d).2.alertSound
    unfold readState readSections
    split
    · split
      · exact h
      · dsimp only
        split
        · exact clearFactors_alertSound _ h
        · exact h
    · exact h
  | clearNamed rest =>
    show (clearNamed rest d).2.alertSound
    unfold clearNamed
    split
    · exact h
    · exact clearFactors_alertSound _ h
  | malformed body =>
    show (useEchoes body d).alertSound
    unfold useEchoes
    split
    · exact alertSound_congr rfl rfl h
    · exact h
  | control rest control =>
    refine plainControl_keeps (fun h => ?_) h
    cases control with
    | arm =>
      unfold arm
      split
      · exact h
      · split
        · exact alertSound_congr rfl rfl h
        · exact alertSound_raise _ (alertSound_congr (d := d) rfl rfl h).1
    | disarm =>
      unfold disarm
      split
      · exact h
      · exact alertSound_raise _ (alertSound_congr (d := d) rfl rfl h).1
    | hold =>
      unfold hostHold
      split
      · exact h
      · exact (request_raises .host d).alertSound h
    | resume =>
      unfold resume
      split
      · exact h
      · split
        · exact (popRecord_raises _ d).alertSound h
        · exact h
    | sit =>
      unfold hostSit
      split
      · exact h
      · exact (sitDemand_raises d).alertSound h
    | restart => exact alertSound_congr rfl rfl h
    | clearFaults => exact alertSound_congr rfl rfl h
    | ident => exact h

/-- No operation of a command breaks the invariants of the Event and Error Unit. -/
theorem Stepped.alertSound {d e : Device} (stepped : Stepped d e) (h : d.alertSound) : e.alertSound := by
  cases stepped with
  | same => exact h
  | beginReset cause => exact beginReset_alertSound cause d
  | endReset cause => exact endReset_alertSound cause h
  | restartReset => exact restartReset_alertSound d
  | cycleFrame c => exact (cycleFrame_raises c d).alertSound h
  | formDrop => exact alertSound_congr rfl rfl h
  | crcDrop => exact alertSound_congr rfl rfl h
  | request kind tag act => exact manage_keeps withPort_alertSound (requestAct_alertSound act) h
  | transmitted _ => exact (((pump_raises _).of_quiet rfl rfl : Raises [] d d.endTransmission)).alertSound h
  | silence _ => exact (silenceExpiry_raises d).alertSound h
  | localCycle _ => exact (localCycle_raises d).alertSound h
  | preambleEnd l _ => exact (lineFree_raises l d).alertSound h
  | breakEnd l _ _ => exact alertSound_congr rfl rfl h
  | delivered l c _ _ => exact (commandDelivered_raises l c d).alertSound h
  | readBack l bitTime samples _ _ => exact (readBackBit_raises l bitTime samples d).alertSound h
  | abandoned l _ => exact (frameAbandoned_raises l d).alertSound h
  | slotEnd l x heard cs _ => exact (endSlot_raises l x cs _ d).alertSound h

end Device

/-- Settles O55: of the operations of a command all but the resets, the clearings and the writes of the device config
raise factors alone, and those judge ALERT anew. -/
theorem stepKeepsFactorsAndAlert : Obligations.StepKeepsFactorsAndAlert := by
  intro s t stepped counts alert
  exact (step_eq_next stepped).alertSound ⟨counts, alert⟩

end Sys2Proof.Machine
end

section
/-!
PROOFS. The step and the resets (O1 to O6), the transmitter (O10), the requests IDENT, RESTART and CLEAR_FAULTS (O19,
O20, O23), and the invariants at reset (O54).
-/

namespace Sys2Proof.Machine

/-! ## The step -/

/-- A command that answers a next state leaves the queue to the step (log 1). -/
theorem exec_pending {i : Instr} {s t : State} (h : exec i s = .next t) : t.pending = s.pending := by
  obtain ⟨e, _, rfl⟩ := exec_eq_next h
  rfl

/-- Settles O1: the step is the command's execution by definition, and a command that answers a next state has only
changed the device. -/
theorem stepRunsFrontCommand : Obligations.StepRunsFrontCommand :=
  fun _ _ _ => ⟨rfl, fun _ => exec_pending, rfl⟩

/-! ## The resets -/

theorem Device.mem_beginReset_resetting (cause : PowerCause) (d : Device) :
    cause ∈ (d.beginReset cause).eeu.resetting := by
  unfold beginReset
  dsimp only
  split
  next joined => exact List.contains_iff_mem.mp joined
  next => exact List.mem_append_right _ (List.mem_singleton_self _)

theorem Device.resetting_subset_beginReset (cause : PowerCause) (d : Device) :
    ∀ k ∈ d.eeu.resetting, k ∈ (d.beginReset cause).eeu.resetting := by
  intro k hk
  unfold beginReset
  dsimp only
  split
  next => exact hk
  next => exact List.mem_append_left _ hk

theorem Device.beginReset_factor (cause : PowerCause) (d : Device) (f : Factor) :
    (d.beginReset cause).factor f = ⟨false, 0⟩ := FactorTable.record_cleared f

theorem tablesAtPowerUp_gaitAt (g : Fin 8) : tablesAtPowerUp.gaitAt g = zeroGaitEntry := by
  revert g; decide

theorem tablesAtPowerUp_jointAt (j : Joint) : tablesAtPowerUp.jointAt j = zeroJoint := by
  simp [TableStore.jointAt, tablesAtPowerUp]

/-- The three commands that begin a reset differ in the cause they name. -/
theorem exec_of_powerCause {i : Instr} {c : PowerCause}
    (h : i = .powerOn ∧ c = .powerUp ∨ i = .resetPin ∧ c = .resetPin ∨ i = .logicBrownout ∧ c = .logicBrownout)
    (s : State) : exec i s = .next (s.withDev (s.dev.beginReset c)) := by
  rcases h with ⟨rfl, rfl⟩ | ⟨rfl, rfl⟩ | ⟨rfl, rfl⟩ <;> rfl

/-- Settles O2: every block is one of the reset values, and a value for each leg, joint or node is the same for all. -/
theorem powerUpClassResetStatesEveryBlock : Obligations.PowerUpClassResetStatesEveryBlock := by
  intro s i c h
  refine ⟨_, exec_of_powerCause h s, rfl, Device.mem_beginReset_resetting c s.dev,
    Device.resetting_subset_beginReset c s.dev, rfl, Device.beginReset_factor c s.dev, rfl, rfl, rfl,
    fun l => PerLeg.get_replicate _ l, rfl, fun l => PerLeg.get_replicate _ l, ?segments, ?joints, rfl, rfl,
    fun l => PerLeg.get_replicate _ l, ?nodes, ?ages, rfl, rfl, rfl, rfl, ?gaits, tablesAtPowerUp_jointAt, rfl,
    fun l => PerLeg.get_replicate _ l, rfl, rfl, rfl, rfl, rfl⟩
  case segments => intro l; cases l <;> rfl
  case joints => rintro ⟨l, i⟩; cases l <;> cases i <;> rfl
  case nodes => rintro ⟨l, x⟩; cases l <;> cases x <;> rfl
  case ages => rintro ⟨l, i⟩; cases l <;> cases i <;> rfl
  case gaits =>
    intro g
    change (tablesAtPowerUp.gaitAt g).valid = false ∧ _
    rw [show (s.withDev (s.dev.beginReset c)).dev.tbs = tablesAtPowerUp from rfl, tablesAtPowerUp_gaitAt]
    exact ⟨rfl, rfl, rfl, rfl, rfl, rfl, rfl, fun l => PerLeg.get_replicate _ l⟩

theorem exec_resetEnd {last : PowerCause} {s : State} (h : last ∈ s.dev.eeu.resetting) :
    exec (.resetEnd last) s = .next (s.withDev (s.dev.endReset (causeRecord last))) := by
  show execResetEnd last s = _
  unfold execResetEnd
  rw [if_pos (List.contains_iff_mem.mpr h)]
  rfl

theorem Device.endReset_factor (cause : ResetCause) (d : Device) (f : Factor) :
    (d.endReset cause).factor f
      = if f = .resetDone then ⟨true, saturate (d.factor .resetDone).count⟩ else d.factor f :=
  raise_factor .resetDone f _

theorem Device.enableLinks_link (d : Device) (l : Leg) : d.enableLinks.link l = linkAtReset d.tbs.linkConfig :=
  PerLeg.get_replicate _ l

/-- Settles O3: RESET_END enables the links, writes the cause and raises RESET_DONE; the raising reaches one factor. -/
theorem resetEndStartsPart : Obligations.ResetEndStartsPart := by
  intro s last h
  have links (l : Leg) : (s.dev.endReset (causeRecord last)).link l = linkAtReset s.dev.tbs.linkConfig :=
    s.dev.enableLinks_link l
  refine ⟨_, exec_resetEnd h, rfl, rfl, ?cause, ?raised, ?others, ?links, rfl, rfl, rfl, rfl, rfl, rfl, rfl, rfl, rfl⟩
  case cause => cases last <;> rfl
  case raised => exact (s.dev.endReset_factor _ .resetDone).trans (if_pos rfl)
  case others => exact fun f hf => (s.dev.endReset_factor _ f).trans (if_neg hf)
  case links => exact fun l => ⟨congrArg LinkController.state (links l), congrArg LinkController.settings (links l)⟩

theorem reset_factor (f : Factor) :
    State.reset.dev.factor f = if f = .resetDone then ⟨true, 1⟩ else ⟨false, 0⟩ := by
  revert f; intro f; cases f <;> decide

/-- The factor table once RESET_DONE has been raised into a clear one. -/
theorem raise_resetDone_clear : FactorTable.raise clearFactorTable .resetDone = (eventsAfterPowerUp .powerUp).factors := by
  decide

/-- The Event and Error Unit after a whole reset: no factor that is set counts toward ALERT. -/
theorem Device.endReset_beginReset_eeu (d : Device) :
    ((d.beginReset .powerUp).endReset .powerUp).eeu = eventsAfterPowerUp .powerUp := by
  have alert : ((d.beginReset .powerUp).endReset .powerUp).eeu.alert = false :=
    (alertDue_congr (d := (d.beginReset .powerUp).endReset .powerUp) (e := State.reset.dev) raise_resetDone_clear rfl
      rfl).trans (show State.reset.dev.alertDue = false by decide)
  show EventUnit.mk (FactorTable.raise clearFactorTable .resetDone) .powerUp []
    ((d.beginReset .powerUp).endReset .powerUp).eeu.alert = _
  rw [alert, raise_resetDone_clear]
  rfl

theorem Device.endReset_beginReset (d : Device) :
    (d.beginReset .powerUp).endReset .powerUp = { State.reset.dev with freeCount := d.freeCount } := by
  show ({ State.reset.dev with eeu := ((d.beginReset .powerUp).endReset .powerUp).eeu, freeCount := d.freeCount }
    : Device) = _
  rw [endReset_beginReset_eeu]
  rfl

/-- Settles O4: what the beginning of the reset sets does not depend on the device, but for the resets in progress, which
its end clears. -/
theorem powerOnResetReachesResetState : Obligations.PowerOnResetReachesResetState := by
  intro s
  refine ⟨s.withDev (s.dev.beginReset .powerUp), rfl, ?_, (reset_factor .resetDone), fun f hf => ?_, rfl⟩
  · exact (exec_resetEnd (s.dev.mem_beginReset_resetting .powerUp)).trans
      (congrArg (fun d => Host.Outcome.next (s.withDev d)) s.dev.endReset_beginReset)
  · rw [reset_factor, if_neg hf]

theorem State.whenRunning_of_reset {s : State} (o : Host.Outcome State Fault Refusal) (h : s.dev.running = false) :
    s.whenRunning o = .next s := by
  unfold State.whenRunning
  rw [h]
  rfl

/-- Settles O5: every such command acts only while the part runs. -/
theorem commandDuringResetDoesNothing : Obligations.CommandDuringResetDoesNothing := by
  intro c s h notOn notPin notBrownout notEnd
  have quiet (o : Host.Outcome State Fault Refusal) : s.whenRunning o = .next s := State.whenRunning_of_reset o h
  have slots (l : Leg) (heard : List Bool) (fits : Nat → Slot → Bool) : s.slotEnds l heard fits = .next s := by
    unfold State.slotEnds
    split <;> exact quiet _
  cases c with
  | powerOn => exact absurd rfl notOn
  | resetPin => exact absurd rfl notPin
  | logicBrownout => exact absurd rfl notBrownout
  | resetEnd last => exact absurd rfl (notEnd last)
  | commandFrameEnd l =>
    show execCommandFrameEnd l s = _
    unfold execCommandFrameEnd
    split <;> exact quiet _
  | replyWindowExpiry l heard =>
    show execReplyWindowExpiry l heard s = _
    exact slots l heard _
  | shortReply l heard =>
    show execShortReply l heard s = _
    exact slots l heard _
  | replyComplete l heard =>
    show execReplyComplete l heard s = _
    exact slots l heard _
  | _ => exact quiet _

theorem Device.restartReset_factor (d : Device) (f : Factor) :
    d.restartReset.factor f = if f = .resetDone then ⟨true, 1⟩ else ⟨false, 0⟩ := by
  refine (raise_factor .resetDone f _).trans ?_
  split
  · rfl
  · exact FactorTable.record_cleared f

/-- After a RESTART only RESET_DONE is set, so that ALERT is due when it is enabled (R167, R168). -/
theorem Device.restartReset_alert (d : Device) (h : d.running = true) : d.restartReset.eeu.alert
    = (d.tbs.deviceConfig.alertEnable && d.tbs.deviceConfig.eventEnables.getLsbD 10) := by
  have due := alertDue_iff d.restartReset
  have running : d.restartReset.running = true := h
  have only : (∃ g, (d.restartReset.factor g).flag = true
      ∧ (g.isError = true ∨ d.restartReset.tbs.deviceConfig.eventEnables.getLsbD g.bit = true))
      ↔ d.tbs.deviceConfig.eventEnables.getLsbD 10 = true := by
    constructor
    · rintro ⟨g, flag, counts⟩
      rw [restartReset_factor] at flag
      split at flag
      next is_done => subst is_done; exact counts.resolve_left (by decide)
      next => cases flag
    · exact fun enabled => ⟨.resetDone, by rw [restartReset_factor]; rfl, .inr enabled⟩
  rw [only] at due
  rw [Bool.eq_iff_iff, Bool.and_eq_true]
  exact due.trans ⟨fun ⟨_, h⟩ => h, fun h => ⟨running, h⟩⟩

/-- Settles O6: every block but the tables is a reset value, and the raising of RESET_DONE is the only one. -/
theorem restartResetKeepsTables : Obligations.RestartResetKeepsTables := by
  intro s running onWire
  refine ⟨_, State.whenPossible_of s _ _ running onWire, rfl, rfl, rfl, running, s.dev.restartReset_factor .resetDone,
    fun f hf => (s.dev.restartReset_factor f).trans (if_neg hf), s.dev.restartReset_alert running, rfl, rfl, rfl, rfl,
    fun l => PerLeg.get_replicate _ l, rfl, fun l => PerLeg.get_replicate _ l, ?segments, ?joints, rfl,
    fun l => PerLeg.get_replicate _ l, ?nodes, ?ages, rfl, rfl, rfl, rfl⟩
  case segments => intro l; cases l <;> rfl
  case joints => rintro ⟨l, i⟩; cases l <;> cases i <;> rfl
  case nodes => rintro ⟨l, x⟩; cases l <;> cases x <;> rfl
  case ages => rintro ⟨l, i⟩; cases l <;> cases i <;> rfl

/-! ## The transmitter -/

theorem exec_transmitComplete {s : State} (running : s.dev.running = true) (sending : s.dev.upp.sending ≠ none)
    (notRestart : s.dev.restartReplyOnWire = false) :
    exec .transmitComplete s = .next (s.withDev s.dev.endTransmission) :=
  State.whenPossible_of s _ _ running (by simp [Option.isSome_iff_ne_none, sending, notRestart])

/-- Settles O10: the end of a transmission leaves an idle transmitter, which chooses the next frame. -/
theorem transmitterSendsStatusBeforeReplies : Obligations.TransmitterSendsStatusBeforeReplies := by
  intro s running sending notRestart
  obtain ⟨idle, hidle⟩ : ∃ d, d = s.dev.withPort { s.dev.upp with sending := none } := ⟨_, rfl⟩
  have ends : exec .transmitComplete s = .next (s.withDev idle.pump) := by
    rw [exec_transmitComplete running sending notRestart, hidle]
    rfl
  have free : idle.upp.sending = none := by rw [hidle]; rfl
  rw [ends]
  refine ⟨fun body status => ?_, fun status reply more queue => ?_, fun status queue => ?_⟩
  · rw [Device.pump_of_status idle body free (by rw [hidle]; exact status), hidle]; rfl
  · rw [Device.pump_of_reply idle reply more free (by rw [hidle]; exact status) (by rw [hidle]; exact queue), hidle]; rfl
  · rw [Device.pump_of_empty idle free (by rw [hidle]; exact status) (by rw [hidle]; exact queue), hidle]; rfl

/-! ## IDENT, RESTART, CLEAR_FAULTS -/

/-- Settles O19: IDENT answers with constants and leaves the device as it is. -/
theorem identReturnsIdentification : Obligations.IdentReturnsIdentification :=
  fun tag s ready => State.manage_of_same s kindControl tag _ ready rfl

/-- A request taken when the part is ready, whatever its action does to the port. -/
theorem State.manage_eq_execute {s : State} (kind tag : Byte) (act : Device → Answer × Device)
    (ready : s.dev.ready = true) : s.manage kind tag act = .next (s.withDev (s.dev.execute kind tag act)) := by
  simp only [Device.ready, Bool.and_eq_true, Bool.not_eq_true', decide_eq_true_eq] at ready
  obtain ⟨⟨running, notPending⟩, room⟩ := ready
  have hroom : ¬ Config.replyQueueRoom ≤ s.dev.upp.replyQueue.length := Nat.not_le.mpr room
  unfold State.manage State.whenRunning State.onDevice Device.manage
  rw [if_pos running, if_neg (by simp [notPending]), if_neg hroom]
  rfl

/-- Settles O20: the action writes the port alone, and the reply then waits or is sent at once. -/
theorem restartStopsTimersAndPends : Obligations.RestartStopsTimersAndPends := by
  intro tag s ready
  have shape : exec (.restart tag []) s = .next (s.withDev (s.dev.execute kindControl tag Device.restart)) :=
    State.manage_eq_execute kindControl tag _ ready
  obtain ⟨e, he⟩ : ∃ e, e = Device.enqueue [3, tag, 0, 0, 0] s.dev.restart.2 := ⟨_, rfl⟩
  have run : s.dev.execute kindControl tag Device.restart = e.pump := by rw [he]; rfl
  rw [run] at shape
  refine ⟨_, shape, rfl, ?_⟩
  show e.pump = { s.dev with upp := e.pump.upp } ∧ _
  by_cases busy : s.dev.upp.sending = none
  · have idle : e.upp.sending = none := by rw [he]; exact busy
    have noStatus : e.upp.statusSlot = none := by rw [he]; rfl
    cases queue : s.dev.upp.replyQueue with
    | nil =>
      have only : e.upp.replyQueue = [3, tag, 0, 0, 0] :: [] := by rw [he]; exact congrArg (· ++ _) queue
      rw [Device.pump_of_reply e _ _ idle noStatus only]
      subst he
      exact ⟨rfl, rfl, rfl, rfl, rfl, fun h => absurd busy h, fun _ _ => ⟨rfl, rfl⟩⟩
    | cons first more =>
      have front : e.upp.replyQueue = first :: (more ++ [[3, tag, 0, 0, 0]]) := by rw [he]; exact congrArg (· ++ _) queue
      rw [Device.pump_of_reply e _ _ idle noStatus front]
      subst he
      exact ⟨rfl, rfl, rfl, rfl, rfl, fun h => absurd busy h, fun _ h => nomatch h⟩
  · have still : e.upp.sending ≠ none := by rw [he]; exact busy
    rw [Device.pump_of_busy e still]
    subst he
    exact ⟨rfl, rfl, rfl, rfl, rfl, fun _ => ⟨rfl, rfl⟩, fun h => absurd h busy⟩

namespace Device

@[simp] theorem clearLatches_node (d : Device) (n : Node) :
    d.clearLatches.node n = { d.node n with latched := clearedLatches (d.node n) } := by
  simp [node, clearLatches]

@[simp] theorem clearLinkCounters_link (d : Device) (l : Leg) :
    d.clearLinkCounters.link l = { d.link l with missTotals := .replicate 0, noise := 0, bitErrors := 0 } := by
  simp [link, clearLinkCounters]

/-- The transmitter reads none of the four counts. -/
theorem pump_clearPortCounts (d : Device) : d.clearPortCounts.pump = d.pump.clearPortCounts := by
  by_cases busy : d.upp.sending = none
  · cases status : d.upp.statusSlot with
    | some body => rw [pump_of_status d body busy status, pump_of_status d.clearPortCounts body busy status]; rfl
    | none =>
      cases queue : d.upp.replyQueue with
      | cons reply more =>
        rw [pump_of_reply d reply more busy status queue, pump_of_reply d.clearPortCounts reply more busy status queue]
        rfl
      | nil => rw [pump_of_empty d busy status queue, pump_of_empty d.clearPortCounts busy status queue]
  · rw [pump_of_busy d busy, pump_of_busy d.clearPortCounts busy]

end Device

/-- Settles O23: CLEAR_FAULTS writes the latched sets, the counters of the links and the counts of the port; the reply
joins the port beside them. -/
theorem clearFaultsKeepsReportedFaults : Obligations.ClearFaultsKeepsReportedFaults := by
  intro tag s ready
  obtain ⟨d, hd⟩ : ∃ d, d = s.dev.clearLatches.clearLinkCounters := ⟨_, rfl⟩
  have answered : exec (.clearFaults tag []) s
      = .next (s.withDev ((d.enqueue (replyBody kindControl tag (.done []))).clearPortCounts.pump)) := by
    rw [hd]
    exact State.manage_eq_execute kindControl tag _ ready
  have port : ((d.enqueue (replyBody kindControl tag (.done []))).pump).upp
      = s.dev.portReplied kindControl tag (.done []) := by
    rw [Device.enqueue_pump kindControl tag (.done []) s.dev d (by rw [hd]; rfl)]
    rfl
  rw [Device.pump_clearPortCounts] at answered
  rw [Device.enqueue_pump kindControl tag (.done []) s.dev d (by rw [hd]; rfl)] at answered
  subst hd
  refine ⟨_, answered, ?nodes, rfl, rfl, rfl, rfl, ?links, rfl, rfl, rfl, rfl, rfl, rfl, rfl, rfl⟩
  case nodes => exact fun n => s.dev.clearLatches_node n
  case links => exact fun l => s.dev.clearLatches.clearLinkCounters_link l

/-! ## The invariants at reset -/

/-- Settles O54: the reset state is closed, and every invariant is a Boolean that evaluates on it. -/
theorem invariantsHoldAtReset : Obligations.InvariantsHoldAtReset := by
  unfold Obligations.InvariantsHoldAtReset
  decide

end Sys2Proof.Machine
end

section
/-!
PROOFS. The management requests as a family (O16, O17, O18): whatever the command, it hands one action to the port, with
the kind and tag of its body; and the two requests that read and clear factors (O21, O22).
-/

namespace Sys2Proof.Machine

open Device

/-! ## One shape for every request -/

/-- A request is judged by the port under a kind and a tag, which are the first two bytes of its body when it has them. -/
structure Requests (i : Instr) (body : List Byte) (s : State) (kind tag : Byte) (act : Device → Answer × Device) :
    Prop where
  acts : RequestAct act
  exec : exec i s = s.manage kind tag act
  heads : 2 ≤ body.length → body.take 2 = [kind, tag]

/-- A malformed request that is well-formed as a command echoes the first two bytes of its body, where it has them. -/
theorem requests_malformed {body : List Byte} (s : State) (h : managementCommand body = .malformedRequest body) :
    Requests (.malformedRequest body) body s (s.dev.echoAt body 0) (s.dev.echoAt body 1) (malformed body) where
  acts := .malformed body
  exec := by
    show execMalformedRequest body s = _
    unfold execMalformedRequest
    rw [if_pos h]
    rfl
  heads := fun two => by
    match body, two with
    | _ :: _ :: _, _ => rfl

/-- Every well-formed request is one of the management requests. -/
theorem requests_of_body {i : Instr} {body : List Byte} (s : State) (wf : i.wellFormed = true)
    (hb : requestBody i = some body) : ∃ kind tag act, Requests i body s kind tag act := by
  cases i with
  | tableWrite tag rest => cases hb; exact ⟨_, tag, _, .tableWrite rest, rfl, fun _ => rfl⟩
  | tableRead tag rest => cases hb; exact ⟨_, tag, _, .tableRead rest, rfl, fun _ => rfl⟩
  | readState tag rest => cases hb; exact ⟨_, tag, _, .readState rest, rfl, fun _ => rfl⟩
  | arm tag rest => cases hb; exact ⟨_, tag, _, .control rest .arm, rfl, fun _ => rfl⟩
  | disarm tag rest => cases hb; exact ⟨_, tag, _, .control rest .disarm, rfl, fun _ => rfl⟩
  | hold tag rest => cases hb; exact ⟨_, tag, _, .control rest .hold, rfl, fun _ => rfl⟩
  | resume tag rest => cases hb; exact ⟨_, tag, _, .control rest .resume, rfl, fun _ => rfl⟩
  | sit tag rest => cases hb; exact ⟨_, tag, _, .control rest .sit, rfl, fun _ => rfl⟩
  | restart tag rest => cases hb; exact ⟨_, tag, _, .control rest .restart, rfl, fun _ => rfl⟩
  | clearFactors tag rest => cases hb; exact ⟨_, tag, _, .clearNamed rest, rfl, fun _ => rfl⟩
  | clearFaults tag rest => cases hb; exact ⟨_, tag, _, .control rest .clearFaults, rfl, fun _ => rfl⟩
  | ident tag rest => cases hb; exact ⟨_, tag, _, .control rest .ident, rfl, fun _ => rfl⟩
  | malformedRequest raw =>
    cases hb
    simp only [Instr.wellFormed, Bool.and_eq_true, decide_eq_true_eq] at wf
    exact ⟨_, _, _, requests_malformed s wf.1⟩
  | _ => cases hb

/-- A frame command is a cycle frame or a request. -/
theorem hostFrame_cases {i : Instr} {bs : List Byte} (h : hostFrame i = some bs) :
    (∃ body, i = .cycleFrame body ∧ bs = upstreamFrame kindCycle body)
    ∨ ∃ body, requestBody i = some body ∧ bs = upstreamFrame kindManagement body := by
  unfold hostFrame at h
  split at h
  next body => exact .inl ⟨body, rfl, (Option.some.inj h).symm⟩
  next =>
    obtain ⟨body, is_body, frame⟩ := Option.map_eq_some_iff.mp h
    exact .inr ⟨body, is_body, frame.symm⟩

/-! ## Requests that are not executed -/

theorem Device.manage_of_pending (kind tag : Byte) (act : Device → Answer × Device) {d : Device}
    (h : d.upp.restartPending = true) : manage kind tag act d = d := by
  unfold manage
  rw [if_pos h]

theorem Device.manage_of_full (kind tag : Byte) (act : Device → Answer × Device) {d : Device}
    (notPending : d.upp.restartPending = false) (full : 2 ≤ d.upp.replyQueue.length) :
    manage kind tag act d = d.withPort { d.upp with droppedCount := saturate d.upp.droppedCount } := by
  have room : Config.replyQueueRoom ≤ d.upp.replyQueue.length := full
  unfold manage
  rw [if_neg (by simp [notPending]), if_pos room]
  rfl

theorem State.manage_of_running {s : State} (running : s.dev.running = true) (kind tag : Byte)
    (act : Device → Answer × Device) : s.manage kind tag act = .next (s.withDev (s.dev.manage kind tag act)) := by
  unfold State.manage State.whenRunning
  rw [if_pos running]
  rfl

/-- Settles O16: every frame command goes through the two checks of the port before it acts. -/
theorem requestDroppedWhenTwoRepliesWait : Obligations.RequestDroppedWhenTwoRepliesWait := by
  refine ⟨fun i body s wf hb listening full => ?_, fun i bs s wf hb running pending => ?_⟩
  · simp only [Device.listening, Bool.and_eq_true, Bool.not_eq_true'] at listening
    obtain ⟨kind, tag, act, request⟩ := requests_of_body s wf hb
    rw [request.exec, State.manage_of_running listening.1, manage_of_full kind tag act listening.2 full]
    rfl
  · rcases hostFrame_cases hb with ⟨body, rfl, _⟩ | ⟨body, is_body, _⟩
    · have length : body.length = Config.cycleBodyLength := of_decide_eq_true wf
      show execCycleFrame body s = _
      unfold execCycleFrame State.whenRunning State.onDevice cycleFrame
      rw [if_pos running, if_pos length, if_pos pending]
    · obtain ⟨kind, tag, act, request⟩ := requests_of_body s wf is_body
      rw [request.exec, State.manage_of_running running, manage_of_pending kind tag act pending]
      rfl

/-! ## Requests that are executed -/

namespace Device

/-- What an action leaves of the port for its reply: the frame being sent and the replies that wait. The status slot is
emptied at most (R160). -/
structure LeavesReplies (d e : Device) : Prop where
  sending : e.upp.sending = d.upp.sending
  queue : e.upp.replyQueue = d.upp.replyQueue
  status : d.upp.statusSlot = none → e.upp.statusSlot = none

theorem LeavesReplies.of_upp {d e : Device} (h : e.upp = d.upp) : LeavesReplies d e :=
  ⟨by rw [h], by rw [h], by rw [h]; exact id⟩

theorem writeTable_upp (t : TableId) (r : EntryRange) (data : List Byte) (d : Device) :
    (d.writeTable t r data).2.upp = d.upp := by
  cases t with
  | gait => unfold writeTable writeGait; dsimp only; split <;> rfl
  | joint => unfold writeTable writeJoint; dsimp only; (repeat' split) <;> rfl
  | pose => unfold writeTable writePose; dsimp only; (repeat' split) <;> rfl
  | liftProfile => unfold writeTable writeLiftProfile; dsimp only; (repeat' split) <;> rfl
  | linkConfig => rfl
  | deviceConfig => rfl

theorem tableWrite_upp (rest : List Byte) (d : Device) : (d.tableWrite rest).2.upp = d.upp := by
  rcases tableWrite_device rest d with h | ⟨t, r, data, _, _, h⟩
  · rw [h]
  · rw [h, writeTable_upp]

theorem readState_upp (rest : List Byte) (d : Device) : (d.readState rest).2.upp = d.upp := by
  unfold readState readSections readClears
  split
  · split
    · rfl
    · dsimp only; split <;> simp
  · rfl

theorem clearNamed_upp (rest : List Byte) (d : Device) : (d.clearNamed rest).2.upp = d.upp := by
  unfold clearNamed
  split
  · rfl
  · exact (clearFactors_frame _ d).2.2.2.2.2.2.2.1

theorem ControlAct.leavesReplies {act : Device → Answer × Device} (h : ControlAct act) (d : Device) :
    LeavesReplies d (act d).2 := by
  cases h with
  | arm => refine .of_upp ?_; unfold Device.arm; (repeat' split) <;> rfl
  | disarm => refine .of_upp ?_; unfold Device.disarm; split <;> rfl
  | hold => refine .of_upp ?_; unfold hostHold; split <;> simp
  | resume => refine .of_upp ?_; unfold Device.resume; (repeat' split) <;> simp
  | sit => refine .of_upp ?_; unfold hostSit; split <;> simp
  | restart => exact ⟨rfl, rfl, fun _ => rfl⟩
  | clearFaults => exact ⟨rfl, rfl, id⟩
  | ident => exact .of_upp rfl

theorem RequestAct.leavesReplies {act : Device → Answer × Device} (h : RequestAct act) (d : Device) :
    LeavesReplies d (act d).2 := by
  cases h with
  | tableWrite rest => exact .of_upp (d.tableWrite_upp rest)
  | tableRead rest => exact .of_upp (by rw [tableRead_device])
  | readState rest => exact .of_upp (d.readState_upp rest)
  | control rest h =>
    unfold plainControl
    split
    · exact h.leavesReplies d
    · exact .of_upp rfl
  | clearNamed rest => exact .of_upp (d.clearNamed_upp rest)
  | malformed body =>
    refine .of_upp ?_
    show (d.useEchoes body).upp = d.upp
    unfold useEchoes
    split <;> rfl

/-- A reply that waits behind a frame being sent. -/
theorem pump_enqueue_of_busy {d e : Device} (h : LeavesReplies d e) (reply : List Byte) (busy : d.upp.sending ≠ none) :
    (e.enqueue reply).pump.upp.sending = d.upp.sending
    ∧ (e.enqueue reply).pump.upp.replyQueue = d.upp.replyQueue ++ [reply] := by
  have still : (e.enqueue reply).upp.sending ≠ none := h.sending.trans_ne busy
  rw [pump_of_busy _ still]
  exact ⟨h.sending, congrArg (· ++ [reply]) h.queue⟩

/-- A reply that an idle transmitter with nothing waiting sends at once. -/
theorem pump_enqueue_of_idle {d e : Device} (h : LeavesReplies d e) (reply : List Byte) (idle : d.upp.sending = none)
    (noStatus : d.upp.statusSlot = none) (empty : d.upp.replyQueue = []) :
    (e.enqueue reply).pump.upp.sending = some (.reply reply) ∧ (e.enqueue reply).pump.upp.replyQueue = [] := by
  have only : (e.enqueue reply).upp.replyQueue = reply :: [] := by
    show e.upp.replyQueue ++ [reply] = _
    rw [h.queue, empty]
    rfl
  rw [pump_of_reply (e.enqueue reply) reply [] (h.sending.trans idle) (h.status noStatus) only]
  exact ⟨rfl, rfl⟩

theorem portReplied_of_busy {d : Device} (kind tag : Byte) (a : Answer) (busy : d.upp.sending ≠ none) :
    d.portReplied kind tag a = { d.upp with replyQueue := d.upp.replyQueue ++ [replyBody kind tag a] } := by
  unfold portReplied
  rw [pump_of_busy _ (show (d.enqueue _).upp.sending ≠ none from busy)]
  rfl

theorem portReplied_of_idle {d : Device} (kind tag : Byte) (a : Answer) (idle : d.upp.sending = none)
    (noStatus : d.upp.statusSlot = none) (empty : d.upp.replyQueue = []) :
    d.portReplied kind tag a = { d.upp with sending := some (.reply (replyBody kind tag a)) } := by
  have only : (d.enqueue (replyBody kind tag a)).upp.replyQueue = replyBody kind tag a :: [] := by
    show d.upp.replyQueue ++ [_] = _
    rw [empty]
    rfl
  unfold portReplied
  rw [pump_of_reply _ _ [] (show (d.enqueue _).upp.sending = none from idle)
    (show (d.enqueue _).upp.statusSlot = none from noStatus) only]
  show ({ d.upp with sending := some (.reply (replyBody kind tag a)), replyQueue := [] } : UpstreamPort) = _
  rw [← empty]

end Device

theorem replyBody_length (kind tag : Byte) (a : Answer) : 5 ≤ (replyBody kind tag a).length := by
  cases a with
  | done payload => show 5 ≤ payload.length + 1 + 1 + 1 + 1 + 1; omega
  | _ => exact Nat.le_refl 5

/-- Settles O17: the reply of an executed request joins what its action has left of the port. -/
theorem executedRequestAnsweredOnce : Obligations.ExecutedRequestAnsweredOnce := by
  refine ⟨fun i body s wf hb two ready => ?_, fun d kind tag a => ?_, fun kind tag payload entry => ?_⟩
  · obtain ⟨kind, tag, act, request⟩ := requests_of_body s wf hb
    have leaves := request.acts.leavesReplies s.dev
    refine ⟨_, replyBody kind tag (act s.dev).1, request.exec.trans (State.manage_eq_execute kind tag act ready),
      (request.heads two).symm, replyBody_length _ _ _, fun idle status queue => ?_, fun busy => ?_⟩
    · exact pump_enqueue_of_idle leaves _ idle status queue
    · exact pump_enqueue_of_busy leaves _ busy
  · exact ⟨portReplied_of_busy kind tag a, portReplied_of_idle kind tag a⟩
  · exact ⟨rfl, rfl, rfl, rfl, rfl, rfl, rfl⟩

/-! ## Malformed requests -/

theorem managementCommand_of_kind {kind : Byte} (tag : Byte) (rest : List Byte) (h : kind = 0 ∨ 4 < kind.toNat) :
    managementCommand (kind :: tag :: rest) = .malformedRequest (kind :: tag :: rest) := by
  have range : kind.toNat = 0 ∨ 4 < kind.toNat := h.imp_left fun e => by rw [e]; rfl
  unfold managementCommand
  dsimp only
  split
  all_goals grind

theorem controlCommand_of_action {action : Byte} (body : List Byte) (tag : Byte) (rest : List Byte)
    (h : action = 0 ∨ 9 < action.toNat) : controlCommand body tag action rest = .malformedRequest body := by
  have range : action.toNat = 0 ∨ 9 < action.toNat := h.imp_left fun e => by rw [e]; rfl
  unfold controlCommand
  split
  all_goals grind


/-- A control request with bytes after its action is MALFORMED whatever its action (R175). -/
theorem State.manage_plainControl_of_rest {s : State} (tag : Byte) {rest : List Byte} (act : Device → Answer × Device)
    (more : rest ≠ []) (ready : s.dev.ready = true) :
    s.manage kindControl tag (plainControl rest act) = .next (s.replied 3 tag .malformed) := by
  have none : plainControl rest act s.dev = (.malformed, s.dev) := by
    unfold plainControl
    rw [if_neg (by simpa using more)]
  rw [State.manage_of_same s kindControl tag _ ready (by rw [none]), none]
  rfl

theorem Device.readState_of_malformed {rest : List Byte} (d : Device)
    (h : rest.length ≠ 1 ∨ ∃ names : Byte, rest = [names] ∧ (names.getLsbD 7 = true ∨ names = 0)) :
    d.readState rest = (.malformed, d) := by
  unfold readState
  split
  next names =>
    have bad : badSections names = true := by
      rcases h with size | ⟨_, is_rest, bad⟩
      · exact absurd rfl size
      · cases is_rest
        simpa [badSections] using bad
    unfold readSections
    rw [if_pos bad]
  next => rfl

theorem Device.clearNamed_of_malformed {rest : List Byte} (d : Device)
    (h : rest.length ≠ 4 ∨ (set32 rest 0).getLsbD 31 = true) : d.clearNamed rest = (.malformed, d) := by
  unfold clearNamed
  rw [if_pos h]

/-- Settles O18: such a request is malformed by its kind, by its action or by its bytes, and its answer carries the
device as it was. -/
theorem malformedRequestsChangeNothing : Obligations.MalformedRequestsChangeNothing := by
  refine ⟨fun kind tag action rest => ⟨rfl, rfl, managementCommand_of_kind tag rest,
    controlCommand_of_action _ tag rest, rfl⟩, fun kind tag rest s malformed ready => ?_,
    fun i tag rest s more ready control => ?_, fun tag rest s ready => ⟨fun bad => ?_, fun size => ?_⟩⟩
  · exact (requests_malformed s malformed).exec.trans (State.manage_of_same s _ _ _ ready rfl)
  · have answer (act : Device → Answer × Device) : s.manage kindControl tag (plainControl rest act)
        = .next (s.replied 3 tag .malformed) := State.manage_plainControl_of_rest tag act more ready
    rcases control with rfl | rfl | rfl | rfl | rfl | rfl | rfl | rfl
    all_goals exact answer _
  · have none := s.dev.readState_of_malformed bad
    refine (State.manage_of_same s kindReadState tag (readState rest) ready (by rw [none])).trans ?_
    rw [none]
    rfl
  · have none := s.dev.clearNamed_of_malformed (.inl size)
    refine (State.manage_of_same s kindControl tag (clearNamed rest) ready (by rw [none])).trans ?_
    rw [none]
    rfl

end Sys2Proof.Machine
end

section
/-!
PROOFS. READ_STATE and CLEAR_FACTORS (O21, O22): what they clear, and how the sections of READ_STATE are laid out (R177).
-/

namespace Sys2Proof.Machine

open Device

/-! ## Bytes -/

/-- A field of a list of equal blocks, each of `n` bytes, is the block at its index. -/
theorem fieldAt_flatMap {α : Type} (f : α → List Byte) (n : Nat) (size : ∀ x, (f x).length = n) (pre : List Byte) :
    ∀ (xs : List α) (k : Nat) (x : α), xs[k]? = some x → fieldAt (pre ++ xs.flatMap f) (pre.length + n * k) n = f x := by
  intro xs k x hx
  have drops : (pre ++ xs.flatMap f).drop (pre.length + n * k) = (xs.drop k).flatMap f := by
    rw [List.drop_append]
    simp only [List.drop_eq_nil_of_le (Nat.le_add_right pre.length (n * k)), Nat.add_sub_cancel_left, List.nil_append]
    clear hx
    induction xs generalizing k with
    | nil => simp
    | cons y ys ih =>
      cases k with
      | zero => simp
      | succ k =>
        have past : n * (k + 1) = (f y).length + n * k := by rw [size]; ring
        rw [List.flatMap_cons, past, List.drop_length_add_append, ih, List.drop_succ_cons]
  obtain ⟨inside, is_x⟩ := List.getElem?_eq_some_iff.mp hx
  rw [fieldAt, drops, List.drop_eq_getElem_cons inside, is_x, List.flatMap_cons, ← size x, List.take_left]

/-- The bits of a fault set's byte, as R171 numbers them. -/
theorem faultByte_bits (s : FaultSet) : ∃ b : Byte, faultByte s = [b] ∧ (List.range 8).map b.getLsbD
    = [s.overcurrent, s.openPhase, s.encoder, s.overtemp, s.undervolt, s.nodeLost, s.sensorFault, false] := by
  refine ⟨_, rfl, ?_⟩
  refine List.ext_getElem rfl fun i hi _ => ?_
  have eight : i < 8 := by simpa using hi
  rw [List.getElem_map, List.getElem_range, BitVec.getLsbD_ofNat, numberOfBits_testBit]
  interval_cases i <;> rfl

/-- An angle or the absent marker (R170). -/
theorem signedOrAbsent_eq (x : Option Int) : signedOrAbsent x = match x with
    | some v => bytes16s v
    | none => [0x00, 0x80] := by
  cases x <;> rfl

/-! ## The sections of READ_STATE (R161, R177) -/

namespace Device

@[simp] theorem holdBytes_length (r : HoldRecord) : (holdBytes r).length = 12 := rfl

theorem sections_eq_zipIdx (d : Device) (names : Byte) : d.sections names =
    [d.holdsSection, d.nodesSection, d.linksSection, d.jointsSection, d.contactSection, d.upstreamSection,
      d.factorsSection].zipIdx.flatMap fun x => if names.getLsbD x.2 then x.1 else [] := by
  simp [sections, List.zipIdx, List.flatMap_cons]

theorem holdsSection_length (d : Device) : d.holdsSection.length = 2 + 12 * d.mhu.stack.length := by
  unfold holdsSection
  rw [List.length_append, flatMap_length holdBytes 12 holdBytes_length, Nat.mul_comm]
  rfl

theorem holdsSection_record (d : Device) {k : Nat} {r : HoldRecord} (h : d.mhu.stack[k]? = some r) :
    fieldAt d.holdsSection (2 + 12 * k) 12 = holdBytes r :=
  fieldAt_flatMap holdBytes 12 holdBytes_length (byte1 d.mhu.stack.length ++ byte1 d.mhu.framesSinceSilence)
    d.mhu.stack k r h

theorem nodesSection_length (d : Device) : d.nodesSection.length = 84 := by
  unfold nodesSection
  rw [List.length_append, flatMap_length (fun n => nodeBytes (d.node n)) 3 fun _ => rfl,
    flatMap_length (fun j : Joint => voltageBytes ((d.nsv.voltages.get j.leg).get j.ix)) 3 fun _ => rfl]
  rfl

/-- Each node's bytes stand at a fixed offset. -/
theorem nodesSection_node (d : Device) (n : Node) : fieldAt d.nodesSection (3 * n.number) 3 = nodeBytes (d.node n) := by
  rcases n with ⟨l, x⟩
  cases l <;> cases x <;> rfl

theorem nodesSection_voltage (d : Device) (j : Joint) :
    fieldAt d.nodesSection (48 + 3 * j.number) 3 = voltageBytes ((d.nsv.voltages.get j.leg).get j.ix) := by
  rcases j with ⟨l, i⟩
  cases l <;> cases i <;> rfl

theorem linksSection_length (d : Device) : d.linksSection.length = 30 := rfl

theorem linksSection_link (d : Device) (l : Leg) : fieldAt d.linksSection (6 * l.number) 6 = linkBytes (d.link l) := by
  cases l <;> rfl

theorem linksSection_config (d : Device) : fieldAt d.linksSection 24 6 = linkConfigBytes d.tbs.linkConfig := rfl

@[simp] theorem jointStateBytes_length (k : JointState) : (jointStateBytes k).length = 6 := by
  simp [jointStateBytes]

theorem jointsSection_length (d : Device) : d.jointsSection.length = 72 := by
  unfold jointsSection
  rw [flatMap_length (fun j => jointStateBytes (d.jointState j)) 6 fun _ => jointStateBytes_length _]
  rfl

theorem jointsSection_joint (d : Device) (j : Joint) :
    fieldAt d.jointsSection (6 * j.number) 6 = jointStateBytes (d.jointState j) := by
  have here : Joint.all[j.number]? = some j := by
    rcases j with ⟨l, i⟩
    cases l <;> cases i <;> rfl
  have block := fieldAt_flatMap (fun j => jointStateBytes (d.jointState j)) 6 (fun _ => jointStateBytes_length _) []
    Joint.all j.number j here
  simpa [jointsSection] using block

theorem factorsSection_length (d : Device) : d.factorsSection.length = 32 := rfl

theorem factorsSection_count (d : Device) (f : Factor) :
    byteAt d.factorsSection f.bit = BitVec.ofNat 8 (d.factor f).count := by
  cases f <;> rfl

theorem factorsSection_cause (d : Device) : byteAt d.factorsSection 31 = (match d.eeu.resetCause with
    | .powerUp => 0
    | .logicBrownout => 1
    | .resetPin => 2
    | .restartRequest => 3) := by
  show BitVec.ofNat 8 d.eeu.resetCause.code = _
  cases d.eeu.resetCause <;> rfl

/-! ## What READ_STATE and CLEAR_FACTORS clear (R165, R166) -/

/-- The blocks that a clearing of factors cannot reach. -/
structure SameButFactors (d e : Device) : Prop where
  tbs : e.tbs = d.tbs
  gpe : e.gpe = d.gpe
  bal : e.bal = d.bal
  lcc : e.lcc = d.lcc
  mhu : e.mhu = d.mhu
  llc : e.llc = d.llc
  nsv : e.nsv = d.nsv
  resetCause : e.eeu.resetCause = d.eeu.resetCause

theorem SameButFactors.refl (d : Device) : SameButFactors d d := ⟨rfl, rfl, rfl, rfl, rfl, rfl, rfl, rfl⟩

theorem clearFactors_same (p : Factor → Bool) (d : Device) : SameButFactors d (d.clearFactors p) := by
  obtain ⟨tbs, gpe, bal, lcc, mhu, llc, nsv, _, _, _, resetCause⟩ := clearFactors_frame p d
  exact ⟨tbs, gpe, bal, lcc, mhu, llc, nsv, resetCause⟩

theorem clearFactors_upp (p : Factor → Bool) (d : Device) : (d.clearFactors p).upp = d.upp := by simp

/-- What a reading with FACTORS clears (R166). -/
theorem readClears_factor (d : Device) (f : Factor) : d.readClears.factor f =
    if (if f.isError then d.tbs.deviceConfig.errorPolicy else d.tbs.deviceConfig.eventPolicy) = .readClears
      ∧ (d.factor f).flag = true
    then ⟨false, 0⟩ else d.factor f := by
  unfold readClears
  rw [clearFactors_factor]
  exact if_congr (by rw [Bool.and_eq_true, decide_eq_true_iff]; rfl) rfl rfl

theorem readClears_filter (d : Device) (l : Leg) : d.readClears.cfl.get l = { d.cfl.get l with
    chatter := if d.tbs.deviceConfig.eventPolicy = .readClears ∧ (d.factor .chatter).flag = true then 0
      else (d.cfl.get l).chatter } := by
  unfold readClears
  rw [clearFactors_filter]
  simp only [Bool.and_eq_true, decide_eq_true_eq]
  rfl

theorem readSections_of_good {names : Byte} (d : Device) (h7 : names.getLsbD 7 = false) (h0 : names ≠ 0) :
    d.readSections names = (.done (names :: d.sections names), if names.getLsbD 6 then d.readClears else d) := by
  unfold readSections
  have good : badSections names = false := by
    unfold badSections
    rw [h7, Bool.false_or, decide_eq_false_iff_not]
    exact h0
  rw [if_neg (by rw [good]; exact Bool.false_ne_true)]

end Device

/-- Settles O21: a good set is answered with its sections, and the device is cleared only when FACTORS is among them. -/
theorem readStateReportsAndClearsByPolicy : Obligations.ReadStateReportsAndClearsByPolicy := by
  refine ⟨fun tag names s ready h7 h0 => ?_, fun d => ⟨d.sections_eq_zipIdx, d.holdsSection_length, rfl,
    fun k r h => ?_, faultByte_bits, d.nodesSection_length, d.nodesSection_node, d.nodesSection_voltage,
    d.linksSection_length, d.linksSection_link, d.linksSection_config, d.jointsSection_length, fun j => ?_, rfl, rfl,
    d.factorsSection_length, d.factorsSection_count, d.factorsSection_cause⟩⟩
  · obtain ⟨e, he⟩ : ∃ e, e = if names.getLsbD 6 then s.dev.readClears else s.dev := ⟨_, rfl⟩
    have answer : readState [names] s.dev = (.done (names :: s.dev.sections names), e) :=
      (readSections_of_good s.dev h7 h0).trans (by rw [he])
    have port : (readState [names] s.dev).2.upp = s.dev.upp := s.dev.readState_upp [names]
    have run : exec (.readState tag [names]) s = .next (s.withDev (e.withPort
        (s.dev.portReplied kindReadState tag (.done (names :: s.dev.sections names))))) := by
      refine (State.manage_of_ready s kindReadState tag _ ready port).trans ?_
      rw [answer]
    refine ⟨_, run, rfl, fun f => ?_, ?_⟩
    · show e.factor f = _
      by_cases h6 : names.getLsbD 6 = true
      · simp only [he, h6, if_true, true_and, readClears_factor]
      · simp only [he, h6, if_false, false_and, Bool.false_eq_true]
    · have same : SameButFactors s.dev e := by
        rw [he]
        split
        · exact clearFactors_same _ s.dev
        · exact .refl s.dev
      refine ⟨same.resetCause, fun l => ?_, same.tbs, same.gpe, same.bal, same.lcc, same.mhu, same.llc, same.nsv⟩
      show e.cfl.get l = _
      by_cases h6 : names.getLsbD 6 = true
      · simp only [he, h6, if_true, true_and, readClears_filter]
      · simp only [he, h6, if_false, false_and, Bool.false_eq_true]
  · rw [d.holdsSection_record h]
    rfl
  · rw [d.jointsSection_joint, jointStateBytes, signedOrAbsent_eq, signedOrAbsent_eq] <;> rfl

/-! ## CLEAR_FACTORS -/

theorem set32_four (b0 b1 b2 b3 : Byte) : set32 [b0, b1, b2, b3] 0 = b3 ++ b2 ++ b1 ++ b0 := rfl

/-- The top bit of a factor set is the top bit of its last byte. -/
theorem set32_getLsbD_31 (b0 b1 b2 b3 : Byte) : (set32 [b0, b1, b2, b3] 0).getLsbD 31 = b3.getLsbD 7 := by
  simp only [set32_four, BitVec.getLsbD_append]
  rfl

/-- CHATTER, bit 18 of a factor set, is bit 2 of its third byte. -/
theorem inSet_chatter (b0 b1 b2 b3 : Byte) : inSet (set32 [b0, b1, b2, b3] 0) .chatter = b2.getLsbD 2 := by
  simp only [inSet, set32_four, BitVec.getLsbD_append]
  rfl

/-- Settles O22: the set of a good request names the factors that a clearing picks. -/
theorem clearFactorsClearsNamedSet : Obligations.ClearFactorsClearsNamedSet := by
  intro tag b0 b1 b2 b3 s ready
  refine ⟨fun reserved => ?_, fun reserved => ?_⟩
  · obtain ⟨p, hp⟩ : ∃ p, p = inSet (set32 [b0, b1, b2, b3] 0) := ⟨_, rfl⟩
    have answer : clearNamed [b0, b1, b2, b3] s.dev = (.done [], s.dev.clearFactors p) := by
      unfold clearNamed
      rw [set32_getLsbD_31, reserved, if_neg (by simp), hp]
    have run : exec (.clearFactors tag [b0, b1, b2, b3]) s
        = .next (s.withDev ((s.dev.clearFactors p).withPort (s.dev.portReplied kindControl tag (.done [])))) := by
      refine (State.manage_of_ready s kindControl tag _ ready (s.dev.clearNamed_upp _)).trans ?_
      rw [answer]
    have same := clearFactors_same p s.dev
    refine ⟨_, run, rfl, fun f => ?_, clearFactors_alert p s.dev, same.resetCause, fun l => ?_, same.tbs, same.gpe,
      same.bal, same.lcc, same.mhu, same.llc, same.nsv⟩
    · exact (clearFactors_factor p s.dev f).trans (by rw [hp]; rfl)
    · refine (clearFactors_filter p s.dev l).trans ?_
      rw [hp, inSet_chatter]
  · have none : clearNamed [b0, b1, b2, b3] s.dev = (.malformed, s.dev) :=
      s.dev.clearNamed_of_malformed (.inr (by rw [set32_getLsbD_31, reserved]))
    refine (State.manage_of_same s kindControl tag _ ready (by rw [none])).trans ?_
    rw [none]
    rfl

end Sys2Proof.Machine
end

section
/-!
PROOFS. TABLE_WRITE (O24, O25, O28): the order of its judgements, and what the writes of gait records and of the two
configs store. The clamps of 00_scope.md are written as `max lo (min hi x)`.
-/

namespace Sys2Proof.Machine

open Device

/-! ## Clamps and ranges -/

theorem clampNat_eq {lo hi : Nat} (h : lo ≤ hi) (x : Nat) : clampNat lo hi x = max lo (min hi x) := by
  unfold clampNat
  split
  · omega
  · split <;> omega

theorem clampNat_zero (hi x : Nat) : clampNat 0 hi x = min hi x := by
  rw [clampNat_eq (Nat.zero_le hi), Nat.zero_max]

theorem clampInt_eq {lo hi : Int} (h : lo ≤ hi) (x : Int) : clampInt lo hi x = max lo (min hi x) := by
  unfold clampInt
  split
  · omega
  · split <;> omega

theorem clampAbs_eq {bound : Int} (h : 0 ≤ bound) (x : Int) : clampAbs bound x = max (-bound) (min bound x) :=
  clampInt_eq (by omega) x

theorem u8_lt (bs : List Byte) (off : Nat) : u8 bs off < 256 := (byteAt bs off).isLt

theorem u16_lt (bs : List Byte) (off : Nat) : u16 bs off < 65536 := by
  have low := u8_lt bs off
  have high := u8_lt bs (off + 1)
  unfold u16
  omega

theorem EntryRange.covers_iff (r : EntryRange) (i : Nat) :
    r.covers i = true ↔ r.first ≤ i ∧ i < r.first + r.count := by
  simp [covers]

theorem EntryRange.covers_eq_false_iff (r : EntryRange) (i : Nat) :
    r.covers i = false ↔ i < r.first ∨ r.first + r.count ≤ i := by
  rw [← Bool.not_eq_true, covers_iff]
  omega

/-! ## The order of the judgements (R156, R157) -/

namespace Device

theorem tableWrite_of_unknown {code : Byte} (more : List Byte) (d : Device) (h : TableId.ofCode code.toNat = none) :
    d.tableWrite (code :: more) = (.refusedRange, d) := by
  unfold tableWrite
  dsimp only
  rw [h]

theorem tableWrite_of_known {code : Byte} {t : TableId} (first count : Byte) (data : List Byte) (d : Device)
    (h : TableId.ofCode code.toNat = some t) : d.tableWrite (code :: first :: count :: data)
      = d.judgeWrite t ⟨first.toNat, count.toNat⟩ data := by
  unfold tableWrite
  dsimp only
  rw [h]

theorem judgeWrite_of_size {t : TableId} {r : EntryRange} {data : List Byte} (d : Device)
    (h : data.length ≠ r.count * t.entrySize) : d.judgeWrite t r data = (.malformed, d) := by
  unfold judgeWrite
  rw [if_pos h]

theorem judgeWrite_of_outside {t : TableId} {r : EntryRange} {data : List Byte} (d : Device)
    (size : data.length = r.count * t.entrySize) (outside : r.inTable t = false) :
    d.judgeWrite t r data = (.refusedRange, d) := by
  unfold judgeWrite
  rw [if_neg (not_not.mpr size), outside]
  rfl

theorem judgeWrite_of_inside {t : TableId} {r : EntryRange} {data : List Byte} (d : Device)
    (size : data.length = r.count * t.entrySize) (inside : r.inTable t = true) :
    d.judgeWrite t r data = if d.writeBarred t r then (.refusedMode, d) else d.writeTable t r data := by
  unfold judgeWrite
  rw [if_neg (not_not.mpr size), inside]
  rfl

/-- The modes of R157. -/
theorem writeBarred_iff (d : Device) (t : TableId) (r : EntryRange) : d.writeBarred t r = true ↔
    ((t = .linkConfig ∨ t = .deviceConfig) ∧ d.mhu.mode ≠ .unarmed)
    ∨ (t = .liftProfile ∧ (d.mhu.mode = .walk ∨ d.mhu.mode = .hold))
    ∨ (t = .gait ∧ (d.mhu.mode = .walk ∨ d.mhu.mode = .hold) ∧ r.covers d.gpe.current = true) := by
  cases t <;> simp [writeBarred, armed]

/-- A table's own rules refuse no write for its mode. -/
theorem writeTable_ne_refusedMode (t : TableId) (r : EntryRange) (data : List Byte) (d : Device) :
    (d.writeTable t r data).1 ≠ .refusedMode := by
  cases t with
  | gait => nofun
  | joint => unfold writeTable writeJoint; dsimp only; (repeat' split) <;> nofun
  | pose => unfold writeTable writePose; dsimp only; (repeat' split) <;> nofun
  | liftProfile => unfold writeTable writeLiftProfile; dsimp only; (repeat' split) <;> nofun
  | linkConfig => nofun
  | deviceConfig => nofun

/-- A write that is not DONE leaves the device as it is. -/
theorem writeTable_of_refused {t : TableId} {r : EntryRange} {data : List Byte} {d : Device}
    (h : ∀ payload, (d.writeTable t r data).1 ≠ .done payload) : (d.writeTable t r data).2 = d := by
  cases t with
  | gait => exact absurd rfl (h [])
  | joint =>
    revert h
    unfold writeTable writeJoint
    dsimp only
    (repeat' split) <;> intro h <;> first | rfl | exact absurd rfl (h [])
  | pose =>
    revert h
    unfold writeTable writePose
    dsimp only
    (repeat' split) <;> intro h <;> first | rfl | exact absurd rfl (h [])
  | liftProfile =>
    revert h
    unfold writeTable writeLiftProfile
    dsimp only
    (repeat' split) <;> intro h <;> first | rfl | exact absurd rfl (h [])
  | linkConfig => exact absurd rfl (h [])
  | deviceConfig => exact absurd rfl (h [])

theorem judgeWrite_of_refused {t : TableId} {r : EntryRange} {data : List Byte} {d : Device}
    (h : ∀ payload, (d.judgeWrite t r data).1 ≠ .done payload) : (d.judgeWrite t r data).2 = d := by
  by_cases size : data.length = r.count * t.entrySize
  · cases inside : r.inTable t with
    | false => rw [judgeWrite_of_outside d size inside]
    | true =>
      rw [judgeWrite_of_inside d size inside] at h ⊢
      split
      · rfl
      next allowed =>
        rw [if_neg allowed] at h
        exact writeTable_of_refused h
  · rw [judgeWrite_of_size d size]

theorem tableWrite_of_refused {rest : List Byte} {d : Device}
    (h : ∀ payload, (d.tableWrite rest).1 ≠ .done payload) : (d.tableWrite rest).2 = d := by
  match rest with
  | [] => rfl
  | code :: more =>
    cases known : TableId.ofCode code.toNat with
    | none => rw [tableWrite_of_unknown more d known]
    | some t =>
      match more with
      | [] => simp only [tableWrite, known]
      | [_] => simp only [tableWrite, known]
      | first :: count :: data =>
        rw [tableWrite_of_known first count data d known] at h ⊢
        exact judgeWrite_of_refused h

end Device

/-- TABLE_WRITE taken when the part is ready: its action leaves the port to the reply. -/
theorem exec_tableWrite (tag : Byte) {rest : List Byte} {s : State} {a : Answer} {e : Device}
    (ready : s.dev.ready = true) (act : s.dev.tableWrite rest = (a, e)) :
    exec (.tableWrite tag rest) s = .next (s.withDev (e.withPort (s.dev.portReplied 1 tag a))) := by
  refine (State.manage_of_ready s kindTableWrite tag (tableWrite rest) ready (s.dev.tableWrite_upp rest)).trans ?_
  rw [act]
  rfl

/-- Settles O24: structure, range and mode are judged in the order in which the model's nested conditions stand. -/
theorem tableWriteJudgedInOrder : Obligations.TableWriteJudgedInOrder := by
  refine ⟨fun tag rest s ready refused => ?_, fun code first count data d => ⟨fun unknown => ?_, fun t known => ?_⟩⟩
  · exact State.manage_of_same s kindTableWrite tag (tableWrite rest) ready (tableWrite_of_refused refused)
  · rw [tableWrite_of_unknown _ d unknown]
  · rw [tableWrite_of_known first count data d known]
    refine ⟨fun size => ?_, fun size outside => ?_, fun size some_entry from_base to_end => ?_⟩
    · rw [judgeWrite_of_size d size]
    · have misses : EntryRange.inTable ⟨first.toNat, count.toNat⟩ t = false := by
        rw [← Bool.not_eq_true, EntryRange.inTable_iff]
        dsimp only
        rintro ⟨some_entry, from_base, to_end⟩
        rcases outside with rfl | before | past | after
        · exact Nat.lt_irrefl 0 some_entry
        all_goals omega
      rw [judgeWrite_of_outside d size misses]
    · have lies : EntryRange.inTable ⟨first.toNat, count.toNat⟩ t = true :=
        (EntryRange.inTable_iff _ t).mpr ⟨some_entry, from_base, to_end⟩
      have barred := writeBarred_iff d t ⟨first.toNat, count.toNat⟩
      rw [EntryRange.covers_iff] at barred
      rw [judgeWrite_of_inside d size lies, ← barred]
      split
      next h => exact iff_of_true rfl h
      next h => exact iff_of_false (writeTable_ne_refusedMode t _ data d) h

/-! ## Writes that are stored -/

/-- A write of a known table within its indexes that its mode allows goes to the table's own rules. -/
theorem Device.tableWrite_of_allowed {code first count : Byte} {t : TableId} {data : List Byte} {d : Device}
    (known : TableId.ofCode code.toNat = some t) (size : data.length = count.toNat * t.entrySize)
    (some_entry : 0 < count.toNat) (from_base : t.base ≤ first.toNat)
    (to_end : first.toNat + count.toNat ≤ t.base + t.entries)
    (allowed : d.writeBarred t ⟨first.toNat, count.toNat⟩ = false) :
    d.tableWrite (code :: first :: count :: data) = d.writeTable t ⟨first.toNat, count.toNat⟩ data := by
  rw [tableWrite_of_known first count data d known,
    judgeWrite_of_inside d size ((EntryRange.inTable_iff _ t).mpr ⟨some_entry, from_base, to_end⟩), allowed]
  rfl

/-! ## Gait records (R3, R5, R18) -/

theorem TableStore.writeGaits_gaitAt (t : TableStore) (r : EntryRange) (data : List Byte) (judge : GaitRecord → Bool)
    (g : Fin 8) : (t.writeGaits r data judge).gaitAt g =
      if r.covers g then
        ⟨gaitOfBytes (entryBytesAt .gait r data g), judge (gaitOfBytes (entryBytesAt .gait r data g))⟩
      else t.gaitAt g := by
  simp only [writeGaits, gaitAt, Vector.get_eq_getElem, Vector.getElem_ofFn]

/-- The fields of a leg entry as it is stored (R3). -/
theorem gaitLegAt_fields {k : GaitLeg} {bs : List Byte} {l : Leg} (stored : k = gaitLegAt bs l) :
    let off := 10 + 12 * l.number
    k.liftPoint = min 4095 (u16 bs off) ∧ k.swing = max 1 (min 4095 (u16 bs (off + 2)))
    ∧ k.prereq.get l = false ∧ k.partner.get l = false
    ∧ (∀ m, m ≠ l → k.prereq.get m = (byteAt bs (off + 4)).getLsbD m.number
        ∧ k.partner.get m = (byteAt bs (off + 5)).getLsbD m.number)
    ∧ ∀ i : JointIx, k.clearance.get i = max (-9000) (min 9000 (s16 bs (off + 6 + 2 * i.number))) := by
  have mask (off : Nat) (m : Leg) : (maskAt l bs off).get m = ((byteAt bs off).getLsbD m.number && decide (m ≠ l)) := by
    rw [maskAt, PerLeg.get_ofFn]
  subst stored
  refine ⟨clampNat_zero _ _, clampNat_eq (by omega) _, ?_, ?_, fun m other => ⟨?_, ?_⟩, fun i => ?_⟩
  · exact (mask _ l).trans (by simp)
  · exact (mask _ l).trans (by simp)
  · exact (mask _ m).trans (by simp [other])
  · exact (mask _ m).trans (by simp [other])
  · exact (PerJoint.get_ofFn _ i).trans (clampAbs_eq (by omega) _)

/-- The fields of a gait record as it is stored (R3). -/
theorem gaitOfBytes_fields {r : GaitRecord} {bs : List Byte} (stored : r = gaitOfBytes bs) :
    r.n = max 16 (min 4096 (u16 bs 0)) ∧ r.e = min 4095 (u16 bs 2)
    ∧ r.mLift = max (-300) (min 500 (s16 bs 4)) ∧ r.sEarly = min 16 (u8 bs 6)
    ∧ r.tWait = min 4095 (u16 bs 7) ∧ r.tLand = max 1 (u8 bs 9)
    ∧ ∀ l : Leg, r.legs.get l = gaitLegAt bs l := by
  subst stored
  refine ⟨clampNat_eq (by omega) _, clampNat_zero _ _, clampInt_eq (by omega) _, clampNat_zero _ _, clampNat_zero _ _,
    ?_, PerLeg.get_ofFn _⟩
  have byte := u8_lt bs 9
  exact (clampNat_eq (by omega) _).trans (by omega)

/-- What a gait write leaves: the tables it stores, and the phase of the current record written in STAND (R18). -/
theorem Device.writeGait_eq (r : EntryRange) (data : List Byte) (d : Device) : d.writeGait r data =
    (.done [], { d with
      tbs := d.tbs.writeGaits r data d.gaitJudge
      gpe := { d.gpe with phase :=
        if d.mhu.mode = .stand ∧ r.covers d.gpe.current = true then
          if ((d.tbs.writeGaits r data d.gaitJudge).gaitAt d.gpe.current).valid
          then ((d.tbs.writeGaits r data d.gaitJudge).gaitAt d.gpe.current).record.e else 0
        else d.gpe.phase } }) := by
  unfold writeGait
  dsimp only
  split <;> rfl

theorem Device.gaitJudge_eq (d : Device) (r : GaitRecord) :
    d.gaitJudge r = (decide (d.mhu.mode ≠ .unarmed) && r.isValid) := rfl

/-- Settles O25: an allowed write stores its records by index, and only STAND moves the phase with the current one. -/
theorem gaitWriteStoresClampedRecords : Obligations.GaitWriteStoresClampedRecords := by
  intro tag first count data s ready size some_entry to_end notCurrent
  obtain ⟨r, hr⟩ : ∃ r : EntryRange, r = ⟨first.toNat, count.toNat⟩ := ⟨_, rfl⟩
  have covers (i : Nat) : r.covers i = true ↔ first.toNat ≤ i ∧ i < first.toNat + count.toNat := by
    rw [hr, EntryRange.covers_iff]
  have allowed : s.dev.writeBarred .gait r = false := by
    rw [← Bool.not_eq_true, writeBarred_iff]
    rintro (⟨h | h, _⟩ | ⟨h, _⟩ | ⟨_, moving, current⟩)
    · cases h
    · cases h
    · cases h
    · exact notCurrent moving ((covers _).mp current)
  have acts : s.dev.tableWrite (1 :: first :: count :: data) = s.dev.writeGait r data := by
    have step := tableWrite_of_allowed (code := 1) (t := .gait) rfl size some_entry (Nat.zero_le _)
      (show first.toNat + count.toNat ≤ 0 + 8 by omega) (by rw [← hr]; exact allowed)
    rw [← hr] at step
    exact step
  obtain ⟨tables, htables⟩ : ∃ t, t = s.dev.tbs.writeGaits r data s.dev.gaitJudge := ⟨_, rfl⟩
  have at_index (g : Fin 8) := s.dev.tbs.writeGaits_gaitAt r data s.dev.gaitJudge g
  rw [← htables] at at_index
  rw [writeGait_eq, ← htables] at acts
  refine ⟨_, exec_tableWrite tag ready acts, rfl, fun g low high => ?_, fun g outside => ?_, ?_, by rw [htables]; rfl,
    by rw [htables]; rfl, rfl, rfl⟩
  · have entry : tables.gaitAt g = ⟨gaitOfBytes (entryBytesAt .gait r data g),
        s.dev.gaitJudge (gaitOfBytes (entryBytesAt .gait r data g))⟩ := by
      rw [at_index, if_pos ((covers _).mpr ⟨low, high⟩)]
    have bytes : entryBytesAt .gait r data g = (data.drop ((g.val - first.toNat) * 58)).take 58 := by rw [hr]; rfl
    rw [bytes] at entry
    have record := congrArg GaitEntry.record entry
    obtain ⟨n, e, mLift, sEarly, tWait, tLand, legs⟩ := gaitOfBytes_fields record
    refine ⟨record, ⟨n, e, mLift, sEarly, tWait, tLand, fun l => gaitLegAt_fields (legs l)⟩, ?_⟩
    show (tables.gaitAt g).valid = (_ && (tables.gaitAt g).record.isValid)
    rw [entry]
    rfl
  · show tables.gaitAt g = _
    rw [at_index, if_neg]
    rw [covers]
    omega
  · show ({ s.dev.gpe with phase := _ } : GaitEngine) = _
    rw [if_congr (and_congr_right fun _ => covers _) rfl rfl]
    rfl

end Sys2Proof.Machine
end

section
/-!
PROOFS. The writes of LINK_CONFIG and DEVICE_CONFIG (O28).
-/

namespace Sys2Proof.Machine

open Device

/-! ## The fields of the configs (R116, R176) -/

theorem set32_getLsbD (bs : List Byte) (off : Nat) {n : Nat} (h : n < 32) :
    (set32 bs off).getLsbD n = (byteAt bs (off + n / 8)).getLsbD (n % 8) := by
  unfold set32
  simp only [BitVec.getLsbD_append]
  interval_cases n <;> rfl

theorem eventFactors_getLsbD {n : Nat} (h : n < 32) : eventFactors.getLsbD n = decide (10 ≤ n ∧ n ≤ 30) := by
  interval_cases n <;> decide

/-- A word read low byte first. -/
theorem ofNat_u16 (bs : List Byte) (off : Nat) : BitVec.ofNat 16 (u16 bs off) = byteAt bs (off + 1) ++ byteAt bs off := by
  apply BitVec.eq_of_toNat_eq
  have low := (byteAt bs off).isLt
  have high := (byteAt bs (off + 1)).isLt
  rw [BitVec.toNat_ofNat, BitVec.toNat_append, Nat.shiftLeft_eq, Nat.mul_comm, ← Nat.two_pow_add_eq_or_of_lt low, u16, u8, u8]
  omega

theorem SupplyAction.ofCode1_eq (n : Nat) : SupplyAction.ofCode1 n = if n = 1 then .derate else .flag := by
  unfold ofCode1
  split <;> simp_all

theorem SupplyAction.ofCode2_eq (n : Nat) :
    SupplyAction.ofCode2 n = if n = 1 then .derate else if n = 2 then .sit else .flag := by
  unfold ofCode2
  split <;> simp_all

theorem ClearPolicy.ofCode_eq (n : Nat) : ClearPolicy.ofCode n = if n = 1 then .readClears else .explicit := by
  unfold ofCode
  split <;> simp_all

theorem linkConfigOfBytes_divisor (bs : List Byte) : (linkConfigOfBytes bs).divisor = max 1 (u8 bs 0) := by
  have byte := u8_lt bs 0
  exact (clampNat_eq (by omega) _).trans (by omega)

theorem linkConfigOfBytes_window (bs : List Byte) : (linkConfigOfBytes bs).window = max 8 (min 64 (u8 bs 1)) :=
  clampNat_eq (by omega) _

theorem linkConfigOfBytes_polynomial (bs : List Byte) :
    (linkConfigOfBytes bs).polynomial = (byteAt bs 3 ++ byteAt bs 2) ||| 1 :=
  congrArg (· ||| 1#16) (ofNat_u16 bs 2)

/-- The x⁰ term is always there (R116). -/
theorem linkConfigOfBytes_polynomial_odd (bs : List Byte) : (linkConfigOfBytes bs).polynomial.getLsbD 0 = true := by
  show (BitVec.ofNat 16 (u16 bs 2) ||| 1#16).getLsbD 0 = true
  rw [BitVec.getLsbD_or]
  exact Bool.or_true _

theorem deviceConfigOfBytes_tOff (bs : List Byte) : (deviceConfigOfBytes bs).tOff = min 4094 (u16 bs 4) :=
  clampNat_zero _ _

/-- T_on is clamped from just above T_off, which leaves room for it (R46). -/
theorem deviceConfigOfBytes_tOn (bs : List Byte) :
    (deviceConfigOfBytes bs).tOn = max ((deviceConfigOfBytes bs).tOff + 1) (min 4095 (u16 bs 2)) := by
  have off := deviceConfigOfBytes_tOff bs
  exact clampNat_eq (lo := (deviceConfigOfBytes bs).tOff + 1) (by omega) _

theorem deviceConfigOfBytes_v1 (bs : List Byte) : (deviceConfigOfBytes bs).v1 = max 1 (min 1023 (u16 bs 11)) :=
  clampNat_eq (by omega) _

theorem deviceConfigOfBytes_v2 (bs : List Byte) :
    (deviceConfigOfBytes bs).v2 = min ((deviceConfigOfBytes bs).v1 - 1) (u16 bs 14) :=
  clampNat_zero _ _

theorem deviceConfigOfBytes_tCyc (bs : List Byte) :
    (deviceConfigOfBytes bs).tCyc = max 100 (min 800 (u16 bs 20)) / 25 * 25 :=
  congrArg (· / 25 * 25) (clampNat_eq (by omega) (u16 bs 20))

theorem deviceConfigOfBytes_eventEnables (bs : List Byte) {n : Nat} (h : n < 32) :
    (deviceConfigOfBytes bs).eventEnables.getLsbD n
      = (decide (10 ≤ n ∧ n ≤ 30) && (byteAt bs (23 + n / 8)).getLsbD (n % 8)) := by
  show (set32 bs 23 &&& eventFactors).getLsbD n = _
  rw [BitVec.getLsbD_and, set32_getLsbD bs 23 h, eventFactors_getLsbD h, Bool.and_comm]

/-- No error factor can be enabled: the enables are those of the event factors (R162, R171). -/
theorem deviceConfigOfBytes_error (bs : List Byte) {f : Factor} (h : f.isError = true) :
    (deviceConfigOfBytes bs).eventEnables.getLsbD f.bit = false := by
  have low : f.bit.val < 10 := of_decide_eq_true h
  rw [deviceConfigOfBytes_eventEnables bs (by omega), decide_eq_false (by omega), Bool.false_and]

/-! ## The writes -/

/-- A config is written in UNARMED, by its one entry. -/
theorem Device.tableWrite_config {code : Byte} {t : TableId} {data : List Byte} {d : Device}
    (known : TableId.ofCode code.toNat = some t) (config : t = .linkConfig ∨ t = .deviceConfig)
    (size : data.length = t.entrySize) (unarmed : d.mhu.mode = .unarmed) :
    d.tableWrite (code :: 0 :: 1 :: data) = d.writeTable t ⟨0, 1⟩ data := by
  have allowed : d.writeBarred t ⟨0, 1⟩ = false := by
    rcases config with rfl | rfl <;> simp [writeBarred, armed, unarmed]
  have one : t.base = 0 ∧ t.entries = 1 := by rcases config with rfl | rfl <;> exact ⟨rfl, rfl⟩
  exact tableWrite_of_allowed known (by rw [size]; exact (Nat.one_mul _).symm) Nat.one_pos (by rw [one.1]; exact Nat.zero_le _)
    (by rw [one.1, one.2]; exact Nat.le_refl 1) allowed

/-- Settles O28: a config write in UNARMED stores what its bytes are clamped to, and each field is one clamp. -/
theorem configWritesStoreClampedFields : Obligations.ConfigWritesStoreClampedFields := by
  refine ⟨fun tag data s ready unarmed => ⟨fun size => ?_, fun size => ?_⟩, fun bs => ?_⟩
  · have acts := tableWrite_config (code := 5) (t := .linkConfig) rfl (.inl rfl) size unarmed
    have window := linkConfigOfBytes_window data
    have divisor := linkConfigOfBytes_divisor data
    exact ⟨_, exec_tableWrite tag ready acts, rfl, rfl, rfl, rfl, (Nat.le_max_left 1 _).trans_eq divisor.symm,
      (Nat.le_max_left 8 _).trans_eq window.symm,
      window.trans_le (Nat.max_le.mpr ⟨by omega, Nat.min_le_left 64 _⟩), linkConfigOfBytes_polynomial_odd data⟩
  · have acts := tableWrite_config (code := 6) (t := .deviceConfig) rfl (.inr rfl) size unarmed
    have tOn := deviceConfigOfBytes_tOn data
    have v1 := deviceConfigOfBytes_v1 data
    have v2 := deviceConfigOfBytes_v2 data
    have tCyc := deviceConfigOfBytes_tCyc data
    refine ⟨_, exec_tableWrite tag ready acts, rfl, rfl, rfl, rfl, ?_, ?_, ?_, ?_, ?_,
      fun f error => deviceConfigOfBytes_error data error⟩
    · show (deviceConfigOfBytes data).tOff < (deviceConfigOfBytes data).tOn
      omega
    · show (deviceConfigOfBytes data).v2 < (deviceConfigOfBytes data).v1
      omega
    · show (deviceConfigOfBytes data).tCyc % 25 = 0
      omega
    · show 100 ≤ (deviceConfigOfBytes data).tCyc
      omega
    · show (deviceConfigOfBytes data).tCyc ≤ 800
      omega
  · have flag (off : Nat) : flagAt bs off = decide (byteAt bs off ≠ 0) := by
      unfold flagAt
      rw [Bool.eq_iff_iff, bne_iff_ne, decide_eq_true_iff]
      exact Iff.rfl
    exact ⟨linkConfigOfBytes_divisor bs, linkConfigOfBytes_window bs, linkConfigOfBytes_polynomial bs, ofNat_u16 bs 4,
      clampNat_zero _ _, clampNat_eq (by omega) _, deviceConfigOfBytes_tOff bs, deviceConfigOfBytes_tOn bs,
      clampInt_eq (by omega) _, clampNat_zero _ _, clampNat_zero _ _, deviceConfigOfBytes_v1 bs,
      deviceConfigOfBytes_v2 bs, SupplyAction.ofCode1_eq _, SupplyAction.ofCode2_eq _, clampNat_zero _ _,
      clampNat_zero _ _, deviceConfigOfBytes_tCyc bs, clampNat_eq (by omega) _,
      fun n h => deviceConfigOfBytes_eventEnables bs h, flag 27, ClearPolicy.ofCode_eq _, ClearPolicy.ofCode_eq _⟩

end Sys2Proof.Machine
end

section
/-!
PROOFS. The writes of JOINT, POSE and LIFT_PROFILE (O26, O27): the first joint and the first leg that fail, and the
single peak of a profile.
-/

namespace Sys2Proof.Machine

open Device

/-! ## The first of an ordered list -/

/-- In a list that holds everything in the order of its numbers, the one found is the one of the least number. -/
theorem find?_eq_some_iff_least {α : Type} (num : α → Nat) {xs : List α} (all : ∀ x, x ∈ xs)
    (sorted : xs.Pairwise fun x y => num x < num y) (p : α → Bool) (x : α) :
    xs.find? p = some x ↔ p x = true ∧ ∀ y, num y < num x → ¬ p y = true := by
  rw [List.find?_eq_some_iff_append]
  refine and_congr_right fun _ => ⟨?_, fun least => ?_⟩
  · rintro ⟨before, after, rfl, none⟩ y lt
    rcases List.mem_append.mp (all y) with early | late
    · simpa using none y early
    · have order := (List.pairwise_append.mp sorted).2.1
      rcases List.mem_cons.mp late with rfl | later
      · exact absurd lt (Nat.lt_irrefl _)
      · exact absurd lt (Nat.lt_asymm (List.rel_of_pairwise_cons order later))
  · obtain ⟨before, after, rfl⟩ := List.append_of_mem (all x)
    refine ⟨before, after, rfl, fun y early => ?_⟩
    have lt := (List.pairwise_append.mp sorted).2.2 y early x List.mem_cons_self
    simpa using least y lt

theorem Joint.all_sorted : Joint.all.Pairwise fun j k => j.number < k.number := by decide

theorem Leg.all_sorted : Leg.all.Pairwise fun l m => l.number < m.number := by decide

theorem Node.all_sorted : Node.all.Pairwise fun n m => n.number < m.number := by decide

theorem find?_eq_none_iff_forall {α : Type} {xs : List α} (all : ∀ x, x ∈ xs) (p : α → Bool) :
    xs.find? p = none ↔ ∀ x, ¬ p x = true := by
  rw [List.find?_eq_none]
  exact ⟨fun h x => h x (all x), fun h x _ => h x⟩

/-! ## Joint records (R89, R90) -/

theorem JointRecord.isValid_iff (r : JointRecord) : r.isValid = true ↔ r.lo < r.hi ∧ 1 ≤ r.stepMax := by
  simp [isValid]

theorem JointRecord.allows_iff (r : JointRecord) (x : Int) : r.allows x = true ↔ r.lo ≤ x ∧ x ≤ r.hi := by
  simp [allows]

theorem TableStore.firstInvalidJoint_isNone_iff (t : TableStore) :
    t.firstInvalidJoint.isNone = true ↔ ∀ j, (t.jointAt j).isValid = true := by
  rw [Option.isNone_iff_eq_none, firstInvalidJoint, find?_eq_none_iff_forall Joint.mem_all]
  simp

theorem TableStore.writeJoints_jointAt (t : TableStore) (r : EntryRange) (data : List Byte) (j : Joint) :
    (t.writeJoints r data).jointAt j = if r.first ≤ j.number ∧ j.number < r.first + r.count
      then jointOfBytes ((data.drop ((j.number - r.first) * 18)).take 18) else t.jointAt j := by
  have stored : (t.writeJoints r data).jointAt j
      = if r.covers j.number then jointOfBytes (entryBytesAt .joint r data j.number) else t.jointAt j := by
    simp only [writeJoints, judgeJoints, jointAt, PerLeg.get_ofFn, PerJoint.get_ofFn]
  rw [stored, if_congr (r.covers_iff j.number) rfl rfl]
  rfl

theorem TableStore.writeJoints_jointValid (t : TableStore) (r : EntryRange) (data : List Byte) :
    (t.writeJoints r data).jointValid = true ↔ ∀ j, ((t.writeJoints r data).jointAt j).isValid = true :=
  (t.writeJoints r data).firstInvalidJoint_isNone_iff

theorem TableStore.writeJoints_frame (t : TableStore) (r : EntryRange) (data : List Byte) : t.writeJoints r data
    = { t with joint := (t.writeJoints r data).joint, jointValid := (t.writeJoints r data).jointValid } := rfl

theorem LimitMode.ofCode_eq (n : Nat) : LimitMode.ofCode n
    = if n = 0 then .off else if n = 1 then .note else if n = 3 then .freeze else .clamp := by
  unfold ofCode
  split <;> simp_all

theorem jointOfBytes_lo (bs : List Byte) : (jointOfBytes bs).lo = max (-18000) (min 17999 (s16 bs 0)) :=
  clampInt_eq (by omega) _

/-- lo is clamped first and leaves room for hi above it (R89). -/
theorem jointOfBytes_hi (bs : List Byte) :
    (jointOfBytes bs).hi = max ((jointOfBytes bs).lo + 1) (min 18000 (s16 bs 2)) := by
  have lo := jointOfBytes_lo bs
  exact clampInt_eq (lo := (jointOfBytes bs).lo + 1) (by omega) _

theorem jointOfBytes_stepMax (bs : List Byte) : (jointOfBytes bs).stepMax = max 1 (min 3000 (u16 bs 4)) :=
  clampNat_eq (by omega) _

/-- An angle of a leg's poses that a joint's limits exclude (R90). -/
def poseOutside (t : TableStore) (j : Joint) : Prop :=
  ∃ p, (p = (t.pose.get j.leg).setDown ∨ p = (t.pose.get j.leg).reach ∨ p = (t.pose.get j.leg).sit)
    ∧ (p.get j.ix < (t.jointAt j).lo ∨ (t.jointAt j).hi < p.get j.ix)

theorem poseOutside_iff (t : TableStore) (j : Joint) : poseOutside t j ↔
    ((t.jointAt j).allows ((t.pose.get j.leg).setDown.get j.ix)
      && (t.jointAt j).allows ((t.pose.get j.leg).reach.get j.ix)
      && (t.jointAt j).allows ((t.pose.get j.leg).sit.get j.ix)) = false := by
  have outside (x : Int) : (x < (t.jointAt j).lo ∨ (t.jointAt j).hi < x) ↔ (t.jointAt j).allows x = false := by
    rw [← Bool.not_eq_true, JointRecord.allows_iff]
    omega
  simp only [poseOutside, outside, Bool.and_eq_false_iff, or_and_right, exists_or, exists_eq_left, or_assoc]

theorem excludedJoint_pick_iff (t : TableStore) (r : EntryRange) (j : Joint) :
    (r.covers j.number && !((t.jointAt j).allows ((t.pose.get j.leg).setDown.get j.ix)
      && (t.jointAt j).allows ((t.pose.get j.leg).reach.get j.ix)
      && (t.jointAt j).allows ((t.pose.get j.leg).sit.get j.ix))) = true
    ↔ r.first ≤ j.number ∧ j.number < r.first + r.count ∧ poseOutside t j := by
  rw [Bool.and_eq_true, Bool.not_eq_true', EntryRange.covers_iff, poseOutside_iff, and_assoc]

/-- No joint is excluded, or the one of the lowest number among the written ones is named (R90). -/
theorem Device.excludedJoint_iff (t : TableStore) (r : EntryRange) :
    let excludes : Joint → Prop := fun j => r.first ≤ j.number ∧ j.number < r.first + r.count ∧ poseOutside t j
    (excludedJoint t r = none ↔ ∀ j, ¬ excludes j)
    ∧ ∀ j, excludedJoint t r = some j ↔ excludes j ∧ ∀ k : Joint, k.number < j.number → ¬ excludes k := by
  intro excludes
  unfold excludedJoint
  refine ⟨?_, fun j => ?_⟩
  · rw [find?_eq_none_iff_forall Joint.mem_all]
    exact forall_congr' fun j => not_congr (excludedJoint_pick_iff t r j)
  · rw [find?_eq_some_iff_least Joint.number Joint.mem_all Joint.all_sorted, excludedJoint_pick_iff]
    exact and_congr_right fun _ => forall_congr' fun k => imp_congr_right fun _ =>
      not_congr (excludedJoint_pick_iff t r k)

theorem Device.writeJoint_of_unarmed {d : Device} (r : EntryRange) (data : List Byte) (h : d.mhu.mode = .unarmed) :
    d.writeJoint r data = (.done [], d.setTables { d.tbs.writeJoints r data with poseValid := false }) := by
  unfold writeJoint
  rw [if_neg (by simp [armed, h])]

theorem Device.writeJoint_of_armed {d : Device} (r : EntryRange) (data : List Byte) (h : d.mhu.mode ≠ .unarmed) :
    d.writeJoint r data = match excludedJoint (d.tbs.writeJoints r data) r with
      | some j => (.refusedInvalid .joint j.number, d)
      | none => (.done [], d.setTables (d.tbs.writeJoints r data)) := by
  unfold writeJoint
  exact if_pos (by simp [armed, h])

/-- Settles O26: a joint write goes to its table's own rules, which look at the poses only while the part is armed. -/
theorem jointWriteKeepsPosesReachable : Obligations.JointWriteKeepsPosesReachable := by
  refine ⟨fun tag first count data s ready size some_entry to_end => ?_, Device.excludedJoint_iff,
    fun t r data => ⟨t.writeJoints_jointAt r data, t.writeJoints_jointValid r data, t.writeJoints_frame r data⟩,
    JointRecord.isValid_iff, fun bs => ?_⟩
  · have acts : s.dev.tableWrite (2 :: first :: count :: data) = s.dev.writeJoint ⟨first.toNat, count.toNat⟩ data :=
      tableWrite_of_allowed (code := 2) (t := .joint) rfl size some_entry (Nat.zero_le _)
        (show first.toNat + count.toNat ≤ 0 + 12 by omega) rfl
    refine ⟨fun unarmed => ?_, fun isArmed none => ?_, fun isArmed j excluded => ?_⟩
    · have stored := s.dev.tbs.writeJoints_jointAt ⟨first.toNat, count.toNat⟩ data
      refine ⟨_, exec_tableWrite tag ready (acts.trans (writeJoint_of_unarmed _ data unarmed)), rfl, fun j low high => ?_,
        fun j outside => ?_, s.dev.tbs.writeJoints_jointValid _ data, rfl, rfl, rfl, rfl, rfl, rfl⟩
      · have entry : _ = jointOfBytes _ := (stored j).trans (if_pos ⟨low, high⟩)
        have lo := jointOfBytes_lo ((data.drop ((j.number - first.toNat) * 18)).take 18)
        have hi := jointOfBytes_hi ((data.drop ((j.number - first.toNat) * 18)).take 18)
        have step := jointOfBytes_stepMax ((data.drop ((j.number - first.toNat) * 18)).take 18)
        rw [← entry] at lo hi step
        exact ⟨entry, hi.trans_ge ((Int.lt_succ _).trans_le (Int.le_max_left _ _)), step.trans_ge (Nat.le_max_left 1 _)⟩
      · refine (stored j).trans (if_neg ?_)
        dsimp only
        omega
    · refine exec_tableWrite tag ready (acts.trans ?_)
      rw [writeJoint_of_armed _ data isArmed, none]
    · have refused : s.dev.tableWrite (2 :: first :: count :: data) = (.refusedInvalid .joint j.number, s.dev) := by
        rw [acts, writeJoint_of_armed _ data isArmed, excluded]
      exact exec_tableWrite tag ready refused
  · exact ⟨jointOfBytes_lo bs, jointOfBytes_hi bs, jointOfBytes_stepMax bs, LimitMode.ofCode_eq _, clampNat_zero _ _,
      clampAbs_eq (by omega) _, clampAbs_eq (by omega) _, clampAbs_eq (by omega) _, clampNat_zero _ _, rfl⟩

end Sys2Proof.Machine
end

section
/-!
PROOFS. The writes of POSE and LIFT_PROFILE (O27): the records judged, and the single peak of a profile (R91, R92).
-/

namespace Sys2Proof.Machine

open Device

/-! ## Pose records (R91) -/

theorem poseWithin_iff (limits : PerJoint JointRecord) (p : Pose) :
    poseWithin limits p = true ↔ ∀ i, (limits.get i).lo ≤ p.get i ∧ p.get i ≤ (limits.get i).hi := by
  simp only [poseWithin, Bool.and_eq_true, JointRecord.allows_iff]
  refine ⟨fun ⟨⟨ha, hf⟩, kn⟩ i => ?_, fun h => ⟨⟨h .ha, h .hf⟩, h .kn⟩⟩
  cases i with
  | ha => exact ha
  | hf => exact hf
  | kn => exact kn

theorem PoseRecord.isValid_iff (p : PoseRecord) (limits : PerJoint JointRecord) : p.isValid limits = true ↔
    ∀ i : JointIx, ∀ q, (q = p.setDown ∨ q = p.reach ∨ q = p.sit) →
      (limits.get i).lo ≤ q.get i ∧ q.get i ≤ (limits.get i).hi := by
  simp only [PoseRecord.isValid, Bool.and_eq_true, poseWithin_iff, forall_eq_or_imp, forall_eq, forall_and, and_assoc]
  tauto

/-- A leg's record fails when one of its nine angles lies outside its joint's limits (R91). -/
def poseFails (t : TableStore) (l : Leg) : Prop :=
  ∃ i : JointIx, ∃ q, (q = (t.pose.get l).setDown ∨ q = (t.pose.get l).reach ∨ q = (t.pose.get l).sit)
    ∧ (q.get i < (t.jointAt ⟨l, i⟩).lo ∨ (t.jointAt ⟨l, i⟩).hi < q.get i)

theorem poseFails_iff (t : TableStore) (l : Leg) :
    poseFails t l ↔ (!(t.pose.get l).isValid (t.joint.get l)) = true := by
  rw [Bool.not_eq_true', ← Bool.not_eq_true, PoseRecord.isValid_iff]
  simp only [poseFails, not_forall, not_and_or, not_le, exists_prop]
  rfl

/-- No record fails, or the one of the lowest leg is named (R91). -/
theorem TableStore.firstInvalidPose_iff (t : TableStore) :
    (t.firstInvalidPose = none ↔ ∀ l, ¬ poseFails t l)
    ∧ ∀ l, t.firstInvalidPose = some l ↔ poseFails t l ∧ ∀ m : Leg, m.number < l.number → ¬ poseFails t m := by
  simp only [poseFails_iff]
  exact ⟨find?_eq_none_iff_forall Leg.mem_all _, find?_eq_some_iff_least Leg.number Leg.mem_all Leg.all_sorted _⟩

theorem TableStore.writePoses_get (t : TableStore) (r : EntryRange) (data : List Byte) (l : Leg) :
    (t.writePoses r data).pose.get l = if r.first ≤ l.number ∧ l.number < r.first + r.count
      then poseOfBytes ((data.drop ((l.number - r.first) * 24)).take 24) else t.pose.get l := by
  have stored : (t.writePoses r data).pose.get l
      = if r.covers l.number then poseOfBytes (entryBytesAt .pose r data l.number) else t.pose.get l := by
    rw [writePoses, PerLeg.get_ofFn]
  rw [stored, if_congr (r.covers_iff l.number) rfl rfl]
  rfl

theorem poseOfBytes_fields (bs : List Byte) (i : JointIx) :
    let angle : Nat → Int := fun off => max (-18000) (min 18000 (s16 bs (off + 2 * i.number)))
    (poseOfBytes bs).setDown.get i = angle 0 ∧ (poseOfBytes bs).reach.get i = angle 6
    ∧ (poseOfBytes bs).sit.get i = angle 12
    ∧ (poseOfBytes bs).sitStiffness.get i = min 4095 (u16 bs (18 + 2 * i.number)) := by
  have angle (off : Nat) : (poseAt Config.angleLimit bs off).get i
      = max (-18000) (min 18000 (s16 bs (off + 2 * i.number))) :=
    (PerJoint.get_ofFn _ i).trans (clampAbs_eq (by decide) _)
  exact ⟨angle 0, angle 6, angle 12, (PerJoint.get_ofFn _ i).trans (Nat.min_comm _ _)⟩

theorem Device.writePose_of_unarmed {d : Device} (r : EntryRange) (data : List Byte) (h : d.mhu.mode = .unarmed) :
    d.writePose r data = (.done [], d.setTables { d.tbs.writePoses r data with poseValid := false }) := by
  unfold writePose
  exact if_neg (by simp [armed, h])

theorem Device.writePose_of_armed {d : Device} (r : EntryRange) (data : List Byte) (h : d.mhu.mode ≠ .unarmed) :
    d.writePose r data = match (d.tbs.writePoses r data).firstInvalidPose with
      | some l => (.refusedInvalid .pose l.number, d)
      | none => (.done [], d.setTables (d.tbs.writePoses r data)) := by
  unfold writePose
  exact if_pos (by simp [armed, h])

/-- What a pose write that is DONE leaves: the records, and the flag as R91 has it. -/
theorem Device.writePose_done {d : Device} (r : EntryRange) (data : List Byte)
    (h : d.mhu.mode = .unarmed ∨ (d.tbs.writePoses r data).firstInvalidPose = none) : d.writePose r data
      = (.done [], d.setTables { d.tbs with
          pose := (d.tbs.writePoses r data).pose
          poseValid := decide (d.mhu.mode ≠ .unarmed) && d.tbs.poseValid }) := by
  by_cases unarmed : d.mhu.mode = .unarmed
  · rw [writePose_of_unarmed r data unarmed, decide_eq_false (not_not.mpr unarmed)]
    rfl
  · rw [writePose_of_armed r data unarmed, h.resolve_left unarmed, decide_eq_true unarmed]
    rfl

/-! ## The single peak of a profile (R92) -/

/-- The search of `peakBreakFrom` over a function of the index: from entry `k` on, `x` reads the entries, and `fell` says
that an earlier entry was below the one before it. -/
theorem peakBreakFrom_eq_some_iff (x : Nat → Nat) (n : Nat) : ∀ (k : Nat) (fell : Bool) (b : Nat), 1 ≤ k →
    (peakBreakFrom ((List.range' k n).map x) k (x (k - 1)) fell = some b ↔
      k ≤ b ∧ b < k + n ∧ (fell = true ∨ ∃ i, k ≤ i ∧ i < b ∧ x i < x (i - 1)) ∧ x (b - 1) < x b
      ∧ ∀ c, k ≤ c → c < b → ¬ ((fell = true ∨ ∃ i, k ≤ i ∧ i < c ∧ x i < x (i - 1)) ∧ x (c - 1) < x c)) := by
  induction n with
  | zero =>
    intro k fell b _
    refine iff_of_false (by simp [peakBreakFrom]) ?_
    rintro ⟨low, high, _⟩
    omega
  | succ n ih =>
    intro k fell b hk
    rw [List.range'_succ, List.map_cons, peakBreakFrom]
    split
    next breaks =>
      simp only [Bool.and_eq_true, decide_eq_true_eq] at breaks
      constructor
      · rintro ⟨⟩
        exact ⟨Nat.le_refl k, by omega, .inl breaks.1, breaks.2, fun c low high => by omega⟩
      · rintro ⟨low, _, _, _, first⟩
        by_contra other
        exact first k (Nat.le_refl k) (by rw [Option.some.injEq] at other; omega) ⟨.inl breaks.1, breaks.2⟩
    next goes_on =>
      simp only [Bool.and_eq_true, decide_eq_true_eq] at goes_on
      have next := ih (k + 1) (fell || decide (x k < x (k - 1))) b (by omega)
      rw [Nat.add_sub_cancel] at next
      rw [next]
      have falls (c : Nat) (later : k < c) : (fell = true ∨ ∃ i, k ≤ i ∧ i < c ∧ x i < x (i - 1)) ↔
          ((fell || decide (x k < x (k - 1))) = true ∨ ∃ i, k + 1 ≤ i ∧ i < c ∧ x i < x (i - 1)) := by
        rw [Bool.or_eq_true, decide_eq_true_iff, or_assoc]
        refine or_congr_right ⟨?_, ?_⟩
        · rintro ⟨i, low, high, fall⟩
          rcases Nat.eq_or_lt_of_le low with rfl | above
          · exact .inl fall
          · exact .inr ⟨i, above, high, fall⟩
        · rintro (fall | ⟨i, low, high, fall⟩)
          · exact ⟨k, Nat.le_refl k, later, fall⟩
          · exact ⟨i, by omega, high, fall⟩
      constructor
      · rintro ⟨low, high, fall, rise, first⟩
        refine ⟨by omega, by omega, (falls b (by omega)).mpr fall, rise, fun c from_k before => ?_⟩
        rcases Nat.eq_or_lt_of_le from_k with rfl | above
        · rintro ⟨had_fallen | ⟨i, low, high, _⟩, rises⟩
          · exact goes_on ⟨had_fallen, rises⟩
          · omega
        · rw [falls c above]
          exact first c above before
      · rintro ⟨low, high, fall, rise, first⟩
        have past : k < b := by
          rcases Nat.eq_or_lt_of_le low with rfl | above
          · exfalso
            rcases fall with had_fallen | ⟨i, low, high, _⟩
            · exact goes_on ⟨had_fallen, rise⟩
            · omega
          · exact above
        refine ⟨past, by omega, (falls b past).mp fall, rise, fun c from_k before => ?_⟩
        rw [← falls c from_k]
        exact first c (by omega) before

/-- LP[k] of a profile: its stored entries from 1 to 15, and 0 at both ends (R92). -/
def profileEntry (lp : Vector Nat 15) (k : Nat) : Nat := if h : 1 ≤ k ∧ k ≤ 15 then lp.get ⟨k - 1, by omega⟩ else 0

theorem profileAt_eq (lp : Vector Nat 15) {k : Nat} (h : k ≤ 16) : profileAt lp k = profileEntry lp k := by
  unfold profileAt profileEntry
  by_cases zero : k = 0
  · rw [if_pos zero, dif_neg (by omega)]
  · rw [if_neg zero]
    split
    next inside =>
      rw [List.getD_eq_getElem _ _ (by rw [Vector.length_toList]; omega), Vector.getElem_toList]
      rfl
    next outside => exact List.getD_eq_default _ _ (by rw [Vector.length_toList]; omega)

theorem profile_entries (lp : Vector Nat 15) : lp.toList ++ [0] = (List.range' 1 16).map (profileEntry lp) := by
  refine List.ext_getElem (by simp) fun i hi _ => ?_
  have sixteen : i < 16 := by simpa using hi
  rw [List.getElem_map, List.getElem_range']
  by_cases inside : i < 15
  · rw [List.getElem_append_left (by rw [Vector.length_toList]; exact inside), Vector.getElem_toList, profileEntry,
      dif_pos (by omega), Vector.get_eq_getElem]
    congr 1
    show i = 1 + 1 * i - 1
    omega
  · obtain rfl : i = 15 := by omega
    rw [List.getElem_append_right (by rw [Vector.length_toList]), List.getElem_singleton]
    exact (show profileEntry lp 16 = 0 from dif_neg (by omega)).symm

/-- The first entry that breaks the peak is the first that rises after a fall (R92). -/
theorem peakBreak_eq_some_iff (lp : Vector Nat 15) (b : Nat) : peakBreak lp = some b ↔
    b ≤ 16 ∧ (∃ i, 1 ≤ i ∧ i < b ∧ profileEntry lp i < profileEntry lp (i - 1))
    ∧ profileEntry lp (b - 1) < profileEntry lp b
    ∧ ∀ k, k < b → ¬ ((∃ i, 1 ≤ i ∧ i < k ∧ profileEntry lp i < profileEntry lp (i - 1))
        ∧ profileEntry lp (k - 1) < profileEntry lp k) := by
  have start : profileEntry lp (1 - 1) = 0 := dif_neg (by omega)
  have search := peakBreakFrom_eq_some_iff (profileEntry lp) 16 1 false b (Nat.le_refl 1)
  rw [start, ← profile_entries] at search
  rw [peakBreak, search]
  simp only [Bool.false_eq_true, false_or]
  constructor
  · rintro ⟨low, high, fall, rise, first⟩
    refine ⟨by omega, fall, rise, fun k before => ?_⟩
    rcases Nat.eq_zero_or_pos k with rfl | positive
    · rintro ⟨⟨i, low, high, _⟩, _⟩
      omega
    · exact first k positive before
  · rintro ⟨high, ⟨i, low, before, fall⟩, rise, first⟩
    exact ⟨by omega, by omega, ⟨i, low, before, fall⟩, rise, fun k _ before => first k before⟩

/-- A profile whose peak nothing breaks climbs up to its first fall and never again after it (R92). -/
theorem peakBreak_eq_none_iff (lp : Vector Nat 15) : peakBreak lp = none ↔
    ∃ p, p ≤ 16 ∧ (∀ k, 1 ≤ k → k ≤ p → profileEntry lp (k - 1) ≤ profileEntry lp k)
      ∧ ∀ k, p < k → k ≤ 16 → profileEntry lp k ≤ profileEntry lp (k - 1) := by
  obtain ⟨x, hx⟩ : ∃ x, x = profileEntry lp := ⟨_, rfl⟩
  have breaks := peakBreak_eq_some_iff lp
  rw [← hx] at breaks ⊢
  constructor
  · intro unbroken
    have noRise (b : Nat) (inside : b ≤ 16) : ¬ ((∃ i, 1 ≤ i ∧ i < b ∧ x i < x (i - 1)) ∧ x (b - 1) < x b) := by
      induction b using Nat.strong_induction_on with
      | _ b ih =>
        rintro ⟨fall, rise⟩
        have broken := (breaks b).mpr ⟨inside, fall, rise, fun k before => ih k before (by omega)⟩
        rw [unbroken] at broken
        cases broken
    by_cases falls : ∃ i, 1 ≤ i ∧ i ≤ 16 ∧ x i < x (i - 1)
    · obtain ⟨⟨low, high, fall⟩, least⟩ := And.intro (Nat.find_spec falls) (fun m => Nat.find_min falls (m := m))
      refine ⟨Nat.find falls - 1, by omega, fun k from_one to_p => ?_, fun k past inside => ?_⟩
      · by_contra other
        exact least k (by omega) ⟨from_one, by omega, Nat.lt_of_not_le other⟩
      · by_contra other
        have rise : x (k - 1) < x k := Nat.lt_of_not_le other
        have later : Nat.find falls ≠ k := by
          rintro same
          rw [same] at fall
          omega
        exact noRise k inside ⟨⟨Nat.find falls, low, by omega, fall⟩, rise⟩
    · refine ⟨16, Nat.le_refl 16, fun k from_one inside => ?_, fun k past inside => by omega⟩
      by_contra other
      exact falls ⟨k, from_one, inside, Nat.lt_of_not_le other⟩
  · rintro ⟨p, _, climbs, descends⟩
    refine Option.eq_none_iff_forall_ne_some.mpr fun b broken => ?_
    obtain ⟨inside, ⟨i, low, before, fall⟩, rise, _⟩ := (breaks b).mp broken
    rcases Nat.lt_or_ge p b with past | upTo
    · exact absurd rise (Nat.not_lt.mpr (descends b past inside))
    · exact absurd fall (Nat.not_lt.mpr (climbs i low (by omega)))

/-! ## Lift profile writes -/

/-- A field of two bytes within a slice that holds it. -/
theorem u16_slice (data : List Byte) (a : Nat) : u16 ((data.drop a).take 2) 0 = u16 data a := by
  simp only [u16, u8, byteAt, List.getD_eq_getElem?_getD, List.getElem?_take, List.getElem?_drop]
  rfl

theorem TableStore.writeProfile_get (t : TableStore) (r : EntryRange) (data : List Byte) (k : Fin 15) :
    (t.writeProfile r data).liftProfile.get k = if r.first ≤ k.val + 1 ∧ k.val + 1 < r.first + r.count
      then min (u16 data ((k.val + 1 - r.first) * 2)) 1024 else t.liftProfile.get k := by
  have stored : (t.writeProfile r data).liftProfile.get k = if r.covers (k.val + 1)
      then profileOfBytes (entryBytesAt .liftProfile r data (k.val + 1)) else t.liftProfile.get k := by
    simp only [writeProfile, judgeProfile, Vector.get_eq_getElem, Vector.getElem_ofFn]
  rw [stored, if_congr (r.covers_iff _) rfl rfl, profileOfBytes, entryBytesAt]
  exact if_congr Iff.rfl (congrArg (min · 1024) (u16_slice _ _)) rfl

theorem TableStore.judgeProfile_liftValid (t : TableStore) :
    t.judgeProfile.liftValid = true ↔ peakBreak t.judgeProfile.liftProfile = none :=
  Option.isNone_iff_eq_none

theorem TableStore.judgeProfile_frame (t : TableStore) (lp : Vector Nat 15) :
    ({ t with liftProfile := lp } : TableStore).judgeProfile = { t with
      liftProfile := ({ t with liftProfile := lp } : TableStore).judgeProfile.liftProfile
      liftValid := ({ t with liftProfile := lp } : TableStore).judgeProfile.liftValid } := rfl

theorem TableStore.writeProfile_frame (t : TableStore) (r : EntryRange) (data : List Byte) : t.writeProfile r data
    = { t with liftProfile := (t.writeProfile r data).liftProfile, liftValid := (t.writeProfile r data).liftValid } :=
  judgeProfile_frame t _

theorem TableStore.writeProfile_liftValid (t : TableStore) (r : EntryRange) (data : List Byte) :
    (t.writeProfile r data).liftValid = true ↔ peakBreak (t.writeProfile r data).liftProfile = none :=
  judgeProfile_liftValid _

theorem Device.writeLiftProfile_done {d : Device} (r : EntryRange) (data : List Byte)
    (h : d.mhu.mode = .unarmed ∨ peakBreak (d.tbs.writeProfile r data).liftProfile = none) :
    d.writeLiftProfile r data = (.done [], d.setTables (d.tbs.writeProfile r data)) := by
  unfold writeLiftProfile
  dsimp only
  split
  next isArmed =>
    have unbroken := h.resolve_left (of_decide_eq_true isArmed)
    rw [unbroken]
  next => rfl

theorem Device.writeLiftProfile_refused {d : Device} (r : EntryRange) (data : List Byte) {b : Nat}
    (isArmed : d.mhu.mode ≠ .unarmed) (broken : peakBreak (d.tbs.writeProfile r data).liftProfile = some b) :
    d.writeLiftProfile r data = (.refusedInvalid .liftProfile b, d) := by
  unfold writeLiftProfile
  dsimp only
  rw [if_pos (by simp [armed, isArmed]), broken]

/-- Settles O27: pose and profile writes are judged as they would leave their table, and the peak's search finds the
first entry that rises after a fall. -/
theorem poseAndProfileWritesJudged : Obligations.PoseAndProfileWritesJudged := by
  refine ⟨fun tag first count data s ready some_entry => ⟨rfl, s.dev.tbs.writePoses_get _ data,
    s.dev.tbs.writeProfile_frame _ data, fun k outside => ?_,
    fun size to_end => ?_, fun size from_one to_end => ?_⟩, PoseRecord.isValid_iff, TableStore.firstInvalidPose_iff,
    poseOfBytes_fields, fun lp => ⟨fun k => profileAt_eq lp, peakBreak_eq_none_iff lp, peakBreak_eq_some_iff lp⟩⟩
  · exact (s.dev.tbs.writeProfile_get ⟨first.toNat, count.toNat⟩ data k).trans (if_neg outside)
  · have acts : s.dev.tableWrite (3 :: first :: count :: data) = s.dev.writePose ⟨first.toNat, count.toNat⟩ data :=
      tableWrite_of_allowed (code := 3) (t := .pose) rfl size some_entry (Nat.zero_le _)
        (show first.toNat + count.toNat ≤ 0 + 4 by omega) rfl
    have stored := s.dev.tbs.writePoses_get ⟨first.toNat, count.toNat⟩ data
    refine ⟨fun done => ?_, fun isArmed l fails => ?_⟩
    · refine ⟨_, exec_tableWrite tag ready (acts.trans (writePose_done _ data done)), rfl, fun l low high => ?_,
        fun l outside => ?_, rfl, rfl, rfl, rfl, rfl, rfl⟩
      · exact (stored l).trans (if_pos ⟨low, high⟩)
      · exact (stored l).trans (if_neg (by dsimp only; omega))
    · have refused : s.dev.tableWrite (3 :: first :: count :: data) = (.refusedInvalid .pose l.number, s.dev) := by
        rw [acts, writePose_of_armed _ data isArmed, fails]
      exact exec_tableWrite tag ready refused
  · have acts (still : ¬ (s.dev.mhu.mode = .walk ∨ s.dev.mhu.mode = .hold)) :
        s.dev.tableWrite (4 :: first :: count :: data) = s.dev.writeLiftProfile ⟨first.toNat, count.toNat⟩ data := by
      refine tableWrite_of_allowed (code := 4) (t := .liftProfile) rfl size some_entry from_one
        (show first.toNat + count.toNat ≤ 1 + 15 by omega) ?_
      rw [← Bool.not_eq_true, writeBarred_iff]
      rintro (⟨h | h, _⟩ | ⟨_, moving⟩ | ⟨h, _⟩)
      · cases h
      · cases h
      · exact still moving
      · cases h
    refine ⟨fun done => ?_, s.dev.tbs.writeProfile_liftValid _ data, fun k low high => ?_, fun b mode broken => ?_⟩
    · have still : ¬ (s.dev.mhu.mode = .walk ∨ s.dev.mhu.mode = .hold) := by
        rcases done with mode | ⟨mode | mode, _⟩ <;> simp [mode]
      exact exec_tableWrite tag ready
        ((acts still).trans (writeLiftProfile_done _ data (done.imp_right fun kept => kept.2)))
    · exact (s.dev.tbs.writeProfile_get ⟨first.toNat, count.toNat⟩ data k).trans (if_pos ⟨low, high⟩)
    · have still : ¬ (s.dev.mhu.mode = .walk ∨ s.dev.mhu.mode = .hold) := by rcases mode with mode | mode <;> simp [mode]
      have isArmed : s.dev.mhu.mode ≠ .unarmed := by rcases mode with mode | mode <;> simp [mode]
      exact exec_tableWrite tag ready ((acts still).trans (writeLiftProfile_refused _ data isArmed broken))

end Sys2Proof.Machine
end

section
/-!
PROOFS. What TABLE_READ sends of a stored record is stored again as the same record (O30): each field is read back from
its offset, and a value in its range passes its clamp unchanged.
-/

namespace Sys2Proof.Machine

open Device

/-! ## Fields read back -/

theorem s16_of_field {x : Int} {off : Nat} {bs : List Byte} (field : fieldAt bs off 2 = bytes16s x) (low : -32768 ≤ x)
    (high : x ≤ 32767) : s16 bs off = x := by
  have word := u16_bytes16 (x % 65536).toNat off bs field
  unfold s16
  split <;> omega

theorem u16_of_field {x off : Nat} {bs : List Byte} (field : fieldAt bs off 2 = bytes16 x) (range : x < 65536) :
    u16 bs off = x :=
  (u16_bytes16 x off bs field).trans (Nat.mod_eq_of_lt range)

theorem u8_of_byte {x off : Nat} {bs : List Byte} (field : byteAt bs off = BitVec.ofNat 8 x) (range : x < 256) :
    u8 bs off = x := by
  rw [u8, field, BitVec.toNat_ofNat]
  exact Nat.mod_eq_of_lt range

theorem clampNat_u16 {lo hi x off : Nat} {bs : List Byte} (field : fieldAt bs off 2 = bytes16 x) (low : lo ≤ x)
    (high : x ≤ hi) (range : hi < 65536) : clampNat lo hi (u16 bs off) = x := by
  rw [u16_of_field field (by omega), clampNat_of_mem lo hi x low high]

theorem clampNat_u8 {lo hi x off : Nat} {bs : List Byte} (field : byteAt bs off = BitVec.ofNat 8 x) (low : lo ≤ x)
    (high : x ≤ hi) (range : hi < 256) : clampNat lo hi (u8 bs off) = x := by
  rw [u8_of_byte field (by omega), clampNat_of_mem lo hi x low high]

theorem clampInt_s16 {lo hi x : Int} {off : Nat} {bs : List Byte} (field : fieldAt bs off 2 = bytes16s x) (low : lo ≤ x)
    (high : x ≤ hi) (lowest : -32768 ≤ lo) (highest : hi ≤ 32767) : clampInt lo hi (s16 bs off) = x := by
  rw [s16_of_field field (by omega) (by omega), clampInt_of_mem lo hi x low high]

/-- Angles within their bound are read back as they were sent. -/
theorem poseAt_of_fields {bound : Int} {bs : List Byte} {off : Nat} {p : Pose} (highest : bound ≤ 32767)
    (range : ∀ i, -bound ≤ p.get i ∧ p.get i ≤ bound)
    (fields : ∀ i : JointIx, fieldAt bs (off + 2 * i.number) 2 = bytes16s (p.get i)) : poseAt bound bs off = p := by
  refine PerJoint.ext_get fun i => ?_
  rw [poseAt, PerJoint.get_ofFn]
  exact clampInt_s16 (fields i) (range i).1 (range i).2 (by omega) highest

/-- The angles of a pose as it is stored lie within their bound. -/
theorem poseAt_range {bound : Int} (positive : 0 ≤ bound) (bs : List Byte) (off : Nat) (i : JointIx) :
    -bound ≤ (poseAt bound bs off).get i ∧ (poseAt bound bs off).get i ≤ bound := by
  rw [poseAt, PerJoint.get_ofFn]
  exact ⟨clampInt_ge _ _ _ (by omega), clampInt_le _ _ _ (by omega)⟩

/-! ## Gait records -/

theorem numberOfBits_legSet_getLsbD (m : LegSet) (l : Leg) :
    (BitVec.ofNat 8 (numberOfBits m.toList)).getLsbD l.number = m.get l := by
  rw [BitVec.getLsbD_ofNat, numberOfBits_testBit]
  cases l <;> rfl

/-- A mask without the leg's own bit is read back as it was sent. -/
theorem maskAt_of_byte {l : Leg} {bs : List Byte} {off : Nat} {m : LegSet}
    (field : byteAt bs off = BitVec.ofNat 8 (numberOfBits m.toList)) (own : m.get l = false) : maskAt l bs off = m := by
  refine PerLeg.ext_get fun k => ?_
  rw [maskAt, PerLeg.get_ofFn, field, numberOfBits_legSet_getLsbD]
  by_cases same : k = l
  · rw [same, own, Bool.false_and]
  · rw [decide_eq_true same, Bool.and_true]

/-- The ranges of a stored leg entry (R3). -/
structure GaitLeg.Stored (g : GaitLeg) (l : Leg) : Prop where
  liftPoint : g.liftPoint ≤ 4095
  swing_pos : 1 ≤ g.swing
  swing_le : g.swing ≤ 4095
  prereq : g.prereq.get l = false
  partner : g.partner.get l = false
  clearance : ∀ i, -9000 ≤ g.clearance.get i ∧ g.clearance.get i ≤ 9000

theorem gaitLegAt_stored (bs : List Byte) (l : Leg) : (gaitLegAt bs l).Stored l := by
  obtain ⟨liftPoint, swing, prereq, partner, _, _⟩ := gaitLegAt_fields (k := gaitLegAt bs l) (bs := bs) (l := l) rfl
  exact ⟨by omega, by omega, by omega, prereq, partner, poseAt_range (by omega) bs _⟩

theorem gaitLegAt_gaitBytes {r : GaitRecord} {l : Leg} (h : (r.legs.get l).Stored l) :
    gaitLegAt (gaitBytes r) l = r.legs.get l := by
  have liftPoint : fieldAt (gaitBytes r) (10 + 12 * l.number) 2 = bytes16 (r.legs.get l).liftPoint := by cases l <;> rfl
  have swing : fieldAt (gaitBytes r) (10 + 12 * l.number + 2) 2 = bytes16 (r.legs.get l).swing := by cases l <;> rfl
  have prereq : byteAt (gaitBytes r) (10 + 12 * l.number + 4)
      = BitVec.ofNat 8 (numberOfBits (r.legs.get l).prereq.toList) := by cases l <;> rfl
  have partner : byteAt (gaitBytes r) (10 + 12 * l.number + 5)
      = BitVec.ofNat 8 (numberOfBits (r.legs.get l).partner.toList) := by cases l <;> rfl
  have clearance (i : JointIx) : fieldAt (gaitBytes r) (10 + 12 * l.number + 6 + 2 * i.number) 2
      = bytes16s ((r.legs.get l).clearance.get i) := by cases l <;> cases i <;> rfl
  show GaitLeg.mk _ _ _ _ _ = _
  rw [clampNat_u16 liftPoint (Nat.zero_le _) h.liftPoint (by omega), clampNat_u16 swing h.swing_pos h.swing_le (by omega),
    maskAt_of_byte prereq h.prereq, maskAt_of_byte partner h.partner,
    poseAt_of_fields (by omega) h.clearance clearance]

theorem gaitOfBytes_gaitBytes (bs : List Byte) : gaitOfBytes (gaitBytes (gaitOfBytes bs)) = gaitOfBytes bs := by
  obtain ⟨r, hr⟩ : ∃ r, r = gaitOfBytes bs := ⟨_, rfl⟩
  rw [← hr]
  obtain ⟨n, e, mLift, sEarly, tWait, tLand, legs⟩ := gaitOfBytes_fields hr
  have byte := u8_lt bs 9
  have legs_back : PerLeg.ofFn (gaitLegAt (gaitBytes r)) = r.legs := PerLeg.ext_get fun l => by
    rw [PerLeg.get_ofFn, gaitLegAt_gaitBytes (by rw [legs l]; exact gaitLegAt_stored bs l)]
  show GaitRecord.mk _ _ _ _ _ _ _ = _
  rw [legs_back, clampNat_u16 (x := r.n) rfl (by omega) (by omega) (by omega),
    clampNat_u16 (x := r.e) rfl (by omega) (by omega) (by omega),
    clampInt_s16 (x := r.mLift) rfl (by omega) (by omega) (by omega) (by omega),
    clampNat_u8 (x := r.sEarly) rfl (by omega) (by omega) (by omega),
    clampNat_u16 (x := r.tWait) rfl (by omega) (by omega) (by omega),
    clampNat_u8 (x := r.tLand) rfl (by omega) (by omega) (by omega)]

/-! ## Joint, pose and profile records -/

theorem LimitMode.ofCode_code (m : LimitMode) : ofCode m.code = m := by cases m <;> rfl

theorem LimitMode.code_lt (m : LimitMode) : m.code < 256 := by cases m <;> decide

/-- A fault set of the five categories of a drive is read back as it was sent. -/
theorem faultMask_of_byte {bs : List Byte} {off : Nat} {s : FaultSet} (field : faultByte s = [byteAt bs off])
    (lost : s.nodeLost = false) (sensor : s.sensorFault = false) : driveFaults bs off = s := by
  obtain ⟨b, is_b, bits⟩ := faultByte_bits s
  obtain rfl : b = byteAt bs off := by
    rw [is_b] at field
    exact List.head_eq_of_cons_eq field
  simp only [List.range, List.range.loop, List.map_cons, List.map_nil, List.cons.injEq] at bits
  obtain ⟨b0, b1, b2, b3, b4, _⟩ := bits
  unfold driveFaults
  rw [b0, b1, b2, b3, b4]
  cases s
  cases lost
  cases sensor
  rfl

/-- The ranges of a stored joint record (R89). -/
structure JointRecord.Stored (r : JointRecord) : Prop where
  lo : -18000 ≤ r.lo ∧ r.lo ≤ 17999
  hi : r.lo + 1 ≤ r.hi ∧ r.hi ≤ 18000
  stepMax : 1 ≤ r.stepMax ∧ r.stepMax ≤ 3000
  gj : r.gj ≤ 1024
  kr : -4096 ≤ r.kr ∧ r.kr ≤ 4096
  kp : -4096 ≤ r.kp ∧ r.kp ≤ 4096
  kh : -4096 ≤ r.kh ∧ r.kh ≤ 4096
  cMax : r.cMax ≤ 3000
  lost : r.faultMask.nodeLost = false
  sensor : r.faultMask.sensorFault = false

theorem clampInt_mem {lo hi : Int} (h : lo ≤ hi) (x : Int) : lo ≤ clampInt lo hi x ∧ clampInt lo hi x ≤ hi :=
  ⟨clampInt_ge lo hi x h, clampInt_le lo hi x h⟩

theorem clampNat_mem {lo hi : Nat} (h : lo ≤ hi) (x : Nat) : lo ≤ clampNat lo hi x ∧ clampNat lo hi x ≤ hi :=
  ⟨clampNat_ge lo hi x h, clampNat_le lo hi x h⟩

theorem jointOfBytes_stored (bs : List Byte) : (jointOfBytes bs).Stored where
  lo := clampInt_mem (by omega) (s16 bs 0)
  hi := by
    have lo := jointOfBytes_lo bs
    exact clampInt_mem (lo := (jointOfBytes bs).lo + 1) (hi := 18000) (by omega) (s16 bs 2)
  stepMax := clampNat_mem (by omega) (u16 bs 4)
  gj := (clampNat_mem (lo := 0) (by omega) (u16 bs 7)).2
  kr := clampInt_mem (by omega) (s16 bs 9)
  kp := clampInt_mem (by omega) (s16 bs 11)
  kh := clampInt_mem (by omega) (s16 bs 13)
  cMax := (clampNat_mem (lo := 0) (by omega) (u16 bs 15)).2
  lost := rfl
  sensor := rfl

theorem jointOfBytes_jointBytes {r : JointRecord} (h : r.Stored) : jointOfBytes (jointBytes r) = r := by
  have lowest : -32768 ≤ r.lo + 1 := by have := h.lo; omega
  have lo_back : clampInt (-18000) 17999 (s16 (jointBytes r) 0) = r.lo :=
    clampInt_s16 rfl h.lo.1 h.lo.2 (by decide) (by decide)
  have hi_back : clampInt (r.lo + 1) 18000 (s16 (jointBytes r) 2) = r.hi :=
    clampInt_s16 rfl h.hi.1 h.hi.2 lowest (by decide)
  have step_back : clampNat 1 3000 (u16 (jointBytes r) 4) = r.stepMax :=
    clampNat_u16 rfl h.stepMax.1 h.stepMax.2 (by decide)
  have mode_back : LimitMode.ofCode (u8 (jointBytes r) 6) = r.limitMode := by
    rw [u8_of_byte (bs := jointBytes r) (off := 6) rfl r.limitMode.code_lt, LimitMode.ofCode_code]
  have gj_back : clampNat 0 1024 (u16 (jointBytes r) 7) = r.gj := clampNat_u16 rfl (Nat.zero_le _) h.gj (by decide)
  have kr_back : clampInt (-4096) 4096 (s16 (jointBytes r) 9) = r.kr :=
    clampInt_s16 rfl h.kr.1 h.kr.2 (by decide) (by decide)
  have kp_back : clampInt (-4096) 4096 (s16 (jointBytes r) 11) = r.kp :=
    clampInt_s16 rfl h.kp.1 h.kp.2 (by decide) (by decide)
  have kh_back : clampInt (-4096) 4096 (s16 (jointBytes r) 13) = r.kh :=
    clampInt_s16 rfl h.kh.1 h.kh.2 (by decide) (by decide)
  have cMax_back : clampNat 0 3000 (u16 (jointBytes r) 15) = r.cMax :=
    clampNat_u16 rfl (Nat.zero_le _) h.cMax (by decide)
  have mask_back : driveFaults (jointBytes r) 17 = r.faultMask :=
    faultMask_of_byte (bs := jointBytes r) (off := 17) rfl h.lost h.sensor
  show JointRecord.mk (clampInt (-18000) 17999 (s16 (jointBytes r) 0))
    (clampInt (clampInt (-18000) 17999 (s16 (jointBytes r) 0) + 1) 18000 (s16 (jointBytes r) 2))
    (clampNat 1 3000 (u16 (jointBytes r) 4)) (.ofCode (u8 (jointBytes r) 6)) (clampNat 0 1024 (u16 (jointBytes r) 7))
    (clampInt (-4096) 4096 (s16 (jointBytes r) 9)) (clampInt (-4096) 4096 (s16 (jointBytes r) 11))
    (clampInt (-4096) 4096 (s16 (jointBytes r) 13)) (clampNat 0 3000 (u16 (jointBytes r) 15))
    (driveFaults (jointBytes r) 17) = r
  rw [lo_back, hi_back, step_back, mode_back, gj_back, kr_back, kp_back, kh_back, cMax_back, mask_back]

theorem poseOfBytes_poseRecordBytes (bs : List Byte) :
    poseOfBytes (poseRecordBytes (poseOfBytes bs)) = poseOfBytes bs := by
  obtain ⟨p, hp⟩ : ∃ p, p = poseOfBytes bs := ⟨_, rfl⟩
  have setDown (i : JointIx) : -18000 ≤ p.setDown.get i ∧ p.setDown.get i ≤ 18000 := by
    rw [hp]; exact poseAt_range (by decide) bs 0 i
  have reach (i : JointIx) : -18000 ≤ p.reach.get i ∧ p.reach.get i ≤ 18000 := by
    rw [hp]; exact poseAt_range (by decide) bs 6 i
  have sit (i : JointIx) : -18000 ≤ p.sit.get i ∧ p.sit.get i ≤ 18000 := by
    rw [hp]; exact poseAt_range (by decide) bs 12 i
  have stiff (i : JointIx) : p.sitStiffness.get i ≤ 4095 := by
    rw [hp]
    exact ((poseOfBytes_fields bs i).2.2.2).trans_le (Nat.min_le_left _ _)
  have stiff_back : stiffnessAt (poseRecordBytes p) 18 = p.sitStiffness := PerJoint.ext_get fun i => by
    have field : fieldAt (poseRecordBytes p) (18 + 2 * i.number) 2 = bytes16 (p.sitStiffness.get i) := by cases i <;> rfl
    rw [stiffnessAt, PerJoint.get_ofFn, u16_of_field field (by have := stiff i; omega)]
    exact Nat.min_eq_left (stiff i)
  rw [← hp]
  show PoseRecord.mk (poseAt 18000 (poseRecordBytes p) 0) (poseAt 18000 (poseRecordBytes p) 6)
    (poseAt 18000 (poseRecordBytes p) 12) (stiffnessAt (poseRecordBytes p) 18) = _
  rw [stiff_back, poseAt_of_fields (by omega) setDown fun i => by cases i <;> rfl,
    poseAt_of_fields (by omega) reach fun i => by cases i <;> rfl,
    poseAt_of_fields (by omega) sit fun i => by cases i <;> rfl]

theorem profileOfBytes_bytes16 (bs : List Byte) : profileOfBytes (bytes16 (profileOfBytes bs)) = profileOfBytes bs := by
  have bound : profileOfBytes bs ≤ 1024 := Nat.min_le_right _ _
  rw [profileOfBytes, u16_of_field rfl (by omega)]
  exact Nat.min_eq_left bound

/-! ## The configs -/

theorem linkConfigOfBytes_linkConfigBytes (bs : List Byte) :
    linkConfigOfBytes (linkConfigBytes (linkConfigOfBytes bs)) = linkConfigOfBytes bs := by
  obtain ⟨c, hc⟩ : ∃ c, c = linkConfigOfBytes bs := ⟨_, rfl⟩
  have divisor := linkConfigOfBytes_divisor bs
  have byte := u8_lt bs 0
  have window := linkConfigOfBytes_window bs
  have odd : c.polynomial ||| 1#16 = c.polynomial := by
    rw [hc]
    show BitVec.ofNat 16 (u16 bs 2) ||| 1#16 ||| 1#16 = _
    rw [BitVec.or_assoc, BitVec.or_self]
    rfl
  rw [← hc] at *
  show LinkConfig.mk _ _ (BitVec.ofNat 16 (u16 (linkConfigBytes c) 2) ||| 1#16)
    (BitVec.ofNat 16 (u16 (linkConfigBytes c) 4)) = _
  rw [clampNat_u8 (x := c.divisor) rfl (by omega) (by omega) (by omega),
    clampNat_u8 (x := c.window) rfl (by omega) (by omega) (by omega),
    u16_of_field (x := c.polynomial.toNat) rfl c.polynomial.isLt, u16_of_field (x := c.initial.toNat) rfl c.initial.isLt,
    BitVec.ofNat_toNat, BitVec.setWidth_eq, odd, BitVec.ofNat_toNat, BitVec.setWidth_eq]

theorem SupplyAction.ofCode2_code (a : SupplyAction) : ofCode2 a.code = a := by cases a <;> rfl

theorem SupplyAction.ofCode1_ofCode1 (n : Nat) : ofCode1 (ofCode1 n).code = ofCode1 n := by
  rw [ofCode1_eq n]
  split <;> rfl

theorem SupplyAction.code_lt (a : SupplyAction) : a.code < 256 := by cases a <;> decide

theorem ClearPolicy.ofCode_code (p : ClearPolicy) : ofCode p.code = p := by cases p <;> rfl

theorem ClearPolicy.code_lt (p : ClearPolicy) : p.code < 256 := by cases p <;> decide

theorem flagAt_of_byte {bs : List Byte} {off : Nat} {b : Bool} (field : [byteAt bs off] = flagByte b) :
    flagAt bs off = b := by
  unfold flagAt
  rw [List.head_eq_of_cons_eq field]
  cases b <;> rfl

theorem cyclePeriod_of_multiple {x : Nat} (low : 100 ≤ x) (high : x ≤ 800) (quarter : x % 25 = 0) :
    cyclePeriod x = x := by
  rw [cyclePeriod, clampNat_of_mem 100 800 x low high]
  omega

/-- The ranges of a stored device config (R176). -/
structure DeviceConfig.Stored (c : DeviceConfig) : Prop where
  deltaDerate : c.deltaDerate ≤ 64
  tClear : 1 ≤ c.tClear ∧ c.tClear ≤ 15
  tOff : c.tOff ≤ 4094
  tOn : c.tOff + 1 ≤ c.tOn ∧ c.tOn ≤ 4095
  mBrace : -100 ≤ c.mBrace ∧ c.mBrace ≤ 300
  hBrace : c.hBrace ≤ 100
  gg : c.gg ≤ 1024
  v1 : 1 ≤ c.v1 ∧ c.v1 ≤ 1023
  action1 : SupplyAction.ofCode1 c.action1.code = c.action1
  v2 : c.v2 ≤ c.v1 - 1
  vh : c.vh ≤ 100
  gDerate : c.gDerate ≤ 1024
  tCyc : 100 ≤ c.tCyc ∧ c.tCyc ≤ 800
  quarter : c.tCyc % 25 = 0
  lSil : 2 ≤ c.lSil ∧ c.lSil ≤ 64
  enables : c.eventEnables &&& eventFactors = c.eventEnables

theorem deviceConfigOfBytes_stored (bs : List Byte) : (deviceConfigOfBytes bs).Stored where
  deltaDerate := (clampNat_mem (lo := 0) (by omega) (u8 bs 0)).2
  tClear := clampNat_mem (by omega) (u8 bs 1)
  tOff := (clampNat_mem (lo := 0) (by omega) (u16 bs 4)).2
  tOn := by
    have tOff := deviceConfigOfBytes_tOff bs
    exact clampNat_mem (lo := (deviceConfigOfBytes bs).tOff + 1) (hi := 4095) (by omega) (u16 bs 2)
  mBrace := clampInt_mem (by omega) (s16 bs 6)
  hBrace := (clampNat_mem (lo := 0) (by omega) (u8 bs 8)).2
  gg := (clampNat_mem (lo := 0) (by omega) (u16 bs 9)).2
  v1 := clampNat_mem (by omega) (u16 bs 11)
  action1 := SupplyAction.ofCode1_ofCode1 _
  v2 := (clampNat_mem (lo := 0) (hi := (deviceConfigOfBytes bs).v1 - 1) (by omega) (u16 bs 14)).2
  vh := (clampNat_mem (lo := 0) (by omega) (u8 bs 17)).2
  gDerate := (clampNat_mem (lo := 0) (by omega) (u16 bs 18)).2
  tCyc := by
    have tCyc := deviceConfigOfBytes_tCyc bs
    omega
  quarter := by
    have tCyc := deviceConfigOfBytes_tCyc bs
    omega
  lSil := clampNat_mem (by omega) (u8 bs 22)
  enables := by
    show set32 bs 23 &&& eventFactors &&& eventFactors = _
    rw [BitVec.and_assoc, BitVec.and_self]
    rfl

/-- The bytes of a device config, one field after the other. -/
theorem deviceConfigBytes_eq (c : DeviceConfig) : deviceConfigBytes c =
    byte1 c.deltaDerate ++ (byte1 c.tClear ++ (bytes16 c.tOn ++ (bytes16 c.tOff ++ (bytes16s c.mBrace
      ++ (byte1 c.hBrace ++ (bytes16 c.gg ++ (bytes16 c.v1 ++ (byte1 c.action1.code ++ (bytes16 c.v2
      ++ (byte1 c.action2.code ++ (byte1 c.vh ++ (bytes16 c.gDerate ++ (bytes16 c.tCyc ++ (byte1 c.lSil
      ++ (bytes32 c.eventEnables ++ (flagByte c.alertEnable ++ (byte1 c.errorPolicy.code
      ++ byte1 c.eventPolicy.code))))))))))))))))) := by
  simp only [deviceConfigBytes, List.append_assoc]

theorem deviceConfigOfBytes_deviceConfigBytes {c : DeviceConfig} (h : c.Stored) :
    deviceConfigOfBytes (deviceConfigBytes c) = c := by
  obtain ⟨bs, hbs⟩ : ∃ bs, bs = deviceConfigBytes c := ⟨_, rfl⟩
  rw [← hbs]
  rw [deviceConfigBytes_eq] at hbs
  have range : c.v1 - 1 < 65536 := by have := h.v1; omega
  have deltaDerate_back : clampNat 0 64 (u8 bs 0) = c.deltaDerate :=
    clampNat_u8 (by rw [hbs]; rfl) (Nat.zero_le _) h.deltaDerate (by decide)
  have tClear_back : clampNat 1 15 (u8 bs 1) = c.tClear :=
    clampNat_u8 (by rw [hbs]; rfl) h.tClear.1 h.tClear.2 (by decide)
  have tOff_back : clampNat 0 4094 (u16 bs 4) = c.tOff :=
    clampNat_u16 (by rw [hbs]; rfl) (Nat.zero_le _) h.tOff (by decide)
  have tOn_back : clampNat (c.tOff + 1) 4095 (u16 bs 2) = c.tOn :=
    clampNat_u16 (by rw [hbs]; rfl) h.tOn.1 h.tOn.2 (by decide)
  have mBrace_back : clampInt (-100) 300 (s16 bs 6) = c.mBrace :=
    clampInt_s16 (by rw [hbs]; rfl) h.mBrace.1 h.mBrace.2 (by decide) (by decide)
  have hBrace_back : clampNat 0 100 (u8 bs 8) = c.hBrace :=
    clampNat_u8 (by rw [hbs]; rfl) (Nat.zero_le _) h.hBrace (by decide)
  have gg_back : clampNat 0 1024 (u16 bs 9) = c.gg :=
    clampNat_u16 (by rw [hbs]; rfl) (Nat.zero_le _) h.gg (by decide)
  have v1_back : clampNat 1 1023 (u16 bs 11) = c.v1 :=
    clampNat_u16 (by rw [hbs]; rfl) h.v1.1 h.v1.2 (by decide)
  have action1_back : SupplyAction.ofCode1 (u8 bs 13) = c.action1 := by
    rw [u8_of_byte (bs := bs) (off := 13) (by rw [hbs]; rfl) c.action1.code_lt, h.action1]
  have v2_back : clampNat 0 (c.v1 - 1) (u16 bs 14) = c.v2 :=
    clampNat_u16 (by rw [hbs]; rfl) (Nat.zero_le _) h.v2 range
  have action2_back : SupplyAction.ofCode2 (u8 bs 16) = c.action2 := by
    rw [u8_of_byte (bs := bs) (off := 16) (by rw [hbs]; rfl) c.action2.code_lt, SupplyAction.ofCode2_code]
  have vh_back : clampNat 0 100 (u8 bs 17) = c.vh :=
    clampNat_u8 (by rw [hbs]; rfl) (Nat.zero_le _) h.vh (by decide)
  have gDerate_back : clampNat 0 1024 (u16 bs 18) = c.gDerate :=
    clampNat_u16 (by rw [hbs]; rfl) (Nat.zero_le _) h.gDerate (by decide)
  have tCyc_back : cyclePeriod (u16 bs 20) = c.tCyc := by
    rw [u16_of_field (bs := bs) (off := 20) (x := c.tCyc) (by rw [hbs]; rfl) (h.tCyc.2.trans_lt (by decide)),
      cyclePeriod_of_multiple h.tCyc.1 h.tCyc.2 h.quarter]
  have lSil_back : clampNat 2 64 (u8 bs 22) = c.lSil :=
    clampNat_u8 (by rw [hbs]; rfl) h.lSil.1 h.lSil.2 (by decide)
  have enables_back : set32 bs 23 &&& eventFactors = c.eventEnables := by
    rw [set32_bytes32 c.eventEnables 23 bs (by rw [hbs]; rfl), h.enables]
  have alert_back : flagAt bs 27 = c.alertEnable :=
    flagAt_of_byte (bs := bs) (off := 27) (by rw [hbs]; rfl)
  have error_back : ClearPolicy.ofCode (u8 bs 28) = c.errorPolicy := by
    rw [u8_of_byte (bs := bs) (off := 28) (by rw [hbs]; rfl) c.errorPolicy.code_lt, ClearPolicy.ofCode_code]
  have event_back : ClearPolicy.ofCode (u8 bs 29) = c.eventPolicy := by
    rw [u8_of_byte (bs := bs) (off := 29) (by rw [hbs]; rfl) c.eventPolicy.code_lt, ClearPolicy.ofCode_code]
  unfold deviceConfigOfBytes
  dsimp only
  rw [deltaDerate_back, tClear_back, tOff_back, tOn_back, mBrace_back, hBrace_back, gg_back, v1_back, action1_back,
    v2_back, action2_back, vh_back, gDerate_back, tCyc_back, lSil_back, enables_back, alert_back, error_back,
    event_back]

/-! ## Entries at their index (R158, R176) -/

theorem TableStore.readEntry_gait (t : TableStore) (g : Fin 8) :
    t.readEntry .gait g.val = gaitBytes (t.gaitAt g).record := by
  have entry : t.gait.toList[g.val]? = some (t.gaitAt g) := by
    rw [List.getElem?_eq_getElem (by rw [Vector.length_toList]; exact g.isLt), Vector.getElem_toList]
    rfl
  simp only [readEntry, entry]

theorem TableStore.readEntry_joint (t : TableStore) (j : Joint) :
    t.readEntry .joint j.number = jointBytes (t.jointAt j) := by
  rcases j with ⟨l, i⟩
  cases l <;> cases i <;> rfl

theorem TableStore.readEntry_pose (t : TableStore) (l : Leg) :
    t.readEntry .pose l.number = poseRecordBytes (t.pose.get l) := by
  cases l <;> rfl

theorem TableStore.readEntry_liftProfile (t : TableStore) (k : Fin 15) :
    t.readEntry .liftProfile (k.val + 1) = bytes16 (t.liftProfile.get k) := by
  have entry := profileAt_eq t.liftProfile (k := k.val + 1) (by omega)
  rw [profileEntry, dif_pos (by omega)] at entry
  exact congrArg bytes16 entry

theorem exists_joint_number {i : Nat} (h : i < 12) : ∃ j : Joint, j.number = i := by
  interval_cases i
  exacts [⟨⟨.fl, .ha⟩, rfl⟩, ⟨⟨.fl, .hf⟩, rfl⟩, ⟨⟨.fl, .kn⟩, rfl⟩, ⟨⟨.fr, .ha⟩, rfl⟩, ⟨⟨.fr, .hf⟩, rfl⟩,
    ⟨⟨.fr, .kn⟩, rfl⟩, ⟨⟨.rr, .ha⟩, rfl⟩, ⟨⟨.rr, .hf⟩, rfl⟩, ⟨⟨.rr, .kn⟩, rfl⟩, ⟨⟨.rl, .ha⟩, rfl⟩, ⟨⟨.rl, .hf⟩, rfl⟩,
    ⟨⟨.rl, .kn⟩, rfl⟩]

theorem exists_leg_number {i : Nat} (h : i < 4) : ∃ l : Leg, l.number = i := by
  interval_cases i
  exacts [⟨.fl, rfl⟩, ⟨.fr, rfl⟩, ⟨.rr, rfl⟩, ⟨.rl, rfl⟩]

theorem TableStore.readEntry_length (t : TableStore) (id : TableId) (i : Nat) (low : id.base ≤ i)
    (high : i < id.base + id.entries) : (t.readEntry id i).length = id.entrySize := by
  cases id with
  | gait =>
    have index : i < 8 := by simpa [TableId.base, TableId.entries] using high
    have entry := t.readEntry_gait ⟨i, index⟩
    rw [entry]
    rfl
  | joint =>
    obtain ⟨j, rfl⟩ := exists_joint_number (show i < 12 by simpa [TableId.base, TableId.entries] using high)
    rw [t.readEntry_joint]
    rfl
  | pose =>
    obtain ⟨l, rfl⟩ := exists_leg_number (show i < 4 by simpa [TableId.base, TableId.entries] using high)
    rw [t.readEntry_pose]
    rfl
  | liftProfile => rfl
  | linkConfig => rfl
  | deviceConfig => exact deviceConfigBytes_length _

/-- Settles O30: a stored record's bytes hold its fields, and stored fields lie where their clamps leave them. -/
theorem readEntriesStoreBackUnchanged : Obligations.ReadEntriesStoreBackUnchanged := by
  refine ⟨fun bs => ⟨gaitOfBytes_gaitBytes bs, jointOfBytes_jointBytes (jointOfBytes_stored bs),
    poseOfBytes_poseRecordBytes bs, profileOfBytes_bytes16 bs, linkConfigOfBytes_linkConfigBytes bs,
    deviceConfigOfBytes_deviceConfigBytes (deviceConfigOfBytes_stored bs)⟩,
    fun t => ⟨t.readEntry_gait, t.readEntry_joint, t.readEntry_pose, t.readEntry_liftProfile, rfl, rfl,
      t.readEntry_length⟩, fun n range => ⟨?_, u16_of_field rfl range⟩, fun x low high => s16_of_field rfl low high⟩
  have low : BitVec.ofNat 8 (n % 256) = BitVec.ofNat 8 n := by
    apply BitVec.eq_of_toNat_eq
    rw [BitVec.toNat_ofNat, BitVec.toNat_ofNat]
    exact Nat.mod_mod n 256
  rw [low]
  rfl

end Sys2Proof.Machine
end

section
/-!
PROOFS. The upstream line (O7, O8, O9): the checks of a received frame and the gap that closes it, the frame the host
sends, and the receiver's vote over the samples of a character.
-/

namespace Sys2Proof.Machine

open Device

/-! ## The checks of R149 -/

theorem judgeFrame_of_framing {cs : List RxChar} (h : anyFraming cs = true) : judgeFrame cs = .dropForm := by
  unfold judgeFrame
  rw [if_pos h]

theorem judgeFrame_of_long {cs : List RxChar} (clean : anyFraming cs = false) (h : 474 < (valuesOf cs).length) :
    judgeFrame cs = .dropForm := by
  unfold judgeFrame
  rw [clean]
  exact (if_neg Bool.false_ne_true).trans (if_pos h)

theorem judgeFrame_of_length {cs : List RxChar} (clean : anyFraming cs = false) (short : (valuesOf cs).length ≤ 474)
    (h : (valuesOf cs).length < 5 ∨ u16 (valuesOf cs) 1 ≠ (valuesOf cs).length - 5) : judgeFrame cs = .dropForm := by
  unfold judgeFrame
  rw [clean]
  exact (if_neg Bool.false_ne_true).trans ((if_neg (Nat.not_lt.mpr short)).trans (if_pos h))

/-- The checks that come after those of structure: the CRC, then the kind, then a cycle body's length. -/
theorem judgeFrame_of_sound {cs : List RxChar} (clean : anyFraming cs = false) (short : (valuesOf cs).length ≤ 474)
    (long : 5 ≤ (valuesOf cs).length) (length : u16 (valuesOf cs) 1 = (valuesOf cs).length - 5) : judgeFrame cs =
      if !crcHolds Config.upstreamPolynomial Config.upstreamInitial (valuesOf cs) then .dropCrc
      else if byteAt (valuesOf cs) 0 = kindCycle then
        if (frameBody (valuesOf cs)).length = 88 then .cycle (frameBody (valuesOf cs)) else .dropForm
      else if byteAt (valuesOf cs) 0 = kindManagement then .management (frameBody (valuesOf cs))
      else .dropForm := by
  have structured : ¬ ((valuesOf cs).length < 5 ∨ u16 (valuesOf cs) 1 ≠ (valuesOf cs).length - 5) := by
    rintro (h | h)
    · exact absurd long (Nat.not_le.mpr h)
    · exact h length
  unfold judgeFrame
  rw [clean]
  exact (if_neg Bool.false_ne_true).trans ((if_neg (Nat.not_lt.mpr short)).trans (if_neg structured))

/-! ## The gap that closes a frame (R117, R148) -/

/-- The 320 samples before the end of a gap that lie on the line are high. -/
theorem idleEnd_high (now high g : Nat) (line : List Bool) (hh : high < 320) (h : idleEnd now high line = some g)
    (k : Nat) (from_now : now ≤ k) (inGap : g ≤ k + 320) (before : k < g) : sampleAt line (k - now) = true := by
  induction line generalizing now high with
  | nil => simp [idleEnd] at h
  | cons b line ih =>
    have later (past : now + 1 ≤ k) : sampleAt (b :: line) (k - now) = sampleAt line (k - (now + 1)) := by
      have step : k - now = (k - (now + 1)) + 1 := by omega
      rw [step]
      rfl
    rw [idleEnd] at h
    split at h
    next is_high =>
      subst is_high
      rcases Nat.eq_or_lt_of_le from_now with rfl | past
      · rw [Nat.sub_self]
        rfl
      · split at h
        · cases h
          omega
        next goes_on => exact (later past).trans (ih (now + 1) (high + 1) (by omega) h past)
    next =>
      have long := idleEnd_le (now + 1) 0 g line (by omega) h
      have past : now + 1 ≤ k := by omega
      exact (later past).trans (ih (now + 1) 0 (by omega) h past)

theorem gapEnd_high {line : List Bool} {n g : Nat} (h : gapEnd line n = some g) (k : Nat) (inGap : g ≤ k + 320)
    (before : k < g) : sampleAt line k = true := by
  have long := le_gapEnd line n g h
  have past : n ≤ k := by omega
  have high := idleEnd_high n 0 g (line.drop n) (by omega) h k past inGap before
  have there : sampleAt (line.drop n) (k - n) = sampleAt line k := by
    simp only [sampleAt, List.getD_eq_getElem?_getD, List.getElem?_drop]
    rw [Nat.add_sub_cancel' past]
  rw [← there]
  exact high

/-- A frame that is received has a character, and the gap after its last one ends where it closes. -/
theorem frameFrom_closed {line : List Bool} {closing : Option Nat} {taken : List RxChar} {cs : List Candidate}
    {f : Received} (start : closing = none ∨ taken ≠ [] ∧ ∃ n, gapEnd line n = closing)
    (h : frameFrom line closing taken cs = some f) : f.chars ≠ [] ∧ ∃ n, gapEnd line n = some f.closed := by
  have ends {closing : Option Nat} {taken : List RxChar}
      (start : closing = none ∨ taken ≠ [] ∧ ∃ n, gapEnd line n = closing)
      (h : (closing.map fun g => (⟨taken, g⟩ : Received)) = some f) :
      f.chars ≠ [] ∧ ∃ n, gapEnd line n = some f.closed := by
    obtain ⟨g, is_g, rfl⟩ := Option.map_eq_some_iff.mp h
    rcases start with none | ⟨some_char, n, gap⟩
    · rw [none] at is_g
      cases is_g
    · exact ⟨some_char, n, gap.trans is_g⟩
  induction cs generalizing closing taken with
  | nil => exact ends start h
  | cons c cs ih =>
    rw [frameFrom] at h
    split at h
    · exact ends start h
    · split at h
      · exact ih start h
      · exact ih (.inr ⟨by simp, _, rfl⟩) h

theorem frameChars_closed {run : List Bool} {cs : List RxChar} (h : frameChars run = some cs) :
    cs ≠ [] ∧ ∃ n, gapEnd run n = some run.length := by
  unfold frameChars at h
  split at h
  next f is_f =>
    split at h
    next closed =>
      cases h
      rw [← closed]
      exact frameFrom_closed (.inl rfl) is_f
    next => cases h
  next => cases h

theorem sampleAt_of_length_le {line : List Bool} {n : Nat} (h : line.length ≤ n) : sampleAt line n = true :=
  List.getD_eq_default _ _ h

/-- Settles O7: the checks are nested in their order, and what closes a frame is a gap of 320 high samples. -/
theorem receivedFrameChecksInOrder : Obligations.ReceivedFrameChecksInOrder := by
  refine ⟨fun cs => ⟨judgeFrame_of_framing, judgeFrame_of_long, judgeFrame_of_length,
    fun clean short long length => ?_⟩, fun run cs received => ?_, fun run cs s running received => ?_⟩
  · have judged := judgeFrame_of_sound clean short long length
    refine ⟨fun crc => ?_, fun crc => ?_⟩
    · have fails : crcHolds Config.upstreamPolynomial Config.upstreamInitial (valuesOf cs) = false := crc
      rw [judged, fails]
      rfl
    · have holds : crcHolds Config.upstreamPolynomial Config.upstreamInitial (valuesOf cs) = true := crc
      rw [holds] at judged
      replace judged := judged.trans (if_neg Bool.false_ne_true)
      have distinct : kindManagement ≠ kindCycle := by decide
      refine ⟨fun kind size => ?_, fun kind size => ?_, fun kind => ?_, fun notCycle notManagement => ?_⟩
      · exact judged.trans ((if_pos kind).trans (if_pos size))
      · exact judged.trans ((if_pos kind).trans (if_neg size))
      · exact judged.trans ((if_neg (fun cycle => distinct (kind.symm.trans cycle))).trans (if_pos kind))
      · exact judged.trans ((if_neg notCycle).trans (if_neg notManagement))
  · obtain ⟨some_char, n, gap⟩ := frameChars_closed received
    have long := le_gapEnd run n _ gap
    refine ⟨some_char, by omega, fun k inGap => ?_⟩
    rcases Nat.lt_or_ge k run.length with before | after
    · exact gapEnd_high gap k (by omega) before
    · exact sampleAt_of_length_le after
  · have drops (v : FrameVerdict) (judged : judgeFrame cs = v) : (frameChars run).map judgeFrame = some v := by
      rw [received, ← judged]
      rfl
    refine ⟨fun judged => ?_, fun judged => ?_⟩
    · show execFrameDropped run s = _
      unfold execFrameDropped State.whenRunning
      rw [if_pos running, drops _ judged]
      rfl
    · show execFrameDropped run s = _
      unfold execFrameDropped State.whenRunning
      rw [if_pos running, drops _ judged]
      rfl

/-! ## The frame the host sends (R148, R172) -/

theorem valuesOf_cleanChars (bs : List Byte) : valuesOf (cleanChars bs) = bs := by
  unfold valuesOf cleanChars
  rw [List.map_map]
  exact List.map_id bs

theorem anyFraming_cleanChars (bs : List Byte) : anyFraming (cleanChars bs) = false := by
  simp [anyFraming, cleanChars]

/-- The bytes of an upstream frame: kind, length, body, CRC. -/
theorem upstreamFrame_eq (kind : Byte) (body : List Byte) : ∃ c0 c1, upstreamFrame kind body
    = kind :: BitVec.ofNat 8 body.length :: BitVec.ofNat 8 (body.length / 256) :: (body ++ [c0, c1]) :=
  ⟨_, _, rfl⟩

theorem upstreamFrame_length (kind : Byte) (body : List Byte) : (upstreamFrame kind body).length = body.length + 5 := by
  obtain ⟨c0, c1, frame⟩ := upstreamFrame_eq kind body
  rw [frame]
  simp

theorem upstreamFrame_kind (kind : Byte) (body : List Byte) : byteAt (upstreamFrame kind body) 0 = kind := rfl

theorem upstreamFrame_u16 (kind : Byte) {body : List Byte} (h : body.length < 65536) :
    u16 (upstreamFrame kind body) 1 = body.length :=
  (u16_bytes16 body.length 1 _ rfl).trans (Nat.mod_eq_of_lt h)

theorem frameBody_upstreamFrame (kind : Byte) (body : List Byte) : frameBody (upstreamFrame kind body) = body := by
  obtain ⟨c0, c1, frame⟩ := upstreamFrame_eq kind body
  unfold frameBody
  rw [upstreamFrame_length, frame, show body.length + 5 - 2 = body.length + 1 + 1 + 1 by omega, List.take_succ_cons,
    List.take_succ_cons, List.take_succ_cons]
  exact List.take_left

/-- A frame of a length the part accepts passes the checks of structure and its CRC. -/
theorem judgeFrame_upstreamFrame (kind : Byte) {body : List Byte} (fits : body.length + 5 ≤ Config.longestFrame) :
    judgeFrame (cleanChars (upstreamFrame kind body)) =
      if kind = kindCycle then if body.length = 88 then .cycle body else .dropForm
      else if kind = kindManagement then .management body else .dropForm := by
  have short : body.length + 5 ≤ 474 := fits
  have length := upstreamFrame_length kind body
  have crc : crcHolds Config.upstreamPolynomial Config.upstreamInitial (upstreamFrame kind body) = true :=
    crcHolds_withCrc _ _ _
  rw [judgeFrame_of_sound (anyFraming_cleanChars _) (by rw [valuesOf_cleanChars]; omega)
    (by rw [valuesOf_cleanChars]; omega) (by rw [valuesOf_cleanChars, upstreamFrame_u16 kind (by omega)]; omega),
    valuesOf_cleanChars, crc, frameBody_upstreamFrame, upstreamFrame_kind]
  rfl

/-- A request's body is read back as the request, and it fits a frame; one lemma for each constructor stands in the
laws. -/
theorem request_readBack {i : Instr} {body : List Byte} (wf : i.wellFormed = true) (hb : requestBody i = some body) :
    managementCommand body = i ∧ body.length + 5 ≤ Config.longestFrame := by
  open Laws.RequestFrame in
  cases i with
  | malformedRequest raw => exact malformedRequest raw wf body hb
  | tableWrite tag rest => exact tableWrite tag rest wf body hb
  | tableRead tag rest => exact tableRead tag rest wf body hb
  | readState tag rest => exact readState tag rest wf body hb
  | arm tag rest => exact arm tag rest wf body hb
  | disarm tag rest => exact disarm tag rest wf body hb
  | hold tag rest => exact hold tag rest wf body hb
  | resume tag rest => exact resume tag rest wf body hb
  | sit tag rest => exact sit tag rest wf body hb
  | restart tag rest => exact restart tag rest wf body hb
  | clearFactors tag rest => exact clearFactors tag rest wf body hb
  | clearFaults tag rest => exact clearFaults tag rest wf body hb
  | ident tag rest => exact ident tag rest wf body hb
  | _ => cases hb

theorem frameCommand_frameOnLine (kind : Byte) (body : List Byte) : frameCommand (frameOnLine (upstreamFrame kind body))
    = match judgeFrame (cleanChars (upstreamFrame kind body)) with
      | .dropForm => some (.frameDropped (frameOnLine (upstreamFrame kind body)))
      | .dropCrc => some (.frameDropped (frameOnLine (upstreamFrame kind body)))
      | .cycle body => some (.cycleFrame body)
      | .management body => some (managementCommand body) := by
  have some_byte : upstreamFrame kind body ≠ [] := by
    obtain ⟨c0, c1, frame⟩ := upstreamFrame_eq kind body
    rw [frame]
    exact List.cons_ne_nil _ _
  unfold frameCommand
  rw [frameChars_frameOnLine _ some_byte, Option.map_some]
  cases judgeFrame (cleanChars (upstreamFrame kind body)) <;> rfl

/-- Settles O8: a clean line gives the frame's own bytes, which pass every check, and its body names the command. -/
theorem hostFrameIsReadBack : Obligations.HostFrameIsReadBack := by
  intro i bs wf sent
  rcases hostFrame_cases sent with ⟨body, rfl, rfl⟩ | ⟨body, is_body, rfl⟩
  · have size : body.length = 88 := of_decide_eq_true wf
    have fits : body.length + 5 ≤ Config.longestFrame := by rw [size]; decide
    rw [frameCommand_frameOnLine, judgeFrame_upstreamFrame _ fits, if_pos rfl, if_pos size]
  · obtain ⟨named, fits⟩ := request_readBack wf is_body
    rw [frameCommand_frameOnLine, judgeFrame_upstreamFrame _ fits, if_neg (by decide), if_pos rfl]
    exact congrArg some named

/-! ## The vote over the samples of a character (R118) -/

theorem majority3_iff (x : Sample3) (b : Bool) :
    majority3 x = b ↔ (x.a = b ∧ x.b = b) ∨ (x.a = b ∧ x.c = b) ∨ (x.b = b ∧ x.c = b) := by
  rcases x with ⟨_ | _, _ | _, _ | _⟩ <;> cases b <;> decide

theorem allEqual3_iff (x : Sample3) : allEqual3 x = true ↔ x.a = x.b ∧ x.b = x.c := by
  simp [allEqual3]

theorem sampleAt_append {line : List Bool} {n : Nat} (h : n < line.length) (rest : List Bool) :
    sampleAt (line ++ rest) n = sampleAt line n := by
  simp only [sampleAt, List.getD_eq_getElem?_getD, List.getElem?_append_left h]

theorem bitSamples_append {line : List Bool} {n : Nat} (h : 16 * n + 10 < line.length) (rest : List Bool) :
    bitSamples (line ++ rest) n = bitSamples line n := by
  simp only [bitSamples]
  rw [sampleAt_append (by omega), sampleAt_append (by omega), sampleAt_append (by omega)]

/-- A character reads 155 samples of its line. -/
theorem sampledChar_append {line : List Bool} (h : line.length = 160) (rest : List Bool) :
    sampledChar (line ++ rest) = sampledChar line := by
  simp only [sampledChar]
  rw [sampleAt_append (by omega), sampleAt_append (by omega), sampleAt_append (by omega)]
  iterate 9 rw [bitSamples_append (by omega)]

/-- What follows a candidate's first sample is passed over to the end of what it holds. -/
theorem huntFrom_candidate {line : List Bool} (now k : Nat) (low : sampleAt line 0 = false)
    (held : heldSamples (sampledChar line) = k + 1) (long : k + 1 < line.length) : huntFrom now 0 true line
      = ⟨now, sampledChar line⟩ :: huntFrom (now + (k + 2)) 0 (sampleAt line (k + 1)) (line.drop (k + 2)) := by
  cases line with
  | nil => cases low
  | cons b rest =>
    obtain rfl : b = false := low
    have inside : k < rest.length := by simpa using long
    rw [huntFrom_edge, held, huntFrom_held _ _ _ _ inside, show now + 1 + (k + 1) = now + (k + 2) by omega]
    rfl

/-- The samples of a character's bits after its start bit. -/
theorem charNoisy_eq_false_iff (line : List Bool) : charNoisy (sampledChar line) = false ↔
    sampleAt line 3 = false ∧ sampleAt line 5 = false ∧ sampleAt line 7 = false
    ∧ ∀ n, 1 ≤ n → n ≤ 9 → sampleAt line (16 * n + 8) = sampleAt line (16 * n + 9)
        ∧ sampleAt line (16 * n + 9) = sampleAt line (16 * n + 10) := by
  have bits : (∀ n, 1 ≤ n → n ≤ 9 → allEqual3 (bitSamples line n) = true) ↔
      (allEqual3 (bitSamples line 1) && allEqual3 (bitSamples line 2) && allEqual3 (bitSamples line 3)
        && allEqual3 (bitSamples line 4) && allEqual3 (bitSamples line 5) && allEqual3 (bitSamples line 6)
        && allEqual3 (bitSamples line 7) && allEqual3 (bitSamples line 8) && allEqual3 (bitSamples line 9)) = true := by
    simp only [Bool.and_eq_true]
    constructor
    · intro h
      exact ⟨⟨⟨⟨⟨⟨⟨⟨h 1 (by omega) (by omega), h 2 (by omega) (by omega)⟩, h 3 (by omega) (by omega)⟩,
        h 4 (by omega) (by omega)⟩, h 5 (by omega) (by omega)⟩, h 6 (by omega) (by omega)⟩, h 7 (by omega) (by omega)⟩,
        h 8 (by omega) (by omega)⟩, h 9 (by omega) (by omega)⟩
    · rintro ⟨⟨⟨⟨⟨⟨⟨⟨h1, h2⟩, h3⟩, h4⟩, h5⟩, h6⟩, h7⟩, h8⟩, h9⟩ n low high
      interval_cases n
      all_goals assumption
  have equal : (∀ n, 1 ≤ n → n ≤ 9 → allEqual3 (bitSamples line n) = true) ↔
      ∀ n, 1 ≤ n → n ≤ 9 → sampleAt line (16 * n + 8) = sampleAt line (16 * n + 9)
        ∧ sampleAt line (16 * n + 9) = sampleAt line (16 * n + 10) :=
    forall_congr' fun n => imp_congr_right fun _ => imp_congr_right fun _ => allEqual3_iff (bitSamples line n)
  rw [← equal, bits]
  simp [charNoisy, sampledChar, and_assoc]

/-- Settles O9: a candidate is taken or passed over by its start bit alone, and each bit is the vote of its samples. -/
theorem singleSampleNoiseIsOutvoted : Obligations.SingleSampleNoiseIsOutvoted := by
  refine ⟨fun b line rest now size low start => ?_, fun line rest now size low start => ?_,
    fun before b line now quiet => ?_, majority3_iff⟩
  · intro vote voted c
    have sampled : c = sampledChar line := sampledChar_append size rest
    have accepted : startAccepted (sampledChar line).start = true := by
      show (!majority3 ⟨sampleAt line 3, sampleAt line 5, sampleAt line 7⟩) = true
      rw [start]
      rfl
    have held : heldSamples (sampledChar (line ++ rest)) = 153 + 1 := by
      rw [sampledChar_append size]
      unfold heldSamples
      rw [if_pos accepted]
    have byte : byteOfBits ((sampledChar line).data.toList.map majority3) = b := by
      rw [← byteOfBits_dataBits b]
      refine congrArg byteOfBits ?_
      have votes : (List.finRange 8).map (fun i : Fin 8 => vote (i.val + 1))
          = (List.finRange 8).map fun i : Fin 8 => b.getLsbD i.val :=
        List.map_congr_left fun i _ => voted i
      exact votes
    refine ⟨?_, charNoisy (sampledChar line), ?_, charNoisy_eq_false_iff line⟩
    · rw [huntFrom_candidate now 153 (by rw [sampleAt_append (by omega)]; exact low) held
        (by rw [List.length_append]; omega), sampleAt_append (by omega), List.drop_append_of_le_length (by omega)]
    · rw [sampled]
      unfold receiveChar
      rw [if_pos accepted, byte]
      rfl
  · have same (n : Nat) (h : n < 8) : sampleAt (line ++ rest) n = sampleAt line n := sampleAt_append (by omega) rest
    have refused : startAccepted (sampledChar (line ++ rest)).start = false := by
      show (!majority3 ⟨sampleAt (line ++ rest) 3, sampleAt (line ++ rest) 5, sampleAt (line ++ rest) 7⟩) = false
      rw [same 3 (by omega), same 5 (by omega), same 7 (by omega), start]
      rfl
    refine ⟨?_, ?_⟩
    · unfold receiveChar
      rw [refused]
      rfl
    · have held : heldSamples (sampledChar (line ++ rest)) = 6 + 1 := by
        unfold heldSamples
        rw [refused]
        rfl
      rw [huntFrom_candidate now 6 (by rw [same 0 (by omega)]; exact low) held (by rw [List.length_append]; omega),
        same 7 (by omega), List.drop_left' (by omega)]
  · rw [huntFrom]
    refine if_neg ?_
    rcases quiet with rfl | rfl
    · simp
    · simp

end Sys2Proof.Machine
end

section
/-!
PROOFS. The mode requests of the host (O32 to O35): ARM and what refuses it, DISARM and SIT.
-/

namespace Sys2Proof.Machine

namespace Device

/-! ## The validations and the obstacles of ARM (R98) -/

theorem armJudgements_gaitAt (d : Device) (g : Fin 8) : d.armJudgements.tbs.gaitAt g
    = { d.tbs.gaitAt g with valid := (d.tbs.gaitAt g).record.isValid } :=
  d.tbs.judgeGaits_gaitAt g

theorem armJudgements_gaitEntry (d : Device) :
    d.armJudgements.gaitEntry = { d.gaitEntry with valid := d.gaitRecord.isValid } :=
  d.armJudgements_gaitAt d.gpe.current

theorem armJudgements_gaitRecord (d : Device) : d.armJudgements.gaitRecord = d.gaitRecord :=
  (congrArg GaitEntry.record d.armJudgements_gaitEntry).trans rfl

theorem armJudgements_gaitValid (d : Device) : d.armJudgements.gaitEntry.valid = d.gaitRecord.isValid :=
  congrArg GaitEntry.valid d.armJudgements_gaitEntry

theorem armJudgements_poseValid (d : Device) : d.armJudgements.tbs.poseValid = true ↔
    ∀ l, (d.tbs.pose.get l).isValid (d.tbs.joint.get l) = true := by
  show (TableStore.firstInvalidPose _).isNone = true ↔ _
  rw [Option.isNone_iff_eq_none, TableStore.firstInvalidPose, find?_eq_none_iff_forall Leg.mem_all]
  simp only [Bool.not_eq_true', Bool.not_eq_false]
  rfl

theorem armJudgements_liftValid (d : Device) :
    d.armJudgements.tbs.liftValid = true ↔ peakBreak d.tbs.liftProfile = none :=
  Option.isNone_iff_eq_none

/-- The nodes are all live and without an unmasked fault: ARM goes on to the tables (R98). -/
def nodesFit (d : Device) : Prop := (∀ n, (d.node n).live = true) ∧ ∀ n, (d.unmasked n).any = false

theorem find?_dead_eq_none {d : Device} (live : ∀ n, (d.node n).live = true) :
    Node.all.find? (fun n => !(d.node n).live) = none :=
  (find?_eq_none_iff_forall Node.mem_all _).mpr fun n => by simp [live n]

theorem find?_faulty_eq_none {d : Device} (sound : ∀ n, (d.unmasked n).any = false) :
    Node.all.find? (fun n => (d.unmasked n).any) = none :=
  (find?_eq_none_iff_forall Node.mem_all _).mpr fun n => by simp [sound n]

theorem armObstacle_of_dead {d : Device} {n : Node} (dead : (d.node n).live = false)
    (least : ∀ m : Node, m.number < n.number → (d.node m).live = true) : d.armObstacle = some (.nodes, n.number) := by
  have found : Node.all.find? (fun n => !(d.node n).live) = some n :=
    (find?_eq_some_iff_least Node.number Node.mem_all Node.all_sorted _ n).mpr
      ⟨by simp [dead], fun m lt => by simp [least m lt]⟩
  unfold armObstacle
  rw [found]

theorem armObstacle_of_faulty {d : Device} {n : Node} (live : ∀ n, (d.node n).live = true)
    (faulty : (d.unmasked n).any = true) (least : ∀ m : Node, m.number < n.number → (d.unmasked m).any = false) :
    d.armObstacle = some (.faults, n.number) := by
  have found : Node.all.find? (fun n => (d.unmasked n).any) = some n :=
    (find?_eq_some_iff_least Node.number Node.mem_all Node.all_sorted _ n).mpr
      ⟨faulty, fun m lt => by simp [least m lt]⟩
  unfold armObstacle
  rw [find?_dead_eq_none live, found]

/-- With fit nodes the obstacle is the first table whose flag is clear. -/
theorem armObstacle_of_nodesFit {d : Device} (fit : d.nodesFit) : d.armObstacle =
    if !d.gaitEntry.valid then some (.gait, d.gpe.current.val)
    else if !d.tbs.jointValid then some (.joint, (d.tbs.firstInvalidJoint.map Joint.number).getD 0)
    else if !d.tbs.poseValid then some (.pose, (d.tbs.firstInvalidPose.map Leg.number).getD 0)
    else if !d.tbs.liftValid then some (.liftProfile, (peakBreak d.tbs.liftProfile).getD 0)
    else none := by
  unfold armObstacle
  rw [find?_dead_eq_none fit.1, find?_faulty_eq_none fit.2]

theorem armObstacle_of_gait {d : Device} (fit : d.nodesFit) (invalid : ¬ d.gaitRecord.isValid = true) :
    d.armJudgements.armObstacle = some (.gait, d.gpe.current.val) := by
  rw [armObstacle_of_nodesFit (d := d.armJudgements) fit, if_pos (by simpa [armJudgements_gaitValid] using invalid)]
  rfl

theorem armObstacle_of_joint {d : Device} (fit : d.nodesFit) (gait : d.gaitRecord.isValid = true)
    (invalid : ¬ d.tbs.jointValid = true) {j : Joint} (fails : (d.tbs.jointAt j).isValid = false)
    (least : ∀ k : Joint, k.number < j.number → (d.tbs.jointAt k).isValid = true) :
    d.armJudgements.armObstacle = some (.joint, j.number) := by
  have found : d.armJudgements.tbs.firstInvalidJoint = some j :=
    (find?_eq_some_iff_least Joint.number Joint.mem_all Joint.all_sorted _ j).mpr
      ⟨(congrArg Bool.not fails).trans rfl, fun k lt => by
        show ¬ (!(d.tbs.jointAt k).isValid) = true
        simp [least k lt]⟩
  have flag : (!d.armJudgements.tbs.jointValid) = true := by
    show (!d.tbs.jointValid) = true
    simpa using invalid
  rw [armObstacle_of_nodesFit (d := d.armJudgements) fit, if_neg (by simp [armJudgements_gaitValid, gait]),
    if_pos flag, found]
  rfl

theorem armObstacle_of_pose {d : Device} (fit : d.nodesFit) (gait : d.gaitRecord.isValid = true)
    (joints : d.tbs.jointValid = true) {l : Leg} (fails : (d.tbs.pose.get l).isValid (d.tbs.joint.get l) = false)
    (least : ∀ m : Leg, m.number < l.number → (d.tbs.pose.get m).isValid (d.tbs.joint.get m) = true) :
    d.armJudgements.armObstacle = some (.pose, l.number) := by
  have found : d.armJudgements.tbs.firstInvalidPose = some l :=
    (find?_eq_some_iff_least Leg.number Leg.mem_all Leg.all_sorted _ l).mpr
      ⟨(congrArg Bool.not fails).trans rfl, fun m lt => by
        show ¬ (!(d.tbs.pose.get m).isValid (d.tbs.joint.get m)) = true
        simp [least m lt]⟩
  have flag : ¬ d.armJudgements.tbs.poseValid = true := by
    rw [armJudgements_poseValid]
    intro valid
    simp [valid l] at fails
  have passed : ¬ (!d.armJudgements.tbs.jointValid) = true := by
    show ¬ (!d.tbs.jointValid) = true
    simp [joints]
  rw [armObstacle_of_nodesFit (d := d.armJudgements) fit, if_neg (by simp [armJudgements_gaitValid, gait]),
    if_neg passed, if_pos (by simpa using flag), found]
  rfl

/-- The obstacle that the lift profile makes, or none, when all before it holds. -/
theorem armObstacle_of_posed {d : Device} (fit : d.nodesFit) (gait : d.gaitRecord.isValid = true)
    (joints : d.tbs.jointValid = true)
    (posed : ∀ l, (d.tbs.pose.get l).isValid (d.tbs.joint.get l) = true) :
    d.armJudgements.armObstacle = (peakBreak d.tbs.liftProfile).map fun k => (.liftProfile, k) := by
  have passed : ¬ (!d.armJudgements.tbs.jointValid) = true := by
    show ¬ (!d.tbs.jointValid) = true
    simp [joints]
  rw [armObstacle_of_nodesFit (d := d.armJudgements) fit, if_neg (by simp [armJudgements_gaitValid, gait]),
    if_neg passed, if_neg (by simp [armJudgements_poseValid, posed])]
  show (if !(peakBreak d.tbs.liftProfile).isNone then some (Item.liftProfile, (peakBreak d.tbs.liftProfile).getD 0)
    else none) = _
  cases peakBreak d.tbs.liftProfile <;> rfl

theorem arm_of_obstacle {d : Device} (unarmed : d.mhu.mode = .unarmed) {item : Item} {entry : Nat}
    (found : d.armJudgements.armObstacle = some (item, entry)) :
    d.arm = (.refusedInvalid item entry, d.armJudgements) := by
  unfold arm
  rw [if_neg (not_not.mpr unarmed), found]

theorem arm_of_fit {d : Device} (unarmed : d.mhu.mode = .unarmed) (found : d.armJudgements.armObstacle = none) :
    d.arm = (.done [], d.armJudgements.enterArmed) := by
  unfold arm
  rw [if_neg (not_not.mpr unarmed), found]

end Device

theorem exec_arm (tag : Byte) (s : State) : exec (.arm tag []) s = s.manage kindControl tag Device.arm := rfl

theorem exec_arm_of_obstacle {s : State} (tag : Byte) (ready : s.dev.ready = true)
    (unarmed : s.dev.mhu.mode = .unarmed) {item : Item} {entry : Nat}
    (found : s.dev.armJudgements.armObstacle = some (item, entry)) :
    exec (.arm tag []) s = .next (s.withDev (s.dev.armJudgements.withPort
      (s.dev.portReplied 3 tag (.refusedInvalid item entry)))) := by
  have refused := Device.arm_of_obstacle unarmed found
  rw [exec_arm, State.manage_of_ready s kindControl tag Device.arm ready (by rw [refused]; rfl), refused]
  rfl

theorem exec_arm_of_fit {s : State} (tag : Byte) (ready : s.dev.ready = true)
    (unarmed : s.dev.mhu.mode = .unarmed) (found : s.dev.armJudgements.armObstacle = none) :
    exec (.arm tag []) s
      = .next (s.withDev (s.dev.armJudgements.enterArmed.withPort (s.dev.portReplied 3 tag (.done [])))) := by
  have armed := Device.arm_of_fit unarmed found
  rw [exec_arm, State.manage_of_ready s kindControl tag Device.arm ready (by rw [armed]; rfl), armed]
  rfl

/-- Settles O32: nothing obstructs the ARM, and entering STAND writes the mode, the legs and the phase alone. -/
theorem armEntersStand : Obligations.ArmEntersStand := by
  intro tag s ready unarmed live sound gait joints posed peak
  have clear : s.dev.armJudgements.armObstacle = none := by
    rw [Device.armObstacle_of_posed ⟨live, sound⟩ gait joints posed, peak]
    rfl
  refine ⟨_, exec_arm_of_fit tag ready unarmed clear, rfl, rfl, fun l => ?_, ?_, rfl, ?_, fun f other => ?_,
    s.dev.armJudgements_gaitAt, s.dev.armJudgements_poseValid.mpr posed, s.dev.armJudgements_liftValid.mpr peak,
    rfl, rfl, rfl, rfl, rfl⟩
  · exact Device.mapLegs_leg _ _ l
  · exact congrArg GaitRecord.e s.dev.armJudgements_gaitRecord
  · exact Device.raise_factor_self .modeChanged _
  · exact Device.raise_factor_ne _ other

/-! ## The unmasked faults of a node (R141) -/

theorem Device.unmasked_foot (d : Device) {n : Node} (foot : n.slot = .foot) : d.unmasked n = (d.node n).latched := by
  rcases n with ⟨l, x⟩
  obtain rfl : x = .foot := foot
  show FaultSet.diff _ noFaults = _
  simp [FaultSet.diff, FaultSet.zip, noFaults]

theorem Device.maskOf_drive (d : Device) {n : Node} {i : JointIx} (drive : n.slot = i.slot) :
    d.maskOf n = { (d.tbs.jointAt ⟨n.leg, i⟩).faultMask with nodeLost := false } := by
  have joint : n.slot.joint = some i := by
    rw [drive]
    cases i <;> rfl
  unfold maskOf
  rw [joint]

theorem FaultSet.any_iff (f : FaultSet) : f.any = true ↔ f.overcurrent = true ∨ f.openPhase = true ∨ f.encoder = true
    ∨ f.overtemp = true ∨ f.undervolt = true ∨ f.nodeLost = true ∨ f.sensorFault = true := by
  simp [any, or_assoc]

/-- Settles O33: the obstacles in the order of R98, each found as the first that fails; the validations alone are
written. -/
theorem armRefusedNamesFirstObstacle : Obligations.ArmRefusedNamesFirstObstacle := by
  refine ⟨fun tag s ready => ⟨fun armed => ?_, fun unarmed => ?_⟩, fun d n => ⟨d.unmasked_foot, fun i drive => ?_⟩,
    FaultSet.any_iff⟩
  · have refused : s.dev.arm = (.refusedMode, s.dev) := if_pos armed
    rw [exec_arm, State.manage_of_same s kindControl tag Device.arm ready (by rw [refused]), refused]
    rfl
  · intro refused live sound gait joints posed
    have obstacle {item : Item} {entry : Nat}
        (found : s.dev.armJudgements.armObstacle = some (item, entry)) : refused item entry :=
      ⟨_, exec_arm_of_obstacle tag ready unarmed found, rfl, rfl, rfl, rfl, s.dev.armJudgements_gaitAt,
        s.dev.armJudgements_poseValid, s.dev.armJudgements_liftValid, rfl, rfl⟩
    refine ⟨fun n dead least => obstacle ?_, fun l n faulty least => obstacle ?_, fun l f invalid => obstacle ?_,
      fun l f valid invalid j fails least => obstacle ?_, fun l f valid js leg fails least => obstacle ?_,
      fun l f valid js ps k broken => obstacle ?_⟩
    · exact Device.armObstacle_of_dead (d := s.dev.armJudgements) dead least
    · exact Device.armObstacle_of_faulty (d := s.dev.armJudgements) l faulty least
    · exact Device.armObstacle_of_gait ⟨l, f⟩ invalid
    · exact Device.armObstacle_of_joint ⟨l, f⟩ valid invalid fails least
    · exact Device.armObstacle_of_pose ⟨l, f⟩ valid js fails least
    · rw [Device.armObstacle_of_posed ⟨l, f⟩ valid js ps, broken]
      rfl
  · intro m
    show FaultSet.diff _ (d.maskOf n) = _
    rw [d.maskOf_drive drive]
    simp [FaultSet.diff, FaultSet.zip, m]

/-! ## DISARM (R99) -/

/-- The cut of a link, by what it transmits (R125). -/
theorem Device.cutAt_cases (free : Nat) (k : LinkController) :
    (∀ t, k.abandoned = some t → cutAt free k = some t)
    ∧ (k.abandoned = none →
        (k.state = .lowBreak → ∃ t, t < 14 ∧ cutAt free k = some t)
        ∧ (k.state = .sending → ∃ t, 14 ≤ t ∧ t < 194 ∧ cutAt free k = some t)
        ∧ (k.state ≠ .lowBreak → k.state ≠ .sending → cutAt free k = none)) := by
  unfold cutAt
  refine ⟨fun t cut => by rw [cut], fun whole => ?_⟩
  rw [whole]
  refine ⟨fun low => ⟨free % 14, Nat.mod_lt _ (by omega), if_pos low⟩, fun sending => ?_, fun low sending => ?_⟩
  · have lt : free % 180 < 180 := Nat.mod_lt _ (by omega)
    exact ⟨14 + free % 180, by omega, by omega, by rw [sending]; rfl⟩
  · show (if k.state = .lowBreak then _ else _) = none
    rw [if_neg low, if_neg sending]

/-- In UNARMED a composition engages no drive and gives no stiffness (R75, R83). -/
theorem Device.composeJoint_of_unarmed {d : Device} (unarmed : d.mhu.mode = .unarmed) (j : Joint) :
    (d.composeJoint j).entry.engage = false ∧ (d.composeJoint j).entry.stiffness = 0 := by
  have noInput : d.inputStiffness j = 0 := by
    unfold inputStiffness
    rw [unarmed]
  unfold composeJoint
  split
  next => exact ⟨rfl, rfl⟩
  next last _ =>
    refine ⟨?_, ?_⟩
    · simp [composeKnown, unarmed]
    · simp [composeKnown, noInput, stiffnessOf]

/-- A DISARM that is accepted (R99). -/
def Device.disarmed (d : Device) : Device :=
  (({ d with mhu := { d.mhu with mode := .unarmed, sit := none, stack := [] } } : Device).unsetLegs.cutLinks).raise
    .modeChanged

theorem exec_disarm (tag : Byte) (s : State) :
    exec (.disarm tag []) s = s.manage kindControl tag Device.disarm := rfl

/-- Settles O34: DISARM in STAND, HOLD and SAFE_SIT, with the cut of every link, and its refusal. -/
theorem disarmReleasesEveryLeg : Obligations.DisarmReleasesEveryLeg := by
  intro tag s ready
  refine ⟨fun mode => ?_, fun mode => ?_⟩
  · have up : ¬ (s.dev.mhu.mode = .unarmed ∨ s.dev.mhu.mode = .walk) := by
      rcases mode with h | h | h <;> simp [h]
    have done : s.dev.disarm = (.done [], s.dev.disarmed) := if_neg up
    have ran : exec (.disarm tag []) s
        = .next (s.withDev (s.dev.disarmed.withPort (s.dev.portReplied 3 tag (.done [])))) := by
      rw [exec_disarm, State.manage_of_ready s kindControl tag Device.disarm ready (by rw [done]; rfl), done]
      rfl
    refine ⟨_, ran, rfl, rfl, Device.unsetLegs_leg _, rfl, rfl, rfl,
      fun l => ⟨_, Device.cutLinks_link _ l, Device.cutAt_cases _ (s.dev.link l)⟩, ?_, fun f other => ?_, rfl, rfl, rfl,
      rfl, rfl, Device.composeJoint_of_unarmed rfl⟩
    · exact Device.raise_factor_self .modeChanged _
    · exact Device.raise_factor_ne _ other
  · have refused : s.dev.disarm = (.refusedMode, s.dev) := if_pos mode
    rw [exec_disarm, State.manage_of_same s kindControl tag Device.disarm ready (by rw [refused]), refused]
    rfl

/-! ## SIT (R100, R101) -/

theorem Device.loweringComplete_iff (d : Device) :
    d.loweringComplete = true ↔ ∀ l, d.lastPose l = some (d.tbs.pose.get l).sit := by
  simp only [loweringComplete, Leg.all_iff, reached, decide_eq_true_eq]

theorem exec_sit (tag : Byte) (s : State) : exec (.sit tag []) s = s.manage kindControl tag Device.hostSit := rfl

/-- Settles O35: an accepted SIT is the sit demand of R100. -/
theorem sitEntersSafeSit : Obligations.SitEntersSafeSit := by
  intro tag s ready
  refine ⟨fun mode => ?_, s.dev.loweringComplete_iff, fun mode => ?_⟩
  · have done : s.dev.hostSit = (.done [], s.dev.sitDemand) := if_neg (Mode.not_down_of_up mode)
    have ran : exec (.sit tag []) s
        = .next (s.withDev (s.dev.sitDemand.withPort (s.dev.portReplied 3 tag (.done [])))) := by
      rw [exec_sit, State.manage_of_ready s kindControl tag Device.hostSit ready (by rw [done]; simp), done]
      rfl
    rw [s.dev.sitDemand_of_up mode] at ran
    refine ⟨_, ran, rfl, rfl, Device.unsetLegs_leg _, rfl, rfl, rfl, ?_, fun f other => ?_, rfl, rfl, rfl, rfl, rfl, rfl⟩
    · exact Device.raise_factor_self .modeChanged _
    · exact Device.raise_factor_ne _ other
  · have refused : s.dev.hostSit = (.refusedMode, s.dev) := if_pos mode
    rw [exec_sit, State.manage_of_same s kindControl tag Device.hostSit ready (by rw [refused]), refused]
    rfl

end Sys2Proof.Machine
end

section
/-!
PROOFS. The hold stack (O37 to O39) and the host's silence (O14): what a push request comes to, what RESUME pops, how
HOLD is left, and the request that the silence makes.
-/

namespace Sys2Proof.Machine

namespace Device

/-! ## What a request raises and notes before it is judged (R104) -/

/-- The device once a request has raised its factor and, for LINK_SILENT, restarted the count of frames. -/
def noted (q : PushRequest) (d : Device) : Device :=
  (match q.factor with | some f => d.raise f | none => d).noteSilence q

theorem request_eq_judgePush (q : PushRequest) (d : Device) : d.request q = (d.noted q).judgePush q.hold := rfl

theorem noteSilence_eq (q : PushRequest) (d : Device) : d.noteSilence q = { d with mhu := { d.mhu with
    framesSinceSilence := if q = .linkSilent then 0 else d.mhu.framesSinceSilence } } := by
  unfold noteSilence
  split
  · rfl
  · rfl

theorem noteSilence_factor (q : PushRequest) (d : Device) (f : Factor) : (d.noteSilence q).factor f = d.factor f := by
  rw [noteSilence_eq]
  rfl

theorem noted_of_factor {q : PushRequest} {f : Factor} (named : q.factor = some f) (d : Device) :
    d.noted q = (d.raise f).noteSilence q := by
  unfold noted
  rw [named]

theorem noted_of_none {q : PushRequest} (named : q.factor = none) (d : Device) : d.noted q = d.noteSilence q := by
  unfold noted
  rw [named]

theorem noted_frame (q : PushRequest) (d : Device) : d.noted q = { d with
    mhu := { d.mhu with framesSinceSilence := if q = .linkSilent then 0 else d.mhu.framesSinceSilence }
    eeu := (d.noted q).eeu } := by
  cases named : q.factor with
  | none => rw [noted_of_none named, noteSilence_eq]
  | some f =>
    rw [noted_of_factor named, noteSilence_eq]
    rfl

theorem noted_gpe (q : PushRequest) (d : Device) : (d.noted q).gpe = d.gpe := by rw [noted_frame]

theorem noted_mhu (q : PushRequest) (d : Device) : (d.noted q).mhu =
    { d.mhu with framesSinceSilence := if q = .linkSilent then 0 else d.mhu.framesSinceSilence } := by
  rw [noted_frame]

theorem noted_mode (q : PushRequest) (d : Device) : (d.noted q).mhu.mode = d.mhu.mode := by rw [noted_mhu]

theorem noted_stack (q : PushRequest) (d : Device) : (d.noted q).mhu.stack = d.mhu.stack := by rw [noted_mhu]

theorem noted_leg (q : PushRequest) (d : Device) (l : Leg) : (d.noted q).leg l = d.leg l := by
  unfold leg
  rw [noted_gpe]

theorem noted_factor_self {q : PushRequest} {f : Factor} (named : q.factor = some f) (d : Device) :
    (d.noted q).factor f = d.raisedOnce f := by
  rw [noted_of_factor named, noteSilence_factor]
  exact raise_factor_self f d

theorem noted_factor_ne {q : PushRequest} {f : Factor} (other : q.factor ≠ some f) (d : Device) :
    (d.noted q).factor f = d.factor f := by
  cases named : q.factor with
  | none => rw [noted_of_none named, noteSilence_factor]
  | some g =>
    rw [noted_of_factor named, noteSilence_factor]
    exact raise_factor_ne d fun same => other (by rw [named, same])

theorem noted_holdRecord (q : PushRequest) (h : Hold) (d : Device) : (d.noted q).holdRecord h = d.holdRecord h := by
  rw [noted_frame]
  rfl

theorem noted_loweringComplete (q : PushRequest) (d : Device) : (d.noted q).loweringComplete = d.loweringComplete := by
  rw [noted_frame]
  rfl

/-! ## The judgement of a request (R105, R106) -/

theorem any_hold_iff (rs : List HoldRecord) (h : Hold) :
    rs.any (fun r => r.hold = h) = true ↔ ∃ r ∈ rs, r.hold = h := by
  simp

/-- A request in UNARMED or SAFE_SIT, or for a hold on the stack, is only noted. -/
theorem request_of_quiet {q : PushRequest} {d : Device}
    (quiet : (d.mhu.mode = .unarmed ∨ d.mhu.mode = .safeSit) ∨ ∃ r ∈ d.mhu.stack, r.hold = q.hold) :
    d.request q = d.noted q := by
  rw [request_eq_judgePush]
  rcases quiet with down | same
  · exact judgePush_of_down q.hold _ (by rwa [noted_mode])
  · exact judgePush_of_same q.hold _ (by rw [noted_stack]; exact (any_hold_iff _ _).mpr same)

theorem request_of_room {q : PushRequest} {d : Device} (up : ¬ (d.mhu.mode = .unarmed ∨ d.mhu.mode = .safeSit))
    (fresh : ¬ ∃ r ∈ d.mhu.stack, r.hold = q.hold) (room : d.mhu.stack.length < 4) :
    d.request q = (d.noted q).pushRecord q.hold := by
  rw [request_eq_judgePush]
  refine judgePush_of_room q.hold _ (by rwa [noted_mode]) ?_ (by rwa [noted_stack])
  rw [noted_stack, ← Bool.not_eq_true, any_hold_iff]
  exact fresh

theorem request_of_full {q : PushRequest} {d : Device} (up : ¬ (d.mhu.mode = .unarmed ∨ d.mhu.mode = .safeSit))
    (fresh : ¬ ∃ r ∈ d.mhu.stack, r.hold = q.hold) (full : 4 ≤ d.mhu.stack.length) :
    d.request q
      = (raise .holdOverflow { d.noted q with mhu := { (d.noted q).mhu with stack := [] } }).sitDemand := by
  rw [request_eq_judgePush]
  refine judgePush_of_full q.hold _ (by rwa [noted_mode]) ?_ (by rwa [noted_stack])
  rw [noted_stack, ← Bool.not_eq_true, any_hold_iff]
  exact fresh

theorem pushRecord_of_hold {d : Device} (hold : d.mhu.mode = .hold) (h : Hold) :
    d.pushRecord h = { d with mhu := { d.mhu with stack := d.mhu.stack ++ [d.holdRecord h] } } := if_pos hold

theorem pushRecord_of_not_hold {d : Device} (other : d.mhu.mode ≠ .hold) (h : Hold) : d.pushRecord h =
    (((setMode .hold { d with mhu := { d.mhu with stack := d.mhu.stack ++ [d.holdRecord h] } }).mapLegs
      (heldLeg h))).raise .modeChanged := if_neg other

theorem pushRecord_sit (h : Hold) (d : Device) : (d.pushRecord h).mhu.sit = d.mhu.sit := by
  unfold pushRecord
  split
  · rfl
  · rfl

theorem pushRecord_factor_of_hold {d : Device} (hold : d.mhu.mode = .hold) (h : Hold) (f : Factor) :
    (d.pushRecord h).factor f = d.factor f := by
  rw [pushRecord_of_hold hold]
  rfl

theorem pushRecord_factor_of_not_hold {d : Device} (other : d.mhu.mode ≠ .hold) (h : Hold) (f : Factor) :
    (d.pushRecord h).factor f = if f = .modeChanged then d.raisedOnce .modeChanged else d.factor f := by
  rw [pushRecord_of_not_hold other, raise_factor]
  rfl

/-- The names of the factors of R104 are those of the request. -/
theorem PushRequest.factor_ne_pushFactors (q : PushRequest) :
    q.factor ≠ some .modeChanged ∧ q.factor ≠ some .holdOverflow := by
  cases q with
  | node n why => cases why <;> simp [PushRequest.factor, NodeReason.factor]
  | _ => simp [PushRequest.factor]

theorem PushRequest.hold_eq_noGround_iff (q : PushRequest) (l : Leg) : q.hold = .noGround l ↔ q = .noGround l := by
  cases q <;> simp [PushRequest.hold]

theorem heldLeg_of_request (q : PushRequest) (l : Leg) (r : LegRecord) : heldLeg q.hold l r = (match r.state with
    | .swing => { r with state := .setDown, progress := none }
    | .landing => { r with state := if q = .noGround l then .hang else .setDown, progress := none }
    | _ => r) := by
  unfold heldLeg
  simp only [PushRequest.hold_eq_noGround_iff] <;> rfl

/-- A request that finds room: the record on top, and from STAND and WALK the legs converted (R105, R106). -/
theorem request_pushes {q : PushRequest} {d : Device} (up : ¬ (d.mhu.mode = .unarmed ∨ d.mhu.mode = .safeSit))
    (fresh : ¬ ∃ r ∈ d.mhu.stack, r.hold = q.hold) (room : d.mhu.stack.length < 4) :
    (d.request q).mhu.mode = .hold ∧ (d.request q).mhu.sit = d.mhu.sit
    ∧ (d.request q).mhu.stack = d.mhu.stack ++ [d.holdRecord q.hold]
    ∧ (d.request q).gpe.phase = d.gpe.phase ∧ (d.request q).gpe.current = d.gpe.current
    ∧ (d.request q).gpe.waiting = d.gpe.waiting
    ∧ (d.mhu.mode = .hold → (d.request q).gpe = d.gpe ∧ ∀ f, (d.request q).factor f = (d.noted q).factor f)
    ∧ (d.mhu.mode ≠ .hold → (∀ l, (d.request q).leg l = heldLeg q.hold l (d.leg l))
        ∧ ∀ f, (d.request q).factor f = if f = .modeChanged then d.raisedOnce f else (d.noted q).factor f) := by
  rw [request_of_room up fresh room]
  refine ⟨pushRecord_mode _ _, ?_, ?_, ?_, ?_, ?_, fun hold => ⟨?_, fun f => ?_⟩, fun other => ⟨fun l => ?_, fun f => ?_⟩⟩
  · rw [pushRecord_sit, noted_mhu]
  · rw [pushRecord_stack, noted_stack, noted_holdRecord]
  · rw [pushRecord_phase, noted_gpe]
  · rw [pushRecord_current, noted_gpe]
  · rw [pushRecord_waiting, noted_gpe]
  · rw [pushRecord_of_hold (by rwa [noted_mode])]
    exact noted_gpe q d
  · exact pushRecord_factor_of_hold (by rwa [noted_mode]) _ f
  · rw [pushRecord_leg, noted_mode, if_neg other, noted_leg]
  · rw [pushRecord_factor_of_not_hold (by rwa [noted_mode])]
    split
    next changed =>
      unfold raisedOnce
      rw [changed, noted_factor_ne (PushRequest.factor_ne_pushFactors q).1]
    next => rfl

/-- A request that finds the stack full: the sit demand (R100, R105). -/
theorem request_overflows {q : PushRequest} {d : Device} (up : ¬ (d.mhu.mode = .unarmed ∨ d.mhu.mode = .safeSit))
    (fresh : ¬ ∃ r ∈ d.mhu.stack, r.hold = q.hold) (full : 4 ≤ d.mhu.stack.length) :
    (d.request q).mhu.mode = .safeSit ∧ (d.request q).mhu.stack = []
    ∧ (d.request q).mhu.sit = some (if d.loweringComplete then .seated else .lowering)
    ∧ (∀ l, (d.request q).leg l = unsetLeg)
    ∧ (d.request q).gpe.phase = 0 ∧ (d.request q).gpe.waiting = none ∧ (d.request q).gpe.current = d.gpe.current
    ∧ (d.request q).factor .holdOverflow = d.raisedOnce .holdOverflow
    ∧ (d.request q).factor .modeChanged = d.raisedOnce .modeChanged
    ∧ ∀ f, f ≠ .holdOverflow → f ≠ .modeChanged → (d.request q).factor f = (d.noted q).factor f := by
  obtain ⟨a, emptied⟩ : ∃ a : Device,
      a = raise .holdOverflow { d.noted q with mhu := { (d.noted q).mhu with stack := [] } } := ⟨_, rfl⟩
  have standing : a.mhu.mode = .stand ∨ a.mhu.mode = .walk ∨ a.mhu.mode = .hold := by
    have mode : a.mhu.mode = d.mhu.mode := by
      rw [emptied]
      exact noted_mode q d
    rw [mode]
    cases h : d.mhu.mode <;> simp_all
  have lowering : a.loweringComplete = d.loweringComplete := by
    rw [emptied]
    exact noted_loweringComplete q d
  have current : a.gpe.current = d.gpe.current := by
    rw [emptied]
    exact congrArg GaitEngine.current (noted_gpe q d)
  have factors (f : Factor) :
      a.factor f = if f = .holdOverflow then d.raisedOnce .holdOverflow else (d.noted q).factor f := by
    rw [emptied, raise_factor]
    show (if f = .holdOverflow then (d.noted q).raisedOnce .holdOverflow else _) = _
    unfold raisedOnce
    rw [noted_factor_ne (PushRequest.factor_ne_pushFactors q).2]
    rfl
  rw [request_of_full up fresh full, ← emptied, sitDemand_of_up a standing]
  refine ⟨rfl, rfl, by rw [← lowering]; rfl, unsetLegs_leg _, rfl, rfl, current, ?_, ?_, fun f full mode => ?_⟩
  · rw [raise_factor_ne _ (by decide)]
    exact (factors .holdOverflow).trans (if_pos rfl)
  · have before : a.factor .modeChanged = d.factor .modeChanged := by
      rw [factors, if_neg (by decide), noted_factor_ne (PushRequest.factor_ne_pushFactors q).1]
    rw [raise_factor_self]
    show (⟨true, saturate (a.factor .modeChanged).count⟩ : FactorRecord) = _
    rw [before]
    rfl
  · rw [raise_factor_ne _ mode]
    exact (factors f).trans (if_neg full)

/-- Whatever becomes of a request, its factor is raised once. -/
theorem request_factor_self {q : PushRequest} {f : Factor} (named : q.factor = some f) (d : Device) :
    (d.request q).factor f = d.raisedOnce f := by
  have changed : f ≠ .modeChanged := fun same => (PushRequest.factor_ne_pushFactors q).1 (by rw [named, same])
  have overflow : f ≠ .holdOverflow := fun same => (PushRequest.factor_ne_pushFactors q).2 (by rw [named, same])
  have raised := noted_factor_self named d
  by_cases quiet : (d.mhu.mode = .unarmed ∨ d.mhu.mode = .safeSit) ∨ ∃ r ∈ d.mhu.stack, r.hold = q.hold
  · rw [request_of_quiet quiet, raised]
  · obtain ⟨up, fresh⟩ := not_or.mp quiet
    by_cases room : d.mhu.stack.length < 4
    · obtain ⟨-, -, -, -, -, -, held, converted⟩ := request_pushes up fresh room
      by_cases hold : d.mhu.mode = .hold
      · rw [(held hold).2, raised]
      · rw [(converted hold).2, if_neg changed, raised]
    · obtain ⟨-, -, -, -, -, -, -, -, -, others⟩ := request_overflows up fresh (not_lt.mp room)
      rw [others f overflow changed, raised]

theorem request_framesSinceSilence (q : PushRequest) (d : Device) : (d.request q).mhu.framesSinceSilence
    = if q = .linkSilent then 0 else d.mhu.framesSinceSilence := by
  rw [request_eq_judgePush, (judgePush_keeps _ _).2.1, noted_mhu]

/-- The factor that R104 names for a request. -/
theorem PushRequest.named_eq (q : PushRequest) : (match q with
      | .host => none
      | .margin => some Factor.brace
      | .noGround _ => some .noGround
      | .snag _ => some .snag
      | .slip _ => some .slip
      | .node _ .lost => some .nodeLost
      | .node _ .fault => some .driveFault
      | .limit _ => some .limitFreeze
      | .linkSilent => some .linkSilent) = q.factor := by
  cases q with
  | node n why => cases why <;> rfl
  | _ => rfl

end Device

/-- Settles O37: a request is noted and then suppressed, pushed or overflows, as its three rules say. -/
theorem pushRequestJudgedAgainstStack : Obligations.PushRequestJudgedAgainstStack := by
  intro d q e named down same
  have naming : named = q.factor := Device.PushRequest.named_eq q
  clear_value named
  subst naming
  obtain ⟨tbs, bal, cfl, lcc, llc, nsv, upp, -⟩ := Device.request_frame q d
  have frames := Device.request_framesSinceSilence q d
  refine ⟨fun f name => Device.request_factor_self name d, frames, (Device.request_keeps q d).1,
    fun quiet => ?_, fun up fresh room => ?_, fun up fresh full => ?_, tbs, bal, cfl, lcc, llc, nsv, upp⟩
  · have only : e = d.noted q := Device.request_of_quiet quiet
    rw [only]
    refine ⟨?_, Device.noted_gpe q d, fun f other => Device.noted_factor_ne other d⟩
    rw [Device.noted_mhu]
  · obtain ⟨mode, sit, stack, phase, current, waiting, held, converted⟩ := Device.request_pushes up fresh room
    refine ⟨mode, sit, ⟨_, stack, rfl, rfl, rfl, rfl, fun l => PerLeg.get_map _ _ l, rfl⟩, phase, current, waiting,
      fun hold => ⟨(held hold).1, fun f other => ?_⟩,
      fun hold => ⟨fun l => ?_, ?_, fun f other changed => ?_⟩⟩
    · exact ((held hold).2 f).trans (Device.noted_factor_ne other d)
    · exact ((converted hold).1 l).trans (Device.heldLeg_of_request q l _)
    · exact ((converted hold).2 .modeChanged).trans (if_pos rfl)
    · exact ((converted hold).2 f).trans ((if_neg changed).trans (Device.noted_factor_ne other d))
  · obtain ⟨mode, stack, sit, legs, phase, waiting, current, overflow, changed, others⟩ :=
      Device.request_overflows up fresh full
    exact ⟨mode, stack, sit, legs, phase, waiting, current, overflow, changed, fun f other full change =>
      (others f full change).trans (Device.noted_factor_ne other d)⟩

namespace Device

/-! ## The conversions on leaving HOLD (R112, R113) -/

/-- The states a leg is held in while the mode is HOLD (R22). -/
def held (s : LegState) : Prop := s = .stance ∨ s = .liftWait ∨ s = .setDown ∨ s = .hang

theorem releaseLeg_of_stance {d : Device} {l : Leg} (stands : d.legState l = .stance) : d.releaseLeg l = d := by
  unfold releaseLeg
  rw [stands]

/-- A leg held in HOLD enters STANCE when it is released. -/
theorem releaseLeg_legState_self {d : Device} {l : Leg} (h : held (d.legState l)) :
    (d.releaseLeg l).legState l = .stance := by
  unfold releaseLeg
  rcases h with h | h | h | h
  · rw [h]
    exact h
  · rw [h]
    exact congrArg LegRecord.state (modLeg_leg_self l _ d)
  · rw [h, touchDown_legState, if_pos rfl]
  · rw [h, touchDown_legState, if_pos rfl]

/-- The release of a leg changes no other leg but its latch. -/
theorem releaseLeg_leg_ne (d : Device) {l m : Leg} (other : m ≠ l) :
    (d.releaseLeg l).legState m = d.legState m
    ∧ ((d.releaseLeg l).leg m).stanceBase = (d.leg m).stanceBase := by
  have touches : (d.touchDown l).legState m = d.legState m
      ∧ ((d.touchDown l).leg m).stanceBase = (d.leg m).stanceBase := by
    refine ⟨by rw [touchDown_legState, if_neg other], ?_⟩
    rw [touchDown_leg, if_neg other]
    split <;> rfl
  unfold releaseLeg
  split
  · unfold legState
    rw [modLeg_leg_ne _ _ other]
    exact ⟨rfl, rfl⟩
  · exact touches
  · exact touches
  · exact ⟨rfl, rfl⟩

/-- A leg that stands stays as it is through the releases, but for its latch. -/
theorem releaseLeg_of_standing {d : Device} {m : Leg} (stands : d.legState m = .stance) (l : Leg) :
    (d.releaseLeg l).legState m = .stance ∧ ((d.releaseLeg l).leg m).stanceBase = (d.leg m).stanceBase := by
  by_cases same : m = l
  · subst same
    rw [releaseLeg_of_stance stands]
    exact ⟨stands, rfl⟩
  · obtain ⟨state, base⟩ := d.releaseLeg_leg_ne same
    exact ⟨state.trans stands, base⟩

theorem releaseLegsFrom_of_standing {d : Device} {m : Leg} (stands : d.legState m = .stance) (ls : List Leg) :
    (ls.foldl (fun d l => d.releaseLeg l) d).legState m = .stance
    ∧ ((ls.foldl (fun d l => d.releaseLeg l) d).leg m).stanceBase = (d.leg m).stanceBase := by
  induction ls generalizing d with
  | nil => exact ⟨stands, rfl⟩
  | cons l ls ih =>
    obtain ⟨state, base⟩ := releaseLeg_of_standing stands l
    obtain ⟨after, kept⟩ := ih state
    exact ⟨after, kept.trans base⟩

theorem releaseLegs_stanceBase {d : Device} {m : Leg} (stands : d.legState m = .stance) :
    (d.releaseLegs.leg m).stanceBase = (d.leg m).stanceBase :=
  (releaseLegsFrom_of_standing stands Leg.all).2

theorem releaseLegsFrom_legState {d : Device} {m : Leg} (h : held (d.legState m)) {ls : List Leg} (mem : m ∈ ls) :
    (ls.foldl (fun d l => d.releaseLeg l) d).legState m = .stance := by
  induction ls generalizing d with
  | nil => cases mem
  | cons l ls ih =>
    by_cases same : m = l
    · subst same
      exact (releaseLegsFrom_of_standing (releaseLeg_legState_self h) ls).1
    · refine ih ?_ ((List.mem_cons.mp mem).resolve_left same)
      rw [(d.releaseLeg_leg_ne same).1]
      exact h

/-- After the releases every leg that was held stands. -/
theorem releaseLegs_legState {d : Device} (m : Leg) (h : held (d.legState m)) : d.releaseLegs.legState m = .stance :=
  releaseLegsFrom_legState h (Leg.mem_all m)

theorem releaseLeg_gpe (l : Leg) (d : Device) : (d.releaseLeg l).gpe = { d.gpe with legs := (d.releaseLeg l).gpe.legs } := by
  unfold releaseLeg
  split <;> rfl

theorem releaseLegs_gpe (d : Device) : d.releaseLegs.gpe = { d.gpe with legs := d.releaseLegs.gpe.legs } := by
  have fold : ∀ (ls : List Leg) (d : Device), (ls.foldl (fun d l => d.releaseLeg l) d).gpe
      = { d.gpe with legs := (ls.foldl (fun d l => d.releaseLeg l) d).gpe.legs } := by
    intro ls
    induction ls with
    | nil => exact fun _ => rfl
    | cons l ls ih =>
      intro d
      rw [List.foldl_cons, ih, releaseLeg_gpe]
  exact fold Leg.all d

theorem releaseLegs_mhu (d : Device) : d.releaseLegs.mhu = d.mhu := by simp

theorem releaseLegs_gaitRecord (d : Device) : d.releaseLegs.gaitRecord = d.gaitRecord := by
  unfold gaitRecord gaitEntry
  rw [releaseLegs_gpe, (releaseLegs_frame d).1]

theorem freshStart_leg (d : Device) (l : Leg) : d.freshStart.leg l = { d.releaseLegs.leg l with partnerLatch := true } :=
  setLatches_leg _ l

theorem freshStart_phase (d : Device) : d.freshStart.gpe.phase = d.gaitRecord.e :=
  congrArg GaitRecord.e d.releaseLegs_gaitRecord

theorem freshStart_waiting (d : Device) : d.freshStart.gpe.waiting = d.gpe.waiting :=
  (congrArg GaitEngine.waiting d.releaseLegs_gpe).trans rfl

theorem restoreWalk_legState (r : HoldRecord) (d : Device) (l : Leg) :
    (d.restoreWalk r).legState l = r.legStates.get l := by
  unfold legState restoreWalk
  rw [mapLegs_leg]
  split
  next kept => exact kept
  next =>
    split
    next waits => exact waits.symm
    next => rfl

theorem restoreWalk_stanceBase (r : HoldRecord) (d : Device) (l : Leg) :
    ((d.restoreWalk r).leg l).stanceBase = (d.leg l).stanceBase := by
  unfold restoreWalk
  rw [mapLegs_leg]
  split
  next => rfl
  next => split <;> rfl

theorem groundedAtPush_iff (r : HoldRecord) : groundedAtPush r = true ↔
    ∀ l, r.legStates.get l = .stance ∨ r.legStates.get l = .liftWait := by
  simp [groundedAtPush]

/-! ## Entering STAND with a pending gait (R17, R112) -/

theorem selectGait_leg (g : Fin 8) (d : Device) (l : Leg) : ((d.selectGait g).leg l).state = (d.leg l).state
    ∧ ((d.selectGait g).leg l).stanceBase = (d.leg l).stanceBase := by
  unfold selectGait
  split
  · unfold adopt
    rw [raise_leg, setLatches_leg]
    exact ⟨rfl, rfl⟩
  · exact ⟨rfl, rfl⟩

theorem selectGait_waiting (g : Fin 8) (d : Device) : (d.selectGait g).gpe.waiting = none := by
  unfold selectGait
  split <;> rfl

theorem selectGait_mhu (g : Fin 8) (d : Device) : (d.selectGait g).mhu = d.mhu := by
  unfold selectGait
  split <;> rfl

theorem enterStand_eq (d : Device) : d.enterStand = match d.gpe.waiting with
    | some g => ((d.setMode .stand).raise .modeChanged).selectGait g
    | none => (d.setMode .stand).raise .modeChanged := rfl

theorem enterStand_of_none {d : Device} (empty : d.gpe.waiting = none) :
    d.enterStand = (d.setMode .stand).raise .modeChanged := by
  rw [enterStand_eq, empty]

theorem enterStand_of_some {d : Device} {g : Fin 8} (pending : d.gpe.waiting = some g) :
    d.enterStand = ((d.setMode .stand).raise .modeChanged).selectGait g := by
  rw [enterStand_eq, pending]

theorem enterStand_mhu (d : Device) : d.enterStand.mhu = { d.mhu with mode := .stand } := by
  cases waiting : d.gpe.waiting with
  | none =>
    rw [enterStand_of_none waiting]
    rfl
  | some g =>
    rw [enterStand_of_some waiting, selectGait_mhu]
    rfl

theorem enterStand_leg (d : Device) (l : Leg) : (d.enterStand.leg l).state = (d.leg l).state
    ∧ (d.enterStand.leg l).stanceBase = (d.leg l).stanceBase := by
  cases waiting : d.gpe.waiting with
  | none =>
    rw [enterStand_of_none waiting]
    exact ⟨rfl, rfl⟩
  | some g =>
    rw [enterStand_of_some waiting]
    exact selectGait_leg g _ l

theorem enterStand_waiting (d : Device) : d.enterStand.gpe.waiting = none := by
  cases waiting : d.gpe.waiting with
  | none =>
    rw [enterStand_of_none waiting]
    exact waiting
  | some g => rw [enterStand_of_some waiting, selectGait_waiting]

/-! ## Leaving HOLD (R112, R113) -/

theorem leaveHold_of_walk {r : HoldRecord} {d : Device} (walk : r.modeAtPush = .walk ∧ d.mhu.walkFlag = true) :
    d.leaveHold r = ((if groundedAtPush r then d.restoreWalk r else d.freshStart).setMode .walk).raise .modeChanged :=
  if_pos walk

theorem leaveHold_of_stand {r : HoldRecord} {d : Device} (stand : ¬ (r.modeAtPush = .walk ∧ d.mhu.walkFlag = true)) :
    d.leaveHold r = d.releaseLegs.enterStand := if_neg stand

theorem leaveHold_mhu (r : HoldRecord) (d : Device) : (d.leaveHold r).mhu = { d.mhu with
    mode := if r.modeAtPush = .walk ∧ d.mhu.walkFlag = true then .walk else .stand } := by
  by_cases walk : r.modeAtPush = .walk ∧ d.mhu.walkFlag = true
  · rw [leaveHold_of_walk walk, if_pos walk]
    have same : (if groundedAtPush r then d.restoreWalk r else d.freshStart).mhu = d.mhu := by
      split
      · rfl
      · exact releaseLegs_mhu d
    rw [← same]
    rfl
  · rw [leaveHold_of_stand walk, if_neg walk, enterStand_mhu, releaseLegs_mhu]

/-- Leaving HOLD keeps the stance base of a leg that stands. -/
theorem leaveHold_stanceBase {d : Device} {l : Leg} (stands : d.legState l = .stance) (r : HoldRecord) :
    ((d.leaveHold r).leg l).stanceBase = (d.leg l).stanceBase := by
  by_cases walk : r.modeAtPush = .walk ∧ d.mhu.walkFlag = true
  · rw [leaveHold_of_walk walk, raise_leg, setMode_leg]
    split
    · exact restoreWalk_stanceBase r d l
    · rw [freshStart_leg]
      exact releaseLegs_stanceBase stands
  · rw [leaveHold_of_stand walk]
    exact (enterStand_leg _ l).2.trans (releaseLegs_stanceBase stands)

/-! ## A pop (R111) -/

/-- The leg whose ground was missing and which now hangs: the one that a pop brings down (R111). -/
def lands (d : Device) (h : Hold) (l : Leg) : Prop := h = .noGround l ∧ d.legState l = .hang

theorem popTouchDown_of_lands {d : Device} {h : Hold} {l : Leg} (landing : d.lands h l) :
    d.popTouchDown h = d.touchDown l := by
  obtain ⟨rfl, hangs⟩ := landing
  exact if_pos hangs

theorem popTouchDown_of_none {d : Device} {h : Hold} (still : ∀ l, ¬ d.lands h l) : d.popTouchDown h = d := by
  unfold popTouchDown
  split
  next l => exact if_neg fun hangs => still l ⟨rfl, hangs⟩
  next => rfl

/-- A pop touches one leg down or none. -/
theorem popTouchDown_cases (d : Device) (h : Hold) :
    (∃ l, d.lands h l ∧ d.popTouchDown h = d.touchDown l) ∨ ((∀ l, ¬ d.lands h l) ∧ d.popTouchDown h = d) := by
  by_cases landing : ∃ l, d.lands h l
  · obtain ⟨l, landing⟩ := landing
    exact .inl ⟨l, landing, popTouchDown_of_lands landing⟩
  · exact .inr ⟨not_exists.mp landing, popTouchDown_of_none (not_exists.mp landing)⟩

theorem lands_unique {d : Device} {h : Hold} {l m : Leg} (first : d.lands h l) (second : d.lands h m) : m = l :=
  Hold.noGround.inj (second.1.symm.trans first.1)

/-- The device once a pop has taken its record off the stack and raised HOLD_RESUMED (R111). -/
def unstacked (d : Device) : Device :=
  ({ d with mhu := { d.mhu with stack := d.mhu.stack.dropLast } }).raise .holdResumed

theorem popTouchDown_mhu (h : Hold) (d : Device) : (d.popTouchDown h).mhu = d.mhu := by
  rcases d.popTouchDown_cases h with ⟨l, -, eq⟩ | ⟨-, eq⟩
  · rw [eq, touchDown_mhu]
  · rw [eq]

theorem popTouchDown_gpe (h : Hold) (d : Device) :
    (d.popTouchDown h).gpe = { d.gpe with legs := (d.popTouchDown h).gpe.legs } := by
  rcases d.popTouchDown_cases h with ⟨l, -, eq⟩ | ⟨-, eq⟩
  · rw [eq]
    rfl
  · rw [eq]

theorem popTouchDown_factor (h : Hold) (d : Device) (f : Factor) : (d.popTouchDown h).factor f = d.factor f := by
  rcases d.popTouchDown_cases h with ⟨l, -, eq⟩ | ⟨-, eq⟩
  · rw [eq, touchDown_factor]
  · rw [eq]

theorem popRecord_of_more {d : Device} {below : List HoldRecord} {top : HoldRecord} (stack : d.mhu.stack = below ++ [top])
    (more : below ≠ []) : d.popRecord top = d.unstacked.popTouchDown top.hold := by
  have left : (d.unstacked.popTouchDown top.hold).mhu.stack = below := by
    rw [popTouchDown_mhu]
    show d.mhu.stack.dropLast = below
    rw [stack, List.dropLast_concat]
  refine if_neg ?_
  show ¬ (d.unstacked.popTouchDown top.hold).mhu.stack.isEmpty = true
  rwa [left, List.isEmpty_iff]

theorem popRecord_of_last {d : Device} {top : HoldRecord} (stack : d.mhu.stack = [top]) :
    d.popRecord top = (d.unstacked.popTouchDown top.hold).leaveHold top := by
  refine if_pos ?_
  show (d.unstacked.popTouchDown top.hold).mhu.stack.isEmpty = true
  rw [popTouchDown_mhu]
  show d.mhu.stack.dropLast.isEmpty = true
  rw [stack]
  rfl

/-- The stance base of the leg that a pop brings down (R34, R111). -/
theorem popTouchDown_stanceBase {d : Device} {h : Hold} {l : Leg} (landing : d.lands h l) :
    (d.popTouchDown h).legState l = .stance ∧ ((d.popTouchDown h).leg l).stanceBase = d.lastPose l := by
  rw [popTouchDown_of_lands landing, touchDown_legState, if_pos rfl, touchDown_leg, if_pos rfl]
  exact ⟨rfl, rfl⟩

theorem popRecord_stack {d : Device} {below : List HoldRecord} {top : HoldRecord}
    (stack : d.mhu.stack = below ++ [top]) : (d.popRecord top).mhu.stack = below := by
  have left : (d.unstacked.popTouchDown top.hold).mhu.stack = below := by
    rw [popTouchDown_mhu]
    show d.mhu.stack.dropLast = below
    rw [stack, List.dropLast_concat]
  by_cases more : below = []
  · subst more
    rw [popRecord_of_last stack]
    rw [leaveHold_mhu]
    exact left
  · rw [popRecord_of_more stack more, left]

end Device

/-! ## RESUME (R109 to R113) -/

theorem exec_resume (tag : Byte) (s : State) : exec (.resume tag []) s = s.manage kindControl tag Device.resume := rfl

namespace Device

theorem resume_of_empty {d : Device} (empty : d.mhu.stack = []) : d.resume = (.refusedEmpty, d) := by
  unfold resume topHold
  rw [empty]
  rfl

theorem resume_of_top {d : Device} {below : List HoldRecord} {top : HoldRecord} (stack : d.mhu.stack = below ++ [top]) :
    d.resume = if d.resumable top.hold then (.done [], d.popRecord top) else (.refusedCause, d) := by
  have found : d.topHold = some top := by
    unfold topHold
    rw [stack, List.getLast?_concat]
  unfold resume
  rw [found]

theorem unstacked_factor (d : Device) (f : Factor) :
    d.unstacked.factor f = if f = .holdResumed then d.raisedOnce .holdResumed else d.factor f :=
  raise_factor _ f _

theorem popRecord_holdResumed {d : Device} {below : List HoldRecord} {top : HoldRecord}
    (stack : d.mhu.stack = below ++ [top]) : (d.popRecord top).factor .holdResumed = d.raisedOnce .holdResumed := by
  have popped : (d.unstacked.popTouchDown top.hold).factor .holdResumed = d.raisedOnce .holdResumed := by
    rw [popTouchDown_factor, unstacked_factor, if_pos rfl]
  by_cases more : below = []
  · subst more
    rw [popRecord_of_last stack]
    exact ((leaveHold_raises top _).factor_eq (by decide)).trans popped
  · rw [popRecord_of_more stack more, popped]

/-- A pop that leaves records changes the stack, HOLD_RESUMED and the legs of a touchdown (R111). -/
theorem popRecord_leaves {d : Device} {below : List HoldRecord} {top : HoldRecord} (stack : d.mhu.stack = below ++ [top])
    (more : below ≠ []) :
    (d.popRecord top).mhu = { d.mhu with stack := below }
    ∧ (d.popRecord top).gpe = { d.gpe with legs := (d.popRecord top).gpe.legs }
    ∧ ∀ f, f ≠ .holdResumed → (d.popRecord top).factor f = d.factor f := by
  have dropped : d.mhu.stack.dropLast = below := by rw [stack, List.dropLast_concat]
  rw [popRecord_of_more stack more]
  refine ⟨?_, popTouchDown_gpe _ _, fun f other => ?_⟩
  · rw [popTouchDown_mhu, ← dropped]
    rfl
  · rw [popTouchDown_factor, unstacked_factor, if_neg other]

/-- The legs after a pop that leaves records. -/
theorem popRecord_leg {d : Device} {below : List HoldRecord} {top : HoldRecord} (stack : d.mhu.stack = below ++ [top])
    (more : below ≠ []) (m : Leg) : (d.popRecord top).leg m = (d.unstacked.popTouchDown top.hold).leg m := by
  rw [popRecord_of_more stack more]

end Device

/-- Settles O38: RESUME looks at the top record and its condition, and a pop that leaves records touches one leg down at
most. -/
theorem resumePopsTopWhenConditionMet : Obligations.ResumePopsTopWhenConditionMet := by
  refine ⟨fun tag s ready => ⟨fun empty => ?_, fun below top stack => ⟨fun unmet => ?_, fun met => ?_⟩⟩, fun d => ?_,
    fun d below top stack => ?_⟩
  · have refused := Device.resume_of_empty empty
    rw [exec_resume, State.manage_of_same s kindControl tag Device.resume ready (by rw [refused]), refused]
    rfl
  · have refused : s.dev.resume = (.refusedCause, s.dev) := by
      rw [Device.resume_of_top stack, if_neg (by simp [unmet])]
    rw [exec_resume, State.manage_of_same s kindControl tag Device.resume ready (by rw [refused]), refused]
    rfl
  · have done : s.dev.resume = (.done [], s.dev.popRecord top) := by
      rw [Device.resume_of_top stack, if_pos met]
    have ran : exec (.resume tag []) s
        = .next (s.withDev ((s.dev.popRecord top).withPort (s.dev.portReplied 3 tag (.done [])))) := by
      rw [exec_resume, State.manage_of_ready s kindControl tag Device.resume ready (by rw [done]; simp), done]
      rfl
    obtain ⟨tbs, bal, cfl, lcc, llc, nsv, -⟩ := Device.popRecord_frame top s.dev
    refine ⟨_, ran, rfl, rfl, Device.popRecord_stack stack, Device.popRecord_holdResumed stack, fun more => ?_, tbs, bal,
      cfl, lcc, llc, nsv⟩
    obtain ⟨mhu, gpe, factors⟩ := Device.popRecord_leaves stack more
    exact ⟨(congrArg ModeUnit.mode mhu).trans rfl, (congrArg GaitEngine.phase gpe).trans rfl, factors .modeChanged (by decide)⟩
  · refine ⟨rfl, ?_, fun l => ?_, fun l => ?_, fun l => ?_, fun n => ?_, fun j => ?_, ?_⟩
    · simp [Device.resumable]
    · simp [Device.resumable]
    · simp [Device.resumable]
    · simp [Device.resumable]
    · simp [Device.resumable]
    · simp [Device.resumable, Option.any_eq_true, JointRecord.allows_iff]
    · simp [Device.resumable]
  · intro e lands
    have based (l : Leg) (landing : lands l) : (d.unstacked.popTouchDown top.hold).legState l = .stance
        ∧ ((d.unstacked.popTouchDown top.hold).leg l).stanceBase = d.lastPose l :=
      Device.popTouchDown_stanceBase (d := d.unstacked) landing
    refine ⟨fun l landing => ?_, fun more => ?_⟩
    · obtain ⟨stands, base⟩ := based l landing
      by_cases more : below = []
      · subst more
        show ((d.popRecord top).leg l).stanceBase = _
        rw [Device.popRecord_of_last stack, Device.leaveHold_stanceBase stands, base]
      · exact (congrArg LegRecord.stanceBase (Device.popRecord_leg stack more l)).trans base
    · obtain ⟨mhu, gpe, factors⟩ := Device.popRecord_leaves stack more
      have touched (l m : Leg) (landing : lands l) : e.leg m = (d.unstacked.touchDown l).leg m :=
        (Device.popRecord_leg stack more m).trans
          (congrArg (Device.leg · m) (Device.popTouchDown_of_lands (d := d.unstacked) landing))
      refine ⟨mhu, gpe, fun l landing => ?_, fun m other => ⟨fun l landing partner => ?_, fun none => ?_⟩, factors⟩
      · rw [touched l l landing, Device.touchDown_leg, if_pos rfl]
        rfl
      · have differs : m ≠ l := fun same => other (same ▸ landing)
        rw [touched l m landing, Device.touchDown_leg, if_neg differs]
        exact if_pos partner
      · rcases Device.popTouchDown_cases d.unstacked top.hold with ⟨l, landing, -⟩ | ⟨-, same⟩
        · have differs : m ≠ l := fun same => other (same ▸ landing)
          have unlatched : ¬ (d.unstacked.gaitLeg m).partner.get l = true := Bool.eq_false_iff.mp (none l landing)
          rw [touched l m landing, Device.touchDown_leg, if_neg differs, if_neg unlatched]
          rfl
        · exact (Device.popRecord_leg stack more m).trans ((congrArg (Device.leg · m) same).trans rfl)

/-- Settles O39: the last pop leaves the device for the walk that was recorded, a fresh start or STAND. -/
theorem lastPopLeavesHold : Obligations.LastPopLeavesHold := by
  intro d r mode stack fits e
  obtain ⟨a, popped⟩ : ∃ a, a = d.unstacked.popTouchDown r.hold := ⟨_, rfl⟩
  have left : e = a.leaveHold r := popped ▸ Device.popRecord_of_last stack
  have flag : a.mhu.walkFlag = d.mhu.walkFlag := by
    rw [popped, Device.popTouchDown_mhu]
    rfl
  have engine : a.gpe = { d.gpe with legs := a.gpe.legs } := by
    rw [popped, Device.popTouchDown_gpe]
    rfl
  have gait : a.gaitRecord = d.gaitRecord := by
    unfold Device.gaitRecord Device.gaitEntry
    rw [engine, popped]
    simp [Device.unstacked]
  have held (l : Leg) : Device.held (a.legState l) := by
    have before : Device.held (d.unstacked.legState l) := by
      have fit := (Leg.all_iff _).mp fits l
      rw [mode] at fit
      show Device.held (d.legState l)
      simpa [Device.stateFits, Device.held, or_assoc] using fit
    rw [popped]
    rcases Device.popTouchDown_cases d.unstacked r.hold with ⟨m, -, touched⟩ | ⟨-, same⟩
    · rw [touched, Device.touchDown_legState]
      split
      · exact .inl rfl
      · exact before
    · rwa [same]
  rw [left]
  refine ⟨fun walk flagged => ?_, fun stand => ?_⟩
  · have walks : r.modeAtPush = .walk ∧ a.mhu.walkFlag = true := ⟨walk, flag.trans flagged⟩
    rw [Device.leaveHold_of_walk walks]
    refine ⟨rfl, fun grounded => ?_, fun ⟨l, air⟩ => ?_, ?_⟩
    · rw [if_pos ((Device.groundedAtPush_iff r).mpr grounded)]
      exact ⟨rfl, fun l => Device.restoreWalk_legState r a l⟩
    · have aloft : ¬ Device.groundedAtPush r = true := by
        rw [Device.groundedAtPush_iff]
        intro grounded
        have on := grounded l
        rcases air with air | air <;> simp [air] at on
      rw [if_neg aloft]
      refine ⟨(Device.freshStart_phase a).trans (congrArg GaitRecord.e gait), fun l => ?_, fun l => ?_⟩
      · exact (congrArg LegRecord.state (Device.freshStart_leg a l)).trans (Device.releaseLegs_legState l (held l))
      · exact congrArg LegRecord.partnerLatch (Device.freshStart_leg a l)
    · show (if Device.groundedAtPush r then a.restoreWalk r else a.freshStart).gpe.waiting = _
      have waiting : a.gpe.waiting = d.gpe.waiting :=
        (congrArg GaitEngine.waiting engine).trans rfl
      split
      · exact waiting
      · exact (Device.freshStart_waiting a).trans waiting
  · have stands : ¬ (r.modeAtPush = .walk ∧ a.mhu.walkFlag = true) := by
      rintro ⟨walk, flagged⟩
      rw [flag] at flagged
      rcases stand with other | clear
      · exact other walk
      · simp [clear] at flagged
    rw [Device.leaveHold_of_stand stands]
    refine ⟨congrArg ModeUnit.mode (Device.enterStand_mhu _), fun l => ?_, Device.enterStand_waiting _, fun none => ?_⟩
    · exact (Device.enterStand_leg _ l).1.trans (Device.releaseLegs_legState l (held l))
    · have waiting : a.releaseLegs.gpe.waiting = Option.none := by
        rw [Device.releaseLegs_gpe, engine]
        exact none
      rw [Device.enterStand_of_none waiting]
      show a.releaseLegs.gpe.phase = _ ∧ a.releaseLegs.gpe.current = _
      rw [Device.releaseLegs_gpe, engine]
      exact ⟨rfl, rfl⟩

/-! ## The silence of the host (R104, R152) -/

namespace Device

theorem sitDemand_withPort (d : Device) (u : UpstreamPort) : (d.withPort u).sitDemand = d.sitDemand.withPort u := by
  by_cases down : d.mhu.mode = .unarmed ∨ d.mhu.mode = .safeSit
  · rw [sitDemand_of_down d down, sitDemand_of_down (d.withPort u) down]
  · have up : d.mhu.mode = .stand ∨ d.mhu.mode = .walk ∨ d.mhu.mode = .hold := by
      cases mode : d.mhu.mode <;> simp_all
    rw [sitDemand_of_up d up, sitDemand_of_up (d.withPort u) up]
    rfl

theorem pushRecord_withPort (h : Hold) (d : Device) {u : UpstreamPort} (tag : u.lastTag = d.upp.lastTag) :
    (d.withPort u).pushRecord h = (d.pushRecord h).withPort u := by
  have record : (d.withPort u).holdRecord h = d.holdRecord h := by
    unfold holdRecord withPort
    rw [tag]
  by_cases hold : d.mhu.mode = .hold
  · rw [pushRecord_of_hold hold, pushRecord_of_hold (d := d.withPort u) hold, record]
    rfl
  · rw [pushRecord_of_not_hold hold, pushRecord_of_not_hold (d := d.withPort u) hold, record]
    rfl

theorem judgePush_withPort (h : Hold) (d : Device) {u : UpstreamPort} (tag : u.lastTag = d.upp.lastTag) :
    (d.withPort u).judgePush h = (d.judgePush h).withPort u := by
  by_cases down : d.mhu.mode = .unarmed ∨ d.mhu.mode = .safeSit
  · rw [judgePush_of_down h d down, judgePush_of_down h (d.withPort u) down]
  · cases same : d.mhu.stack.any (fun r => r.hold = h) with
    | true => rw [judgePush_of_same h d same, judgePush_of_same h (d.withPort u) same]
    | false =>
      rcases lt_or_ge d.mhu.stack.length 4 with room | full
      · rw [judgePush_of_room h d down same room, judgePush_of_room h (d.withPort u) down same room,
          pushRecord_withPort h d tag]
      · rw [judgePush_of_full h d down same full, judgePush_of_full h (d.withPort u) down same full]
        exact sitDemand_withPort (raise .holdOverflow { d with mhu := { d.mhu with stack := [] } }) u

/-- Of the port a LINK_SILENT request reads the tag of the last accepted frame alone. -/
theorem request_linkSilent_withPort (d : Device) {u : UpstreamPort} (tag : u.lastTag = d.upp.lastTag) :
    (d.withPort u).request .linkSilent = (d.request .linkSilent).withPort u :=
  judgePush_withPort .linkSilent (d.noted .linkSilent) tag

theorem silenceExpiry_eq (d : Device) : d.silenceExpiry =
    (((d.request .linkSilent).staleBody).withPort
      { d.upp with silenceTimer := none, localTimer := some d.tbs.deviceConfig.tCyc }) := by
  have quiet := request_linkSilent_withPort d (u := { d.upp with silenceTimer := none }) rfl
  unfold silenceExpiry
  show (request .linkSilent (d.withPort _)).staleBody.startLocalTimer = _
  rw [quiet]
  have config : (d.request .linkSilent).tbs = d.tbs := (request_frame _ d).1
  show ((d.request .linkSilent).staleBody).withPort
    { d.upp with silenceTimer := none, localTimer := some (d.request .linkSilent).tbs.deviceConfig.tCyc } = _
  rw [config]

end Device

/-- Settles O14: the silence is a LINK_SILENT request, with the body state stale and the local timer started. -/
theorem silenceExpiryHoldsAndStartsLocalCycles : Obligations.SilenceExpiryHoldsAndStartsLocalCycles := by
  intro s running armed
  obtain ⟨tbs, bal, cfl, lcc, llc, nsv, upp, -⟩ := Device.request_frame .linkSilent s.dev
  have ran : exec .silenceExpiry s = .next (s.withDev (((s.dev.request .linkSilent).staleBody).withPort
      { s.dev.upp with silenceTimer := none, localTimer := some s.dev.tbs.deviceConfig.tCyc })) := by
    rw [← Device.silenceExpiry_eq]
    exact State.whenPossible_of s Device.silenceExpiry _ running (Option.isSome_iff_ne_none.mpr armed)
  have frames : (s.dev.request .linkSilent).mhu.framesSinceSilence = 0 :=
    (Device.request_framesSinceSilence .linkSilent s.dev).trans (if_pos rfl)
  have others {f : Factor} (other : f ≠ .linkSilent) : (s.dev.noted .linkSilent).factor f = s.dev.factor f :=
    Device.noted_factor_ne (q := .linkSilent) (fun same => other (Option.some.inj same).symm) s.dev
  refine ⟨_, ran, rfl, rfl, frames, Device.request_factor_self (q := .linkSilent) rfl s.dev, ?_, rfl,
    ⟨fun quiet => ?_, fun up fresh room => ?_, fun up fresh full => ?_⟩, tbs, cfl, lcc, llc, nsv⟩
  · show ({ (s.dev.request .linkSilent).bal with freshness := _ } : BalanceUnit) = _
    rw [bal]
  · have only := Device.request_of_quiet (q := .linkSilent) quiet
    refine ⟨(congrArg Device.mhu only).trans rfl, (congrArg Device.gpe only).trans rfl, fun f other => ?_⟩
    exact (congrArg (Device.factor · f) only).trans (others other)
  · obtain ⟨mode, -, stack, phase, -, -, held, converted⟩ := Device.request_pushes (q := .linkSilent) up fresh room
    refine ⟨mode, stack, phase, fun hold => ⟨(held hold).1, ?_⟩, fun hold => ⟨?_, fun l => ?_⟩⟩
    · exact ((held hold).2 .modeChanged).trans (others (by decide))
    · exact ((converted hold).2 .modeChanged).trans (if_pos rfl)
    · refine ((converted hold).1 l).trans ?_
      unfold Device.heldLeg
      split <;> simp_all [PushRequest.hold]
  · obtain ⟨mode, stack, -, legs, -, -, -, overflow, -⟩ := Device.request_overflows (q := .linkSilent) up fresh full
    exact ⟨mode, stack, fun l => (congrArg LegRecord.state (legs l)).trans rfl, overflow⟩

end Sys2Proof.Machine
end

section
/-!
PROOFS. The leg records (O40): lifts, touchdowns and the counter update of a cycle.
-/

namespace Sys2Proof.Machine

namespace Device

/-! ## Lifts (R26, R29, R139) -/

theorem stopPending_eq_false_iff (d : Device) : d.stopPending = false ↔ d.mhu.mode ≠ .walk ∨ d.mhu.walkFlag = true := by
  simp [stopPending, ← Bool.not_eq_true, or_iff_not_imp_left]

/-- Conditions 1 to 4 of R26. -/
theorem mayAskToLift_iff (d : Device) (l : Leg) : d.mayAskToLift l = true ↔
    d.legState l = .liftWait ∧ d.mhu.mode = .walk ∧ d.mhu.walkFlag = true ∧ d.contact l ≠ .unknown
    ∧ (∀ m, (d.gaitLeg l).prereq.get m = true → d.supporting m = true)
    ∧ ((∀ m, (d.gaitLeg l).partner.get m = false) ∨ (d.leg l).partnerLatch = true) := by
  have partners : (d.gaitLeg l).partner.toList.any id = false ↔ ∀ m, (d.gaitLeg l).partner.get m = false := by
    rw [List.any_eq_false]
    simp
  have prerequisites : (Leg.all.all fun m => !(d.gaitLeg l).prereq.get m || d.supporting m) = true ↔
      ∀ m, (d.gaitLeg l).prereq.get m = true → d.supporting m = true := by
    rw [Leg.all_iff]
    exact forall_congr' fun m => by cases (d.gaitLeg l).prereq.get m <;> simp
  unfold mayAskToLift
  simp only [Bool.and_eq_true, Bool.or_eq_true, Bool.not_eq_true', decide_eq_true_eq, partners, prerequisites,
    stopPending_eq_false_iff]
  tauto

theorem tryLift_of_barred {d : Device} {l : Leg} (barred : ¬ d.mayAskToLift l = true) : d.tryLift l = d :=
  if_neg barred

theorem tryLift_of_margin {d : Device} {l : Leg} (asks : d.mayAskToLift l = true)
    (wide : d.gaitRecord.mLift ≤ (d.marginWithout l).value) :
    d.tryLift l = (d.askMargin l).2.grantLift l := by
  unfold tryLift
  rw [if_pos asks, if_pos (show d.gaitRecord.mLift ≤ (d.askMargin l).1 from wide)]

theorem tryLift_of_short {d : Device} {l : Leg} (asks : d.mayAskToLift l = true)
    (short : (d.marginWithout l).value < d.gaitRecord.mLift) : d.tryLift l = (d.askMargin l).2 := by
  unfold tryLift
  rw [if_pos asks, if_neg (show ¬ d.gaitRecord.mLift ≤ (d.askMargin l).1 from not_le.mpr short)]

theorem askMargin_frame_eq (d : Device) (l : Leg) : (d.askMargin l).2 = { d with eeu := (d.askMargin l).2.eeu } := by
  unfold askMargin raiseIf
  dsimp only
  split <;> rfl

/-- A foot that answers without a sensor fault is not judged at the entry to the air. -/
theorem footEntryJudgement_of_sound {d : Device} {l : Leg} (live : (d.node ⟨l, .foot⟩).live = true)
    (sound : (d.node ⟨l, .foot⟩).reported.sensorFault = false) : d.footEntryJudgement l = d := by
  unfold footEntryJudgement
  simp [live, sound]

theorem grantLift_of_sound {d : Device} {l : Leg} (live : (d.node ⟨l, .foot⟩).live = true)
    (sound : (d.node ⟨l, .foot⟩).reported.sensorFault = false) :
    d.grantLift l = d.modLeg l (liftedLeg (d.contact l) (d.lastPose l)) :=
  footEntryJudgement_of_sound (d := d.modLeg l _) live sound

/-- A lift granted to a leg whose foot answers writes that leg's record alone (R29). -/
theorem tryLift_gpe_of_margin {d : Device} {l : Leg} (live : (d.node ⟨l, .foot⟩).live = true)
    (sound : (d.node ⟨l, .foot⟩).reported.sensorFault = false) (asks : d.mayAskToLift l = true)
    (wide : d.gaitRecord.mLift ≤ (d.marginWithout l).value) :
    (d.tryLift l).gpe = (d.modLeg l (liftedLeg (d.contact l) (d.lastPose l))).gpe := by
  rw [tryLift_of_margin asks wide, askMargin_frame_eq]
  exact (congrArg Device.gpe (grantLift_of_sound (d := { d with eeu := (d.askMargin l).2.eeu }) live sound)).trans rfl

theorem tryLift_gpe_of_short {d : Device} {l : Leg} (asks : d.mayAskToLift l = true)
    (short : (d.marginWithout l).value < d.gaitRecord.mLift) : (d.tryLift l).gpe = d.gpe := by
  rw [tryLift_of_short asks short, askMargin_frame_eq]

theorem leg_of_gpe {d e : Device} (h : e.gpe = d.gpe) (l : Leg) : e.leg l = d.leg l := by
  unfold leg
  rw [h]

theorem lastPose_eq_some_iff (d : Device) (l : Leg) (p : Pose) :
    d.lastPose l = some p ↔ ∀ i : JointIx, (d.jointState ⟨l, i⟩).lastPosition = some (p.get i) := by
  have joints : (∀ i : JointIx, (d.jointState ⟨l, i⟩).lastPosition = some (p.get i)) ↔
      (d.jointState ⟨l, .ha⟩).lastPosition = some p.ha ∧ (d.jointState ⟨l, .hf⟩).lastPosition = some p.hf
      ∧ (d.jointState ⟨l, .kn⟩).lastPosition = some p.kn :=
    ⟨fun h => ⟨h .ha, h .hf, h .kn⟩, fun ⟨ha, hf, kn⟩ i => by cases i <;> assumption⟩
  rw [joints]
  unfold lastPose
  rcases p with ⟨ha, hf, kn⟩
  cases (d.jointState ⟨l, .ha⟩).lastPosition <;> cases (d.jointState ⟨l, .hf⟩).lastPosition <;>
    cases (d.jointState ⟨l, .kn⟩).lastPosition <;> simp

/-! ## The counter update of a leg (R24, R30, R31, R36, R39) -/

theorem updateCounter_of_liftWait {d : Device} {l : Leg} (state : (d.leg l).state = .liftWait) :
    d.updateCounter l = d.countWait l := by
  unfold updateCounter legState
  rw [state]

theorem updateCounter_of_swing {d : Device} {l : Leg} (state : (d.leg l).state = .swing) :
    d.updateCounter l = d.countClear l := by
  unfold updateCounter legState
  rw [state]

theorem updateCounter_of_landing {d : Device} {l : Leg} (state : (d.leg l).state = .landing) :
    d.updateCounter l = d.countLanding l := by
  unfold updateCounter legState
  rw [state]

theorem updateCounter_of_setDown {d : Device} {l : Leg} (state : (d.leg l).state = .setDown) :
    d.updateCounter l = d.judgeSetDown l := by
  unfold updateCounter legState
  rw [state]

theorem updateCounter_of_still {d : Device} {l : Leg}
    (state : (d.leg l).state = .stance ∨ (d.leg l).state = .hang ∨ (d.leg l).state = .unset) :
    d.updateCounter l = d := by
  unfold updateCounter legState
  rcases state with h | h | h <;> rw [h]

/-- LIFT_STARVED is raised at the step of the wait counter past T_wait (R30). -/
theorem waitPasses_iff (d : Device) (l : Leg) : (d.gaitRecord.tWait ≠ 0 && (d.leg l).wait = d.gaitRecord.tWait
      && countUp 4096 (d.leg l).wait = d.gaitRecord.tWait + 1) = true ↔
    d.gaitRecord.tWait ≠ 0 ∧ (d.leg l).wait = d.gaitRecord.tWait ∧ (d.leg l).wait < 4096 := by
  simp only [Bool.and_eq_true, decide_eq_true_eq, and_assoc]
  unfold countUp
  refine and_congr_right fun _ => and_congr_right fun same => ?_
  omega

theorem countWait_gpe (d : Device) (l : Leg) :
    (d.countWait l).gpe = (d.modLeg l fun r => { r with wait := min (r.wait + 1) 4096 }).gpe :=
  (raiseIf_frame _ _ _).2.1

theorem countWait_liftStarved (d : Device) (l : Leg) : (d.countWait l).factor .liftStarved =
    if d.gaitRecord.tWait ≠ 0 ∧ (d.leg l).wait = d.gaitRecord.tWait ∧ (d.leg l).wait < 4096
    then d.raisedOnce .liftStarved else d.factor .liftStarved := by
  unfold countWait
  rw [raiseIf_factor_self]
  simp only [waitPasses_iff]
  rfl

/-- The device as the clear counter of a leg has counted, before the judgement of R31. -/
def clearCounted (d : Device) (l : Leg) : Device := d.modLeg l fun r => { r with clear := min ((d.leg l).clear + 1) 15 }

/-- The device as the landing counter of a leg has counted, before the judgement of R36. -/
def landingCounted (d : Device) (l : Leg) : Device :=
  d.modLeg l fun r => { r with landing := min ((d.leg l).landing + 1) 255 }

theorem countClear_of_spent {d : Device} {l : Leg}
    (spent : (d.leg l).cleared = true ∨ d.tbs.deviceConfig.tClear ≤ (d.leg l).clear) : d.countClear l = d :=
  if_pos spent

theorem countClear_of_counting {d : Device} {l : Leg} (aloft : (d.leg l).cleared = false)
    (counting : (d.leg l).clear < d.tbs.deviceConfig.tClear) : d.countClear l =
      if min ((d.leg l).clear + 1) 15 = d.tbs.deviceConfig.tClear ∧ d.contact l = .present
      then (d.clearCounted l).request (.snag l) else d.clearCounted l :=
  if_neg (by simp [aloft, counting])

theorem countLanding_eq (d : Device) (l : Leg) : d.countLanding l =
    if d.gaitRecord.tLand ≤ min ((d.leg l).landing + 1) 255 ∨ d.lastPose l = some (d.tbs.pose.get l).reach
    then (d.landingCounted l).request (.noGround l) else d.landingCounted l := by
  have delivered : d.reached l (d.tbs.pose.get l).reach = true ↔ d.lastPose l = some (d.tbs.pose.get l).reach := by
    simp [reached]
  simp only [← delivered]
  rfl

theorem judgeSetDown_eq (d : Device) (l : Leg) : d.judgeSetDown l =
    if d.lastPose l = some (d.tbs.pose.get l).setDown ∧ d.contact l = .present then d.touchDown l else d := by
  have delivered : d.reached l (d.tbs.pose.get l).setDown = true ↔ d.lastPose l = some (d.tbs.pose.get l).setDown := by
    simp [reached]
  simp only [← delivered]
  rfl

/-- A request in STAND or WALK with no hold converts the legs (R106). -/
theorem request_leg_of_unheld {q : PushRequest} {d : Device} (mode : d.mhu.mode = .stand ∨ d.mhu.mode = .walk)
    (empty : d.mhu.stack = []) (l : Leg) : (d.request q).leg l = heldLeg q.hold l (d.leg l) := by
  have up : ¬ (d.mhu.mode = .unarmed ∨ d.mhu.mode = .safeSit) := by rcases mode with h | h <;> simp [h]
  have other : d.mhu.mode ≠ .hold := by rcases mode with h | h <;> simp [h]
  obtain ⟨-, -, -, -, -, -, -, converted⟩ :=
    request_pushes (q := q) up (by simp [empty]) (by simp [empty] : d.mhu.stack.length < 4)
  exact (converted other).1 l

end Device

/-- Settles O40: what a permission attempt, a touchdown and the counter update of a leg write. -/
theorem liftAndTouchdownWriteLegRecords : Obligations.LiftAndTouchdownWriteLegRecords := by
  refine ⟨fun d l waits live sound => ?_, fun d l m => Device.touchDown_leg l m d, Device.lastPose_eq_some_iff,
    fun _ => rfl, fun d l => ?_⟩
  · intro granted
    have asks : d.mayAskToLift l = true ↔ granted := by
      rw [Device.mayAskToLift_iff]
      exact and_iff_right waits
    have lifted (wide : d.gaitRecord.mLift ≤ (d.marginWithout l).value) (yes : granted) (m : Leg) : (d.tryLift l).leg m
        = (d.modLeg l (Device.liftedLeg (d.contact l) (d.lastPose l))).leg m :=
      Device.leg_of_gpe (Device.tryLift_gpe_of_margin live sound (asks.mpr yes) wide) m
    refine ⟨fun no => Device.tryLift_of_barred (fun yes => no (asks.mp yes)), fun yes wide => ?_,
      fun yes short => Device.tryLift_gpe_of_short (asks.mpr yes) short, fun m other => ?_⟩
    · exact (lifted wide yes l).trans (Device.modLeg_leg_self l _ d)
    · by_cases yes : granted
      · rcases le_or_gt d.gaitRecord.mLift (d.marginWithout l).value with wide | short
        · exact (lifted wide yes m).trans (Device.modLeg_leg_ne _ d other)
        · exact Device.leg_of_gpe (Device.tryLift_gpe_of_short (asks.mpr yes) short) m
      · rw [Device.tryLift_of_barred fun asked => yes (asks.mp asked)]
  · refine ⟨fun waits => ?_, fun swings spent => ?_, fun swings aloft counting => ?_, fun lands => ?_,
      fun setDown => ?_, Device.updateCounter_of_still⟩
    · have counts : d.updateCounter l = d.countWait l := Device.updateCounter_of_liftWait waits
      have legs (m : Leg) := Device.leg_of_gpe (d.countWait_gpe l) m
      refine ⟨fun m other => ?_, ?_, ?_, ?_⟩
      · rw [counts, legs, Device.modLeg_leg_ne _ d other]
      · rw [counts, legs, Device.modLeg_leg_self]
      · rw [counts]
        exact (Device.raiseIf_frame _ _ _).2.2.2.2.2.1
      · rw [counts]
        exact d.countWait_liftStarved l
    · show d.updateCounter l = d
      rw [Device.updateCounter_of_swing swings, Device.countClear_of_spent spent]
    · intro n
      have counts := (Device.updateCounter_of_swing swings).trans (Device.countClear_of_counting aloft counting)
      have leg : (d.clearCounted l).leg l = { d.leg l with clear := n } := Device.modLeg_leg_self l _ d
      refine ⟨fun reached touching => ?_, fun otherwise => ?_⟩
      · rw [if_pos ⟨reached, touching⟩] at counts
        rw [counts]
        refine ⟨Device.request_factor_self (q := .snag l) rfl (d.clearCounted l),
          Device.request_heldFor (.snag l) (d.clearCounted l), fun mode empty => ?_⟩
        refine (Device.request_leg_of_unheld (q := .snag l) (d := d.clearCounted l) mode empty l).trans ?_
        rw [leg]
        unfold Device.heldLeg
        rw [swings]
      · rw [if_neg (by tauto)] at counts
        rw [counts]
        exact ⟨fun m other => Device.modLeg_leg_ne _ d other, leg, rfl, rfl⟩
    · intro n spent
      have counts := (Device.updateCounter_of_landing lands).trans (d.countLanding_eq l)
      have leg : (d.landingCounted l).leg l = { d.leg l with landing := n } := Device.modLeg_leg_self l _ d
      refine ⟨fun yes => ?_, fun no => ?_⟩
      · rw [if_pos yes] at counts
        rw [counts]
        refine ⟨Device.request_factor_self (q := .noGround l) rfl (d.landingCounted l),
          Device.request_heldFor (.noGround l) (d.landingCounted l), fun mode empty => ?_⟩
        refine (Device.request_leg_of_unheld (q := .noGround l) (d := d.landingCounted l) mode empty l).trans ?_
        rw [leg]
        unfold Device.heldLeg
        rw [lands]
        simp [PushRequest.hold]
      · rw [if_neg no] at counts
        rw [counts]
        exact ⟨fun m other => Device.modLeg_leg_ne _ d other, leg, rfl, rfl⟩
    · intro down
      have counts := (Device.updateCounter_of_setDown setDown).trans (d.judgeSetDown_eq l)
      refine ⟨fun yes => ?_, fun no => ?_⟩
      · rw [if_pos yes] at counts
        rw [counts, Device.touchDown_leg, if_pos rfl]
        exact ⟨rfl, rfl⟩
      · rw [if_neg no] at counts
        exact counts

end Sys2Proof.Machine
end

section
/-!
PROOFS. The local cycle (O15): no phase step is made, the counters count the cycle, and the rest of a cycle follows.
-/

namespace Sys2Proof.Machine

/-! ## What becomes of a leg record when no phase step is made (R24, R34, R106) -/

/-- A leg record that has stayed in the air or in its wait has kept what it counts, and no progress is new. -/
structure LegRecord.Eases (r k : LegRecord) : Prop where
  swing : k.state = .swing → r.state = .swing ∧ k.clear = r.clear ∧ k.cleared = r.cleared
  wait : k.state = .liftWait → r.state = .liftWait ∧ k.wait = r.wait
  landing : k.state = .landing → r.state = .landing ∧ k.landing = r.landing
  progress : ∀ p, k.progress = some p → r.progress = some p

/-- A leg record after one counter update and whatever has converted it: a leg still in its wait or in the air has
counted one cycle (R24). -/
structure LegRecord.Counted (tClear : Nat) (r k : LegRecord) : Prop where
  swing : k.state = .swing → r.state = .swing
  clear : k.state = .swing → k.clear =
    if r.cleared = true ∨ tClear ≤ r.clear then r.clear else min (r.clear + 1) 15
  wait : k.state = .liftWait → r.state = .liftWait ∧ k.wait = min (r.wait + 1) 4096
  landing : k.state = .landing → r.state = .landing ∧ k.landing = min (r.landing + 1) 255
  progress : ∀ p, k.progress = some p → r.progress = some p

namespace LegRecord

theorem Eases.refl (r : LegRecord) : r.Eases r :=
  ⟨fun h => ⟨h, rfl, rfl⟩, fun h => ⟨h, rfl⟩, fun h => ⟨h, rfl⟩, fun _ h => h⟩

theorem Eases.of_eq {r k : LegRecord} (h : k = r) : r.Eases k := h ▸ refl r

theorem Eases.trans {r k m : LegRecord} (first : r.Eases k) (second : k.Eases m) : r.Eases m where
  swing h := by
    obtain ⟨state, clear, cleared⟩ := second.swing h
    obtain ⟨before, clear', cleared'⟩ := first.swing state
    exact ⟨before, clear.trans clear', cleared.trans cleared'⟩
  wait h := by
    obtain ⟨state, wait⟩ := second.wait h
    obtain ⟨before, wait'⟩ := first.wait state
    exact ⟨before, wait.trans wait'⟩
  landing h := by
    obtain ⟨state, landing⟩ := second.landing h
    obtain ⟨before, landing'⟩ := first.landing state
    exact ⟨before, landing.trans landing'⟩
  progress p h := first.progress p (second.progress p h)

/-- A record out of the air and the wait, with no progress, eases any other. -/
theorem Eases.of_grounded {r k : LegRecord} (state : k.state ≠ .swing ∧ k.state ≠ .liftWait ∧ k.state ≠ .landing)
    (progress : k.progress = none) : r.Eases k :=
  ⟨fun h => absurd h state.1, fun h => absurd h state.2.1, fun h => absurd h state.2.2, fun p h => by simp [progress] at h⟩

theorem Eases.counted {tClear : Nat} {r k m : LegRecord} (first : r.Eases k) (second : k.Counted tClear m) :
    r.Counted tClear m where
  swing h := (first.swing (second.swing h)).1
  clear h := by
    obtain ⟨-, clear, cleared⟩ := first.swing (second.swing h)
    rw [second.clear h, clear, cleared]
  wait h := by
    obtain ⟨state, wait⟩ := second.wait h
    obtain ⟨before, wait'⟩ := first.wait state
    exact ⟨before, by rw [wait, wait']⟩
  landing h := by
    obtain ⟨state, landing⟩ := second.landing h
    obtain ⟨before, landing'⟩ := first.landing state
    exact ⟨before, by rw [landing, landing']⟩
  progress p h := first.progress p (second.progress p h)

theorem Counted.eases {tClear : Nat} {r k m : LegRecord} (first : r.Counted tClear k) (second : k.Eases m) :
    r.Counted tClear m where
  swing h := first.swing (second.swing h).1
  clear h := by
    obtain ⟨state, clear, -⟩ := second.swing h
    rw [clear, first.clear state]
  wait h := by
    obtain ⟨state, wait⟩ := second.wait h
    obtain ⟨before, wait'⟩ := first.wait state
    exact ⟨before, wait.trans wait'⟩
  landing h := by
    obtain ⟨state, landing⟩ := second.landing h
    obtain ⟨before, landing'⟩ := first.landing state
    exact ⟨before, landing.trans landing'⟩
  progress p h := first.progress p (second.progress p h)

/-- A record out of the air and the wait, with no progress, has nothing to count. -/
theorem Counted.of_grounded {tClear : Nat} {r k : LegRecord}
    (state : k.state ≠ .swing ∧ k.state ≠ .liftWait ∧ k.state ≠ .landing)
    (progress : ∀ p, k.progress = some p → r.progress = some p) : r.Counted tClear k :=
  ⟨fun h => absurd h state.1, fun h => absurd h state.1, fun h => absurd h state.2.1, fun h => absurd h state.2.2,
    progress⟩

end LegRecord

namespace Device

theorem heldLeg_eases (h : Hold) (l : Leg) (r : LegRecord) : r.Eases (heldLeg h l r) := by
  unfold heldLeg
  split
  · exact .of_grounded (by simp) rfl
  · refine .of_grounded ?_ rfl
    show (if h = .noGround l then LegState.hang else .setDown) ≠ _ ∧ _ ∧ _
    split <;> simp
  · exact .refl r

theorem request_eases (q : PushRequest) (d : Device) (l : Leg) : (d.leg l).Eases ((d.request q).leg l) := by
  by_cases quiet : (d.mhu.mode = .unarmed ∨ d.mhu.mode = .safeSit) ∨ ∃ r ∈ d.mhu.stack, r.hold = q.hold
  · rw [request_of_quiet quiet, noted_leg]
    exact .refl _
  · obtain ⟨up, fresh⟩ := not_or.mp quiet
    by_cases room : d.mhu.stack.length < 4
    · obtain ⟨-, -, -, -, -, -, held, converted⟩ := request_pushes up fresh room
      by_cases hold : d.mhu.mode = .hold
      · exact .of_eq (leg_of_gpe (held hold).1 l)
      · rw [(converted hold).1]
        exact heldLeg_eases _ l _
    · obtain ⟨-, -, -, legs, -⟩ := request_overflows up fresh (not_lt.mp room)
      rw [legs]
      exact .of_grounded (by decide) rfl

theorem touchDown_eases (d : Device) (l m : Leg) : (d.leg m).Eases ((d.touchDown l).leg m) := by
  rw [touchDown_leg]
  split
  · exact .of_grounded (by simp) rfl
  · split
    · exact ⟨fun h => ⟨h, rfl, rfl⟩, fun h => ⟨h, rfl⟩, fun h => ⟨h, rfl⟩, fun _ h => h⟩
    · exact .refl _

theorem keepTargets_eases (d : Device) (l : Leg) (r : LegRecord) : r.Eases (d.keepTargets l r) := by
  unfold keepTargets
  split
  · exact .refl r
  · split
    · split <;> exact ⟨fun h => ⟨h, rfl, rfl⟩, fun h => ⟨h, rfl⟩, fun h => ⟨h, rfl⟩, fun _ h => h⟩
    · exact .refl r

/-! ## The counter update of a leg, as counting -/

theorem clearCounted_leg (d : Device) (l : Leg) :
    (d.clearCounted l).leg l = { d.leg l with clear := min ((d.leg l).clear + 1) 15 } := modLeg_leg_self l _ d

theorem landingCounted_leg (d : Device) (l : Leg) :
    (d.landingCounted l).leg l = { d.leg l with landing := min ((d.leg l).landing + 1) 255 } := modLeg_leg_self l _ d

/-- The update of a leg counts it. -/
theorem updateCounter_counted (d : Device) (l : Leg) :
    (d.leg l).Counted d.tbs.deviceConfig.tClear ((d.updateCounter l).leg l) := by
  cases state : (d.leg l).state with
  | liftWait =>
    rw [updateCounter_of_liftWait state, leg_of_gpe (d.countWait_gpe l), modLeg_leg_self]
    exact ⟨fun h => absurd (state.symm.trans h) (by decide), fun h => absurd (state.symm.trans h) (by decide),
      fun _ => ⟨state, rfl⟩, fun h => absurd (state.symm.trans h) (by decide), fun _ h => h⟩
  | swing =>
    rw [updateCounter_of_swing state]
    by_cases spent : (d.leg l).cleared = true ∨ d.tbs.deviceConfig.tClear ≤ (d.leg l).clear
    · rw [countClear_of_spent spent]
      exact ⟨fun _ => state, fun _ => (if_pos spent).symm, fun h => absurd (state.symm.trans h) (by decide),
        fun h => absurd (state.symm.trans h) (by decide), fun _ h => h⟩
    · have counted : (d.leg l).Counted d.tbs.deviceConfig.tClear ((d.clearCounted l).leg l) := by
        rw [clearCounted_leg]
        exact ⟨fun _ => state, fun _ => (if_neg spent).symm, fun h => absurd (state.symm.trans h) (by decide),
          fun h => absurd (state.symm.trans h) (by decide), fun _ h => h⟩
      obtain ⟨aloft, counting⟩ := not_or.mp spent
      rw [countClear_of_counting (by simpa using aloft) (not_le.mp counting)]
      split
      · exact counted.eases (request_eases _ _ l)
      · exact counted
  | landing =>
    have counted : (d.leg l).Counted d.tbs.deviceConfig.tClear ((d.landingCounted l).leg l) := by
      rw [landingCounted_leg]
      exact ⟨fun h => absurd (state.symm.trans h) (by decide), fun h => absurd (state.symm.trans h) (by decide),
        fun h => absurd (state.symm.trans h) (by decide), fun _ => ⟨state, rfl⟩, fun _ h => h⟩
    rw [updateCounter_of_landing state, countLanding_eq]
    split
    · exact counted.eases (request_eases _ _ l)
    · exact counted
  | setDown =>
    rw [updateCounter_of_setDown state, judgeSetDown_eq]
    split
    · rw [touchDown_leg, if_pos rfl]
      exact .of_grounded (by simp) fun p h => by simp at h
    · exact .of_grounded (by simp [state]) fun _ h => h
  | stance =>
    rw [updateCounter_of_still (.inl state)]
    exact .of_grounded (by simp [state]) fun _ h => h
  | hang =>
    rw [updateCounter_of_still (.inr (.inl state))]
    exact .of_grounded (by simp [state]) fun _ h => h
  | unset =>
    rw [updateCounter_of_still (.inr (.inr state))]
    exact .of_grounded (by simp [state]) fun _ h => h

/-- The update of a leg eases every other one. -/
theorem updateCounter_eases (d : Device) {l m : Leg} (other : m ≠ l) : (d.leg m).Eases ((d.updateCounter l).leg m) := by
  cases state : (d.leg l).state with
  | liftWait =>
    rw [updateCounter_of_liftWait state, leg_of_gpe (d.countWait_gpe l), modLeg_leg_ne _ _ other]
    exact .refl _
  | swing =>
    rw [updateCounter_of_swing state]
    by_cases spent : (d.leg l).cleared = true ∨ d.tbs.deviceConfig.tClear ≤ (d.leg l).clear
    · rw [countClear_of_spent spent]
      exact .refl _
    · have same : (d.clearCounted l).leg m = d.leg m := modLeg_leg_ne _ d other
      obtain ⟨aloft, counting⟩ := not_or.mp spent
      rw [countClear_of_counting (by simpa using aloft) (not_le.mp counting)]
      split
      · exact same ▸ request_eases _ _ m
      · exact .of_eq same
  | landing =>
    have same : (d.landingCounted l).leg m = d.leg m := modLeg_leg_ne _ d other
    rw [updateCounter_of_landing state, countLanding_eq]
    split
    · exact same ▸ request_eases _ _ m
    · exact .of_eq same
  | setDown =>
    rw [updateCounter_of_setDown state, judgeSetDown_eq]
    split
    · exact touchDown_eases d l m
    · exact .refl _
  | stance =>
    rw [updateCounter_of_still (.inl state)]
    exact .refl _
  | hang =>
    rw [updateCounter_of_still (.inr (.inl state))]
    exact .refl _
  | unset =>
    rw [updateCounter_of_still (.inr (.inr state))]
    exact .refl _

theorem updateCounter_tbs (d : Device) (l : Leg) : (d.updateCounter l).tbs = d.tbs := by simp

theorem updateCountersFrom_eases {m : Leg} (ls : List Leg) (d : Device) (absent : m ∉ ls) :
    (d.leg m).Eases ((ls.foldl (fun d l => d.updateCounter l) d).leg m) := by
  induction ls generalizing d with
  | nil => exact .refl _
  | cons l ls ih =>
    obtain ⟨other, rest⟩ : m ≠ l ∧ m ∉ ls := by simpa using absent
    exact (d.updateCounter_eases other).trans (ih (d.updateCounter l) rest)

theorem updateCountersFrom_counted {m : Leg} (ls : List Leg) (d : Device) (once : ls.Nodup) (mem : m ∈ ls) :
    (d.leg m).Counted d.tbs.deviceConfig.tClear ((ls.foldl (fun d l => d.updateCounter l) d).leg m) := by
  induction ls generalizing d with
  | nil => cases mem
  | cons l ls ih =>
    obtain ⟨absent, rest⟩ := List.nodup_cons.mp once
    by_cases same : m = l
    · subst same
      exact (d.updateCounter_counted m).eases (updateCountersFrom_eases ls _ absent)
    · have later := ih (d.updateCounter l) rest ((List.mem_cons.mp mem).resolve_left same)
      rw [updateCounter_tbs] at later
      exact (d.updateCounter_eases same).counted later

/-- The counter update of a cycle counts every leg once. -/
theorem updateCounters_counted (d : Device) (m : Leg) :
    (d.leg m).Counted d.tbs.deviceConfig.tClear (d.updateCounters.leg m) :=
  updateCountersFrom_counted Leg.all d (by decide) (Leg.mem_all m)

/-! ## The master phase when no phase step is made -/

/-- SAFE_SIT is kept, and the master phase stands but where SAFE_SIT is entered and it becomes 0 (R100). -/
structure Unstepped (d e : Device) : Prop where
  down : d.mhu.mode = .safeSit → e.mhu.mode = .safeSit
  phase : e.mhu.mode ≠ .safeSit ∨ d.mhu.mode = .safeSit → e.gpe.phase = d.gpe.phase
  seated : e.mhu.mode = .safeSit → d.mhu.mode ≠ .safeSit → e.gpe.phase = 0

theorem Unstepped.of_same {d e : Device} (mode : e.mhu.mode = d.mhu.mode) (phase : e.gpe.phase = d.gpe.phase) :
    Unstepped d e :=
  ⟨fun h => mode.trans h, fun _ => phase, fun h other => absurd (mode.symm.trans h) other⟩

theorem Unstepped.refl (d : Device) : Unstepped d d := .of_same rfl rfl

theorem Unstepped.trans {d e f : Device} (first : Unstepped d e) (second : Unstepped e f) : Unstepped d f where
  down h := second.down (first.down h)
  phase h := by
    rcases h with standing | sat
    · have between : e.mhu.mode ≠ .safeSit := fun h => standing (second.down h)
      exact (second.phase (.inl standing)).trans (first.phase (.inl between))
    · exact (second.phase (.inr (first.down sat))).trans (first.phase (.inr sat))
  seated h other := by
    by_cases sat : e.mhu.mode = .safeSit
    · exact (second.phase (.inr sat)).trans (first.seated sat other)
    · exact second.seated h sat

theorem request_unstepped (q : PushRequest) (d : Device) : Unstepped d (d.request q) := by
  by_cases quiet : (d.mhu.mode = .unarmed ∨ d.mhu.mode = .safeSit) ∨ ∃ r ∈ d.mhu.stack, r.hold = q.hold
  · rw [request_of_quiet quiet]
    exact .of_same (noted_mode q d) (by rw [noted_gpe])
  · obtain ⟨up, fresh⟩ := not_or.mp quiet
    by_cases room : d.mhu.stack.length < 4
    · obtain ⟨mode, -, -, phase, -⟩ := request_pushes up fresh room
      exact ⟨fun h => absurd (.inr h) up, fun _ => phase, fun h => absurd (mode.symm.trans h) (by decide)⟩
    · obtain ⟨mode, -, -, -, phase, -⟩ := request_overflows up fresh (not_lt.mp room)
      exact ⟨fun h => absurd (.inr h) up, fun h => absurd (h.resolve_right fun h => up (.inr h)) (not_not.mpr mode),
        fun _ _ => phase⟩

theorem updateCounter_unstepped (d : Device) (l : Leg) : Unstepped d (d.updateCounter l) := by
  cases state : (d.leg l).state with
  | liftWait =>
    rw [updateCounter_of_liftWait state]
    exact .of_same (congrArg ModeUnit.mode (raiseIf_frame _ _ _).2.2.2.2.2.1)
      ((congrArg GaitEngine.phase (d.countWait_gpe l)).trans rfl)
  | swing =>
    rw [updateCounter_of_swing state]
    by_cases spent : (d.leg l).cleared = true ∨ d.tbs.deviceConfig.tClear ≤ (d.leg l).clear
    · rw [countClear_of_spent spent]
      exact .refl d
    · have same : Unstepped d (d.clearCounted l) := .of_same rfl rfl
      obtain ⟨aloft, counting⟩ := not_or.mp spent
      rw [countClear_of_counting (by simpa using aloft) (not_le.mp counting)]
      split
      · exact same.trans (request_unstepped _ _)
      · exact same
  | landing =>
    have same : Unstepped d (d.landingCounted l) := .of_same rfl rfl
    rw [updateCounter_of_landing state, countLanding_eq]
    split
    · exact same.trans (request_unstepped _ _)
    · exact same
  | setDown =>
    rw [updateCounter_of_setDown state, judgeSetDown_eq]
    split
    · exact .of_same rfl rfl
    · exact .refl d
  | stance =>
    rw [updateCounter_of_still (.inl state)]
    exact .refl d
  | hang =>
    rw [updateCounter_of_still (.inr (.inl state))]
    exact .refl d
  | unset =>
    rw [updateCounter_of_still (.inr (.inr state))]
    exact .refl d

theorem foldl_unstepped {α : Type} {op : Device → α → Device} (each : ∀ d x, Unstepped d (op d x)) :
    ∀ (xs : List α) (d : Device), Unstepped d (xs.foldl op d)
  | [], d => .refl d
  | x :: xs, d => (each d x).trans (foldl_unstepped each xs (op d x))

theorem updateCounters_unstepped (d : Device) : Unstepped d d.updateCounters :=
  foldl_unstepped (fun d l => d.updateCounter_unstepped l) Leg.all d

theorem requestAll_unstepped (qs : List PushRequest) (d : Device) : Unstepped d (d.requestAll qs) :=
  foldl_unstepped (fun d q => request_unstepped q d) qs d

theorem requestAll_eases (qs : List PushRequest) (d : Device) (l : Leg) : (d.leg l).Eases ((d.requestAll qs).leg l) := by
  unfold requestAll
  induction qs generalizing d with
  | nil => exact .refl _
  | cons q qs ih => exact (request_eases q d l).trans (ih (d.request q))

/-! ## The end of a cycle (R67, R71, R75, R154) -/

/-- The device of a composition before its LIMIT requests are judged: the lanes and the leg bases written, the factors
of the lanes raised. -/
def composed (d : Device) : Device :=
  (recordUnclamped d (d.mapLegs d.keepTargets)).raiseAll (Leg.all.flatMap d.laneFactors)

/-- Of the modes, the holds and the engine a composition changes what its LIMIT requests do, and the leg bases. -/
theorem compose_requests (d : Device) : d.compose.mhu = (d.composed.requestAll d.limitRequests).mhu
    ∧ d.compose.gpe = (d.composed.requestAll d.limitRequests).gpe := by
  unfold compose composed
  simp [Leg.all]

theorem composed_mhu (d : Device) : d.composed.mhu = d.mhu := (raiseAll_frame _ _).2.2.2.2.2.1

theorem composed_gpe (d : Device) : d.composed.gpe = (d.mapLegs d.keepTargets).gpe := (raiseAll_frame _ _).2.1

theorem composed_leg (d : Device) (l : Leg) : d.composed.leg l = d.keepTargets l (d.leg l) :=
  (leg_of_gpe d.composed_gpe l).trans (mapLegs_leg _ d l)

theorem compose_unstepped (d : Device) : Unstepped d d.compose := by
  obtain ⟨mhu, gpe⟩ := d.compose_requests
  have before : Unstepped d d.composed :=
    .of_same (by rw [composed_mhu]) ((congrArg GaitEngine.phase d.composed_gpe).trans rfl)
  have after : Unstepped (d.composed.requestAll d.limitRequests) d.compose := .of_same (by rw [mhu]) (by rw [gpe])
  exact (before.trans (requestAll_unstepped _ _)).trans after

theorem compose_eases (d : Device) (l : Leg) : (d.leg l).Eases (d.compose.leg l) := by
  rw [leg_of_gpe d.compose_requests.2 l]
  refine .trans ?_ (requestAll_eases d.limitRequests d.composed l)
  rw [composed_leg]
  exact d.keepTargets_eases l _

theorem computeMargins_gpe (d : Device) : d.computeMargins.gpe = d.gpe := by simp

theorem computeMargins_mhu (d : Device) : d.computeMargins.mhu = d.mhu := by simp

theorem computeMargins_unstepped (d : Device) : Unstepped d d.computeMargins :=
  .of_same (by rw [computeMargins_mhu]) (by rw [computeMargins_gpe])

theorem braceCheck_unstepped (d : Device) : Unstepped d d.braceCheck := by
  unfold braceCheck
  split
  · exact request_unstepped .margin d
  · exact .refl d

theorem braceCheck_eases (d : Device) (l : Leg) : (d.leg l).Eases (d.braceCheck.leg l) := by
  unfold braceCheck
  split
  · exact request_eases .margin d l
  · exact .refl _

/-- The work of a cycle after the engine's own, before its status frame (R67, R71, R75). -/
def worked (d : Device) : Device := d.computeMargins.braceCheck.compose

theorem worked_unstepped (d : Device) : Unstepped d d.worked :=
  (d.computeMargins_unstepped.trans (braceCheck_unstepped _)).trans (compose_unstepped _)

theorem worked_eases (d : Device) (l : Leg) : (d.leg l).Eases (d.worked.leg l) := by
  have margins : d.computeMargins.leg l = d.leg l := leg_of_gpe d.computeMargins_gpe l
  exact margins ▸ (braceCheck_eases _ l).trans (compose_eases _ l)

/-- The end of a cycle is its work with the port of its status frame. -/
theorem finishCycle_eq (cause : CycleCause) (d : Device) :
    d.finishCycle cause = d.worked.withPort (d.finishCycle cause).upp := by
  unfold finishCycle
  rw [pump_eq_withPort]
  rfl

theorem statusReads_withPort {d : Device} {cause : Byte} {b : List Byte} {u : UpstreamPort}
    (reads : d.statusReads cause b) (tag : u.lastTag = d.upp.lastTag) (dropped : u.droppedCount = d.upp.droppedCount) :
    (d.withPort u).statusReads cause b := by
  unfold statusReads at reads ⊢
  show _ ∧ fieldAt b 0 2 = [cause, u.lastTag.getD 0xFF] ∧ _ ∧ _ ∧ _ ∧ _ ∧ _ ∧ _ ∧ _ ∧ _ ∧ _ ∧ _ ∧ _ ∧ _ ∧ _
    ∧ byteAt b 80 = BitVec.ofNat 8 u.droppedCount
  rw [tag, dropped]
  exact reads

/-- The status frame of a cycle: it begins at once or waits, and holds the fields of R174 (R154, R155). -/
theorem finishCycle_status (cause : CycleCause) (d : Device) : ∃ status,
    (d.upp.sending = none → (d.finishCycle cause).upp.sending = some (.status status)
      ∧ (d.finishCycle cause).upp.statusSlot = none)
    ∧ (d.upp.sending ≠ none → (d.finishCycle cause).upp.sending = d.upp.sending
      ∧ (d.finishCycle cause).upp.statusSlot = some status)
    ∧ (d.finishCycle cause).statusReads (BitVec.ofNat 8 cause.code) status := by
  refine ⟨d.worked.statusBody cause, fun idle => ?_, fun busy => ?_, ?_⟩
  · rw [finishCycle_upp, if_pos idle]
    exact ⟨rfl, rfl⟩
  · rw [finishCycle_upp, if_neg busy]
    exact ⟨rfl, rfl⟩
  · have port : d.worked.upp = d.upp := by simp [worked]
    rw [finishCycle_eq]
    refine statusReads_withPort (d.worked.statusBody_reads cause) ?_ ?_
    · rw [finishCycle_lastTag, port]
    · rw [finishCycle_upp, port]
      split <;> rfl

theorem finishCycle_port (cause : CycleCause) (d : Device) : (d.finishCycle cause).upp = { d.upp with
    sending := (d.finishCycle cause).upp.sending, statusSlot := (d.finishCycle cause).upp.statusSlot } := by
  rw [finishCycle_upp]
  split <;> rfl

end Device

/-- Settles O15: the local cycle is a counter update, the ageing and the end of a cycle, none of which steps. -/
theorem localCycleRunsWithoutFrame : Obligations.LocalCycleRunsWithoutFrame := by
  intro s running armed
  have ran : exec .localCycle s = .next (s.withDev s.dev.localCycle) :=
    State.whenPossible_of s Device.localCycle _ running (Option.isSome_iff_ne_none.mpr armed)
  obtain ⟨b, before⟩ : ∃ b, b = (s.dev.startLocalTimer.updateCounters).ageBody := ⟨_, rfl⟩
  have ended : s.dev.localCycle = b.finishCycle .atTimer := before ▸ rfl
  have split : b.finishCycle .atTimer = b.worked.withPort (b.finishCycle .atTimer).upp := b.finishCycle_eq .atTimer
  have unstepped : Device.Unstepped s.dev (b.finishCycle .atTimer) := by
    rw [split]
    refine Device.Unstepped.trans ?_ (.trans b.worked_unstepped (.of_same rfl rfl))
    have counts := Device.updateCounters_unstepped s.dev.startLocalTimer
    exact before ▸ Device.Unstepped.trans (e := s.dev.startLocalTimer) (.of_same rfl rfl)
      (counts.trans (.of_same rfl rfl))
  have counted (l : Leg) : (s.dev.leg l).Counted s.dev.tbs.deviceConfig.tClear ((b.finishCycle .atTimer).leg l) := by
    rw [split]
    have counts := Device.updateCounters_counted s.dev.startLocalTimer l
    have leg : b.leg l = s.dev.startLocalTimer.updateCounters.leg l := before ▸ rfl
    exact LegRecord.Counted.eases counts (leg ▸ b.worked_eases l)
  obtain ⟨tbs, bal, cfl, lcc, -, nsv, upp, -⟩ := Device.updateCounters_frame s.dev.startLocalTimer
  obtain ⟨walkFlag, -, current⟩ := Device.updateCounters_keeps s.dev.startLocalTimer
  have port : b.upp = { s.dev.upp with localTimer := some s.dev.tbs.deviceConfig.tCyc } := before ▸ upp
  have body : b.bal = { s.dev.bal with age := min (s.dev.bal.age + 1) 255 } := by
    rw [before]
    show ({ s.dev.startLocalTimer.updateCounters.bal with age := saturate _ } : BalanceUnit) = _
    rw [bal]
    rfl
  have lanes : b.lcc = s.dev.lcc := before ▸ lcc
  obtain ⟨walkFlag', -, current', errors, bodyKept, freshness, age⟩ := Device.finishCycle_keeps .atTimer b
  obtain ⟨tbs', cfl', nsv', -⟩ := Device.finishCycle_frame .atTimer b
  obtain ⟨status, idle, busy, reads⟩ := Device.finishCycle_status .atTimer b
  have ports := Device.finishCycle_port .atTimer b
  rw [port] at ports idle busy
  rw [ran, ended]
  refine ⟨_, status, rfl, rfl, ?_, ?_, ?_, ?_, ?_, ?_, fun l => ?_, ?_, ?_, ?_, unstepped.phase, unstepped.seated,
    fun l => ⟨(counted l).swing, (counted l).wait, (counted l).progress, (counted l).landing, (counted l).clear⟩,
    fun free => (idle free).1, busy, reads, ?_, ?_, ?_, ?_⟩
  · exact (congrArg UpstreamPort.localTimer ports).trans rfl
  · exact (congrArg UpstreamPort.silenceTimer ports).trans rfl
  · exact (congrArg UpstreamPort.lastTag ports).trans rfl
  · exact age.trans ((congrArg BalanceUnit.age body).trans rfl)
  · exact bodyKept.trans ((congrArg BalanceUnit.body body).trans rfl)
  · exact freshness.trans ((congrArg BalanceUnit.freshness body).trans rfl)
  · exact (Device.finishCycle_segment .atTimer b l).trans (by rw [lanes])
  · exact errors.trans (by rw [lanes])
  · exact walkFlag'.trans (before ▸ walkFlag)
  · exact current'.trans (before ▸ current)
  · exact tbs'.trans (before ▸ tbs)
  · exact nsv'.trans (before ▸ nsv)
  · exact cfl'.trans (before ▸ cfl)
  · refine split.trans ?_
    have aged : b = ({ s.dev.startLocalTimer.updateCounters with
        bal := { s.dev.startLocalTimer.updateCounters.bal with age := min (s.dev.bal.age + 1) 255 } } : Device) := by
      rw [before]
      show ({ s.dev.startLocalTimer.updateCounters with bal := _ } : Device) = _
      rw [bal]
      rfl
    exact congrArg (fun d : Device => d.worked.withPort (b.finishCycle .atTimer).upp) aged

end Sys2Proof.Machine
end

section
/-!
PROOFS. An accepted cycle frame (O12, O13): what of its content reaches each block, and that outside WALK, STAND and
HOLD it moves no leg.
-/

namespace Sys2Proof.Machine

namespace Device

/-! ## A frame in UNARMED and SAFE_SIT (R15, R22) -/

/-- The modes in which no gait is walked and no hold is pushed. -/
def isDown (d : Device) : Prop := d.mhu.mode = .unarmed ∨ d.mhu.mode = .safeSit

theorem requestAll_limit_of_down (js : List Joint) (d : Device) (down : d.isDown) :
    (d.requestAll (js.map .limit)).mhu = d.mhu ∧ (d.requestAll (js.map .limit)).gpe = d.gpe := by
  induction js generalizing d with
  | nil => exact ⟨rfl, rfl⟩
  | cons j js ih =>
    have only : d.request (.limit j) = d.noted (.limit j) := request_of_quiet (.inl down)
    have mhu : (d.request (.limit j)).mhu = d.mhu := by
      rw [only, noted_mhu, if_neg (by simp)]
    have gpe : (d.request (.limit j)).gpe = d.gpe := by rw [only, noted_gpe]
    have downAfter : (d.request (.limit j)).isDown := by rwa [isDown, mhu]
    obtain ⟨mhu', gpe'⟩ := ih (d.request (.limit j)) downAfter
    exact ⟨mhu'.trans mhu, gpe'.trans gpe⟩

theorem updateCounters_of_unset {d : Device} (unset : ∀ l, d.legState l = .unset) : d.updateCounters = d := by
  have still (l : Leg) : d.updateCounter l = d := updateCounter_of_still (.inr (.inr (unset l)))
  have fold (ls : List Leg) : ls.foldl (fun d l => d.updateCounter l) d = d := by
    induction ls with
    | nil => rfl
    | cons l ls ih => rw [List.foldl_cons, still, ih]
  exact fold Leg.all

theorem braceCheck_of_down {d : Device} (down : d.isDown) : d.braceCheck = d := by
  unfold braceCheck
  refine if_neg ?_
  rintro ⟨up, -⟩
  exact Mode.not_down_of_up up down

theorem keepTargets_unset (d : Device) (l : Leg) : d.keepTargets l unsetLeg = unsetLeg := by
  unfold keepTargets
  split
  · rfl
  · exact if_neg (by simp [wantedKind, unsetLeg])

theorem compose_of_down {d : Device} (down : d.isDown) (unset : ∀ l, d.leg l = unsetLeg) :
    d.compose.mhu = d.mhu ∧ d.compose.gpe = d.gpe := by
  obtain ⟨mhu, gpe⟩ := d.compose_requests
  have downToo : d.composed.isDown := by rwa [isDown, composed_mhu]
  have legs : (d.mapLegs d.keepTargets).gpe.legs = d.gpe.legs := PerLeg.ext_get fun l => by
    have each := mapLegs_leg d.keepTargets d l
    rw [unset, keepTargets_unset, ← unset l] at each
    exact each
  have engine : d.composed.gpe = d.gpe := by
    rw [composed_gpe]
    show ({ d.gpe with legs := (d.mapLegs d.keepTargets).gpe.legs } : GaitEngine) = d.gpe
    rw [legs]
  obtain ⟨mhu', gpe'⟩ := requestAll_limit_of_down (Joint.all.filter fun j => (d.composeJoint j).freeze) d.composed downToo
  exact ⟨(mhu.trans mhu').trans (composed_mhu d), (gpe.trans gpe').trans engine⟩

theorem finishCycle_of_down {d : Device} (down : d.isDown) (unset : ∀ l, d.leg l = unsetLeg) (cause : CycleCause) :
    (d.finishCycle cause).mhu = d.mhu ∧ (d.finishCycle cause).gpe = d.gpe := by
  have margins : d.computeMargins.isDown := by rwa [isDown, computeMargins_mhu]
  have legs (l : Leg) : d.computeMargins.leg l = unsetLeg := (leg_of_gpe d.computeMargins_gpe l).trans (unset l)
  obtain ⟨mhu, gpe⟩ := compose_of_down margins legs
  have works : d.worked = d.computeMargins.compose := congrArg compose (braceCheck_of_down margins)
  rw [finishCycle_eq, works]
  exact ⟨mhu.trans d.computeMargins_mhu, gpe.trans d.computeMargins_gpe⟩

/-- An accepted frame's content but its gait index and its walk flag (R150, R151). -/
def filled (c : CycleContent) (d : Device) : Device :=
  ((((d.takeTag c.tag).restartSilence).countFrame).takeBody c.body).takeSegments c.segments c.errors

theorem takeFrame_eq (c : CycleContent) (d : Device) :
    d.takeFrame c = ((d.filled c).takeGaitIndex c.gait).takeWalkFlag c.walk := rfl

theorem filled_gpe (c : CycleContent) (d : Device) : (d.filled c).gpe = d.gpe := (raiseIf_frame _ _ _).2.1

theorem filled_mhu (c : CycleContent) (d : Device) :
    (d.filled c).mhu = { d.mhu with framesSinceSilence := min (d.mhu.framesSinceSilence + 1) 2 } := by
  have tagged : (d.takeTag c.tag).mhu = d.mhu := (raiseIf_frame _ _ _).2.2.2.2.2.1
  rw [← tagged]
  rfl

theorem takeWalkFlag_of_not_stand {d : Device} (other : d.mhu.mode ≠ .stand) (w : Bool) :
    d.takeWalkFlag w = { d with mhu := { d.mhu with walkFlag := w } } :=
  if_neg fun h => other h.1

theorem takeGaitIndex_of_unarmed {d : Device} (unarmed : d.mhu.mode = .unarmed) (g : Fin 8) :
    d.takeGaitIndex g = { d with gpe := { d.gpe with current := g } } := by
  unfold takeGaitIndex
  rw [unarmed]

theorem takeGaitIndex_of_safeSit {d : Device} (safeSit : d.mhu.mode = .safeSit) (g : Fin 8) : d.takeGaitIndex g = d := by
  unfold takeGaitIndex
  rw [safeSit]

theorem stepInWalk_of_not_walk {d : Device} (other : d.mhu.mode ≠ .walk) (step : Nat) : d.stepInWalk step = d :=
  if_neg other

/-- In UNARMED and SAFE_SIT the cycle of an accepted frame leaves the modes and the engine as the frame's content has
left them. -/
theorem acceptFrame_of_down {d : Device} (down : d.isDown) (unset : ∀ l, d.leg l = unsetLeg) (c : CycleContent) :
    (d.acceptFrame c).mhu = { (d.filled c).mhu with walkFlag := c.walk }
    ∧ (d.acceptFrame c).gpe = ((d.filled c).takeGaitIndex c.gait).gpe := by
  have mode : ((d.filled c).takeGaitIndex c.gait).mhu = (d.filled c).mhu :=
    (takeGaitIndex_frame c.gait (d.filled c)).2.2.2.2.1
  have filledMode : (d.filled c).mhu.mode = d.mhu.mode := by rw [filled_mhu]
  have other : ((d.filled c).takeGaitIndex c.gait).mhu.mode ≠ .stand := by
    rw [mode, filledMode]
    rcases down with h | h <;> simp [h]
  obtain ⟨e, taken⟩ : ∃ e, e = d.takeFrame c := ⟨_, rfl⟩
  have content := takeWalkFlag_of_not_stand other c.walk
  rw [← takeFrame_eq, ← taken] at content
  have mhu : e.mhu = { (d.filled c).mhu with walkFlag := c.walk } := by rw [content, ← mode]
  have gpe : e.gpe = ((d.filled c).takeGaitIndex c.gait).gpe := by rw [content]
  have legs (l : Leg) : e.leg l = unsetLeg := by
    have before : (d.filled c).leg l = unsetLeg := (leg_of_gpe (d.filled_gpe c) l).trans (unset l)
    rw [leg_of_gpe gpe]
    rcases down with h | h
    · rw [takeGaitIndex_of_unarmed (filledMode.trans h)]
      exact before
    · rwa [takeGaitIndex_of_safeSit (filledMode.trans h)]
  have downAfter : e.isDown := by
    rw [isDown, mhu]
    show (d.filled c).mhu.mode = _ ∨ (d.filled c).mhu.mode = _
    rwa [filledMode]
  have walks : e.mhu.mode ≠ .walk := by
    rcases downAfter with h | h <;> simp [h]
  have runs : d.acceptFrame c = e.finishCycle .atFrame := by
    unfold acceptFrame
    rw [← taken, updateCounters_of_unset fun l => congrArg LegRecord.state (legs l), stepInWalk_of_not_walk walks]
  obtain ⟨mhu', gpe'⟩ := finishCycle_of_down downAfter legs .atFrame
  rw [runs]
  exact ⟨mhu'.trans mhu, gpe'.trans gpe⟩

end Device

/-- A cycle frame with a new tag is accepted (R150). -/
theorem exec_cycleFrame_of_accepted {body : List Byte} {s : State} (length : body.length = 88)
    (listens : s.dev.listening = true) (fresh : s.dev.upp.lastTag ≠ some (byteAt body 0)) :
    exec (.cycleFrame body) s = .next (s.withDev (s.dev.acceptFrame (cycleContent body))) := by
  obtain ⟨running, unpended⟩ : s.dev.running = true ∧ s.dev.upp.restartPending = false := by
    simpa [Device.listening] using listens
  rw [exec_cycleFrame length running, Device.cycleFrame_of_accepted unpended fresh]

/-- The engine after the gait index of a frame in UNARMED and SAFE_SIT. -/
theorem Device.takeGaitIndex_gpe_of_down {d : Device} (g : Fin 8) :
    (d.mhu.mode = .unarmed → (d.takeGaitIndex g).gpe = { d.gpe with current := g })
    ∧ (d.mhu.mode = .safeSit → (d.takeGaitIndex g).gpe = d.gpe) :=
  ⟨fun h => by rw [takeGaitIndex_of_unarmed h], fun h => by rw [takeGaitIndex_of_safeSit h]⟩

/-- Settles O13: in UNARMED and SAFE_SIT the cycle's own work changes neither the modes nor the engine. -/
theorem frameOutsideGaitControlMovesNoLeg : Obligations.FrameOutsideGaitControlMovesNoLeg := by
  intro body s length listens fresh down unset
  obtain ⟨c, content⟩ : ∃ c, c = cycleContent body := ⟨_, rfl⟩
  have ran := exec_cycleFrame_of_accepted length listens fresh
  obtain ⟨mhu, gpe⟩ := Device.acceptFrame_of_down down unset c
  rw [← content] at ran
  obtain ⟨e, accepted⟩ : ∃ e, e = s.dev.acceptFrame c := ⟨_, rfl⟩
  obtain ⟨ofUnarmed, ofSafeSit⟩ := Device.takeGaitIndex_gpe_of_down (d := s.dev.filled c) c.gait
  rw [← accepted] at ran mhu gpe
  rw [Device.filled_mhu] at mhu ofUnarmed ofSafeSit
  rw [Device.filled_gpe] at ofUnarmed ofSafeSit
  have index : c.gait.val = min (u8 body 2) 7 := by
    rw [content]
    rfl
  refine ⟨_, ran, (congrArg ModeUnit.mode mhu).trans rfl, (congrArg ModeUnit.stack mhu).trans rfl,
    (congrArg ModeUnit.sit mhu).trans rfl, ?_⟩
  show e.gpe.legs = _ ∧ e.gpe.phase = _ ∧ (_ → e.gpe.current.val = _) ∧ (_ → e.gpe.current = _)
  rcases down with h | h
  · rw [gpe, ofUnarmed h]
    exact ⟨rfl, rfl, fun _ => index, fun sat => absurd (h.symm.trans sat) (by decide)⟩
  · rw [gpe, ofSafeSit h]
    exact ⟨rfl, rfl, fun unarmed => absurd (h.symm.trans unarmed) (by decide), fun _ => rfl⟩

/-! ## What reaches the blocks (R151, R173) -/

theorem TargetKind.ofCode_eq (n : Nat) : TargetKind.ofCode n = if n = 1 then .touchdown else .stance := by
  unfold ofCode
  split
  · rfl
  next other => exact (if_neg other).symm

theorem segmentAt_eq (body : List Byte) (l : Leg) : (cycleContent body).segments.get l =
    { kind := if u8 body (36 + 13 * l.number) = 1 then .touchdown else .stance
      targets := .ofFn fun i => clampInt (-18000) 18000 (s16 body (37 + 13 * l.number + 2 * i.number))
      stiffness := .ofFn fun i => min (u16 body (43 + 13 * l.number + 2 * i.number)) 4095 } := by
  show PerLeg.get (PerLeg.ofFn fun l => segmentAt body (36 + 13 * l.number)) l = _
  have targets : 36 + 13 * l.number + 1 = 37 + 13 * l.number := by omega
  have stiffness : 36 + 13 * l.number + 7 = 43 + 13 * l.number := by omega
  rw [PerLeg.get_ofFn, segmentAt, TargetKind.ofCode_eq, targets, stiffness]
  rfl

theorem bodyState_eq (body : List Byte) : (cycleContent body).body =
    { com := { x := clampInt (-500) 500 (s16 body 4), y := clampInt (-500) 500 (s16 body 6) }
      height := clampInt 100 800 (s16 body 8)
      roll := clampInt (-2048) 2048 (s16 body 10)
      pitch := clampInt (-2048) 2048 (s16 body 12)
      feet := .ofFn fun l => { x := clampInt (-2000) 2000 (s16 body (14 + 4 * l.number))
                               y := clampInt (-2000) 2000 (s16 body (16 + 4 * l.number)) } } := by
  have second (l : Leg) : 14 + 4 * l.number + 2 = 16 + 4 * l.number := by omega
  show bodyStateOf body = _
  unfold bodyStateOf footAt
  simp only [second]
  rfl

theorem walk_eq (body : List Byte) : (cycleContent body).walk = decide (byteAt body 3 ≠ 0) := by
  show (byteAt body 3 != 0#8) = _
  by_cases zero : byteAt body 3 = 0#8 <;> simp [zero]

namespace Device

/-- The device after an accepted frame's content, counters and phase step, before the end of its cycle. -/
def frameStepped (c : CycleContent) (d : Device) : Device := ((d.takeFrame c).updateCounters).stepInWalk c.step

theorem acceptFrame_eq (c : CycleContent) (d : Device) : d.acceptFrame c = (d.frameStepped c).finishCycle .atFrame := rfl

/-- Of the content taken, the engine's work in the cycle changes the modes and the engine alone. -/
theorem frameStepped_blocks (c : CycleContent) (d : Device) :
    (d.frameStepped c).tbs = d.tbs ∧ (d.frameStepped c).bal = (d.takeFrame c).bal
    ∧ (d.frameStepped c).lcc = (d.takeFrame c).lcc ∧ (d.frameStepped c).cfl = d.cfl ∧ (d.frameStepped c).nsv = d.nsv
    ∧ (d.frameStepped c).upp
      = { d.upp with lastTag := some c.tag, localTimer := none, silenceTimer := some d.silenceLimit }
    ∧ (d.frameStepped c).mhu.walkFlag = c.walk
    ∧ (d.frameStepped c).mhu.framesSinceSilence = min (d.mhu.framesSinceSilence + 1) 2 := by
  obtain ⟨-, -, upp, tbs, cfl, -, nsv, -⟩ := takeFrame_blocks c d
  obtain ⟨tbs1, bal1, cfl1, lcc1, -, nsv1, upp1, -⟩ := updateCounters_frame (d.takeFrame c)
  obtain ⟨tbs2, bal2, cfl2, lcc2, -, nsv2, upp2, -⟩ := stepInWalk_frame c.step (d.takeFrame c).updateCounters
  obtain ⟨walk1, frames1, -⟩ := updateCounters_keeps (d.takeFrame c)
  obtain ⟨walk2, frames2⟩ := stepInWalk_keeps c.step (d.takeFrame c).updateCounters
  exact ⟨(tbs2.trans tbs1).trans tbs, bal2.trans bal1, lcc2.trans lcc1, (cfl2.trans cfl1).trans cfl,
    (nsv2.trans nsv1).trans nsv, (upp2.trans upp1).trans upp, (walk2.trans walk1).trans (takeFrame_walkFlag c d),
    (frames2.trans frames1).trans (takeFrame_frames c d)⟩

/-- What the content but the gait index and the walk flag leaves as it is. -/
theorem filled_blocks (c : CycleContent) (d : Device) :
    (d.filled c).tbs = d.tbs ∧ (d.filled c).cfl = d.cfl ∧ (d.filled c).llc = d.llc ∧ (d.filled c).nsv = d.nsv
    ∧ (d.filled c).upp.lastTag = some c.tag
    ∧ (d.filled c).bal = { d.bal with body := some c.body, freshness := .fresh, age := 0 }
    ∧ (d.filled c).lcc = (d.takeSegments c.segments c.errors).lcc := by
  obtain ⟨tbs, -, bal, cfl, lcc, -, llc, nsv, upp, -⟩ := raiseIf_frame (d.tagGap c.tag) .seqGap
    { d with upp := { d.upp with lastTag := some c.tag } }
  refine ⟨tbs, cfl, llc, nsv, congrArg UpstreamPort.lastTag upp, ?_, ?_⟩
  · show ({ (d.takeTag c.tag).bal with body := _, freshness := _, age := _ } : BalanceUnit) = _
    rw [show (d.takeTag c.tag).bal = d.bal from bal]
  · show ((d.takeTag c.tag).takeSegments c.segments c.errors).lcc = _
    unfold takeSegments
    rw [show (d.takeTag c.tag).lcc = d.lcc from lcc]

theorem takeSegments_jointState (segments : PerLeg LegSegment) (errors : BodyErrors) (d : Device) (j : Joint) :
    (d.takeSegments segments errors).jointState j = d.jointState j := by
  unfold jointState takeSegments
  rw [PerLeg.get_ofFn]

theorem filled_jointState (c : CycleContent) (d : Device) (j : Joint) :
    (d.filled c).jointState j = d.jointState j := by
  obtain ⟨-, -, -, -, -, -, lcc⟩ := d.filled_blocks c
  rw [← takeSegments_jointState c.segments c.errors d j]
  unfold jointState
  rw [lcc]

theorem filled_segment (c : CycleContent) (d : Device) (l : Leg) :
    ((d.filled c).lcc.lanes.get l).segment = some (c.segments.get l) := by
  obtain ⟨-, -, -, -, -, -, lcc⟩ := d.filled_blocks c
  rw [lcc]
  simp [takeSegments]

theorem filled_factor {f : Factor} (other : f ≠ .seqGap) (c : CycleContent) (d : Device) :
    (d.filled c).factor f = d.factor f := by
  show (d.takeTag c.tag).factor f = _
  unfold takeTag raiseIf
  split
  · rw [raise_factor_ne _ other]
    rfl
  · rfl

end Device

/-- Settles O12: each part of the frame's content is followed to its block through the cycle, whose own work leaves it. -/
theorem acceptedFrameHandsContentToBlocks : Obligations.AcceptedFrameHandsContentToBlocks := by
  refine ⟨fun body s length listens fresh => ?_, rfl, rfl, rfl, rfl, rfl, fun l n j => rfl⟩
  obtain ⟨c, content⟩ : ∃ c, c = cycleContent body := ⟨_, rfl⟩
  have ran := exec_cycleFrame_of_accepted length listens fresh
  rw [← content, Device.acceptFrame_eq] at ran
  obtain ⟨b, stepped⟩ : ∃ b, b = s.dev.frameStepped c := ⟨_, rfl⟩
  obtain ⟨tbs, bal, lcc, cfl, nsv, port, walk, frames⟩ := s.dev.frameStepped_blocks c
  obtain ⟨balance, lanes, -⟩ := Device.takeFrame_blocks c s.dev
  rw [← stepped] at ran tbs bal lcc cfl nsv port walk frames
  rw [balance] at bal
  rw [lanes] at lcc
  obtain ⟨walk', frames', -, errors', body', freshness', age'⟩ := Device.finishCycle_keeps .atFrame b
  obtain ⟨tbs', cfl', nsv', -⟩ := Device.finishCycle_frame .atFrame b
  obtain ⟨status, idle, busy, reads⟩ := Device.finishCycle_status .atFrame b
  have ports := Device.finishCycle_port .atFrame b
  rw [port] at ports idle busy
  have bodyState : (b.finishCycle .atFrame).bal.body = some c.body := by rw [body', bal]
  have errors : (b.finishCycle .atFrame).lcc.errors = c.errors := by
    rw [errors', lcc]
    rfl
  have segments (l : Leg) : ((b.finishCycle .atFrame).lcc.lanes.get l).segment = some (c.segments.get l) := by
    rw [Device.finishCycle_segment, lcc]
    simp [Device.takeSegments]
  have counted : (b.finishCycle .atFrame).mhu.framesSinceSilence = min (s.dev.mhu.framesSinceSilence + 1) 2 :=
    frames'.trans frames
  have tag : (b.finishCycle .atFrame).upp.lastTag = some c.tag := by rw [ports]
  refine ⟨_, status, ran, rfl, ?_, ?_, ?_, ?_, ?_, ?_, fun l => ?_, counted, ?_, ?_, ?_, ?_, ?_, idle, busy, reads, ?_, ?_,
    ?_, ?_⟩
  · exact (congrArg UpstreamPort.localTimer ports).trans rfl
  · exact (congrArg UpstreamPort.silenceTimer ports).trans rfl
  · exact freshness'.trans ((congrArg BalanceUnit.freshness bal).trans rfl)
  · exact age'.trans ((congrArg BalanceUnit.age bal).trans rfl)
  · exact bodyState.trans (congrArg some ((congrArg CycleContent.body content).trans (bodyState_eq body)))
  · exact errors.trans ((congrArg CycleContent.errors content).trans rfl)
  · exact (segments l).trans (congrArg some ((congrArg (CycleContent.segments · |>.get l) content).trans
      (segmentAt_eq body l)))
  · exact (walk'.trans walk).trans ((congrArg CycleContent.walk content).trans (walk_eq body))
  · exact tbs'.trans tbs
  · exact nsv'.trans nsv
  · exact cfl'.trans cfl
  · exact (congrArg UpstreamPort.replyQueue ports).trans rfl
  · exact (congrArg UpstreamPort.crcCount ports).trans rfl
  · exact (congrArg UpstreamPort.formCount ports).trans rfl
  · exact (congrArg UpstreamPort.droppedCount ports).trans rfl
  · obtain ⟨tbsF, cflF, llcF, nsvF, tagF, balF, lccF⟩ := s.dev.filled_blocks c
    refine ⟨s.dev.filled c, c.gait, ?_, tbsF, s.dev.filled_gpe c, cflF, llcF, nsvF, tagF.trans tag.symm, ?_, ?_, ?_,
      s.dev.filled_jointState c, fun l => (s.dev.filled_segment c l).trans (segments l).symm,
      fun f other => Device.filled_factor other c s.dev, ?_⟩
    · rw [content]
      rfl
    · refine balF.trans ?_
      show _ = ({ s.dev.bal with body := (b.finishCycle .atFrame).bal.body, freshness := .fresh, age := 0 } : BalanceUnit)
      rw [bodyState]
    · refine (s.dev.filled_mhu c).trans ?_
      show _ = ({ s.dev.mhu with framesSinceSilence := (b.finishCycle .atFrame).mhu.framesSinceSilence } : ModeUnit)
      rw [counted]
    · refine Eq.trans ?_ errors.symm
      rw [lccF]
      rfl
    · refine (b.finishCycle_eq .atFrame).trans ?_
      have walks : decide (byteAt body 3 ≠ 0) = c.walk := (walk_eq body).symm.trans (congrArg CycleContent.walk content.symm)
      have steps : min (u8 body 1) 64 = c.step := by
        rw [content]
        rfl
      rw [walks, steps, stepped]
      rfl

end Sys2Proof.Machine
end

section
/-!
PROOFS. The transaction of a limb link (O41 to O44): its begin and its command frame, the delivery, the echo check, and
the end of an abandoned frame.
-/

namespace Sys2Proof.Machine

theorem PerLeg.set_set {α : Type} (p : PerLeg α) (l : Leg) (x y : α) : (p.set l x).set l y = p.set l y :=
  PerLeg.ext_get fun m => by
    rw [PerLeg.get_set, PerLeg.get_set, PerLeg.get_set]
    split <;> rfl

theorem PerLeg.set_get {α : Type} (p : PerLeg α) (l : Leg) : p.set l (p.get l) = p :=
  PerLeg.ext_get fun m => by
    rw [PerLeg.get_set]
    split
    next same => rw [same]
    next => rfl

/-- An event that the state rules out is a fault (log 8). -/
theorem State.whenPossible_of_not {s : State} (f : Device → Device) {p : Bool} (running : s.dev.running = true)
    (impossible : p = false) : s.whenPossible p f = .fault .eventImpossible := by
  unfold whenPossible whenRunning
  rw [if_pos running, impossible]
  rfl

namespace Device

theorem modLink_eq (l : Leg) (f : LinkController → LinkController) (d : Device) :
    d.modLink l f = { d with llc := d.llc.set l (f (d.link l)) } := rfl

theorem modLink_frame (l : Leg) (f : LinkController → LinkController) (d : Device) :
    d.modLink l f = { d with llc := d.llc.set l ((d.modLink l f).link l) } := by
  rw [modLink_link_self]
  rfl

theorem modLink_modLink (l : Leg) (f g : LinkController → LinkController) (d : Device) :
    (d.modLink l f).modLink l g = d.modLink l fun k => g (f k) := by
  rw [modLink_eq, modLink_link_self, modLink_eq, modLink_eq, PerLeg.set_set]

/-! ## The begin of a transaction (R120 to R122) -/

/-- A link as its transaction begins with a command (R122). -/
def begun (settings : LinkConfig) (c : LimbCommand) (k : LinkController) : LinkController :=
  { k with state := .lowBreak, inFlight := some c, abandoned := none, settings := settings,
           answered := .replicate false }

theorem beginTransaction_eq (l : Leg) (c : LimbCommand) (d : Device) :
    d.beginTransaction l c = d.modLink l (begun d.tbs.linkConfig c) := rfl

theorem lineFree_of_empty {d : Device} {l : Leg} (empty : (d.link l).waiting = none) :
    d.lineFree l = d.modLink l fun k => { k with state := .idle } := by
  unfold lineFree
  rw [empty]

theorem lineFree_of_waiting {d : Device} {l : Leg} {c : LimbCommand} (waits : (d.link l).waiting = some c) :
    d.lineFree l = d.modLink l fun k => begun d.tbs.linkConfig c { k with waiting := none } := by
  unfold lineFree
  rw [waits]
  exact modLink_modLink l _ _ d

theorem handOff_of_idle {d : Device} {l : Leg} (idle : (d.link l).state = .idle) (c : LimbCommand) :
    d.handOff l c = d.modLink l (begun d.tbs.linkConfig c) := if_pos idle

theorem handOff_of_busy {d : Device} {l : Leg} (busy : (d.link l).state ≠ .idle) (c : LimbCommand) : d.handOff l c =
    (d.modLink l fun k => { k with waiting := some c }).raiseIf (d.link l).waiting.isSome .cycleOverrun := if_neg busy

theorem handOff_link_self (d : Device) (l : Leg) (c : LimbCommand) : (d.handOff l c).link l =
    if (d.link l).state = .idle then begun d.tbs.linkConfig c (d.link l) else { d.link l with waiting := some c } := by
  by_cases idle : (d.link l).state = .idle
  · rw [handOff_of_idle idle, modLink_link_self, if_pos idle]
  · have links : ∀ e : Device, e.llc = (d.modLink l fun k => { k with waiting := some c }).llc →
        e.link l = { d.link l with waiting := some c } := fun e same =>
      (congrArg (PerLeg.get · l) same).trans (modLink_link_self l _ d)
    rw [handOff_of_busy idle, if_neg idle]
    exact links _ (raiseIf_frame _ _ _).2.2.2.2.2.2.1

theorem handOff_link_ne (d : Device) {l m : Leg} (other : m ≠ l) (c : LimbCommand) :
    (d.handOff l c).link m = d.link m := by
  by_cases idle : (d.link l).state = .idle
  · rw [handOff_of_idle idle, modLink_link_ne _ _ other]
  · have links : ∀ e : Device, e.llc = (d.modLink l fun k => { k with waiting := some c }).llc →
        e.link m = d.link m := fun e same =>
      (congrArg (PerLeg.get · m) same).trans (modLink_link_ne _ d other)
    rw [handOff_of_busy idle]
    exact links _ (raiseIf_frame _ _ _).2.2.2.2.2.2.1

theorem handOff_tbs (d : Device) (l : Leg) (c : LimbCommand) : (d.handOff l c).tbs = d.tbs := (handOff_frame l c d).1

/-- Hand-offs to other links leave a link as it is. -/
theorem handOffs_link_of_not_mem {m : Leg} (command : Leg → LimbCommand) (ls : List Leg) (d : Device) (absent : m ∉ ls) :
    (ls.foldl (fun e l => e.handOff l (command l)) d).link m = d.link m := by
  induction ls generalizing d with
  | nil => rfl
  | cons l ls ih =>
    obtain ⟨other, rest⟩ : m ≠ l ∧ m ∉ ls := by simpa using absent
    rw [List.foldl_cons, ih _ rest, handOff_link_ne d other]

theorem handOffs_tbs (command : Leg → LimbCommand) (ls : List Leg) (d : Device) :
    (ls.foldl (fun e l => e.handOff l (command l)) d).tbs = d.tbs := by
  induction ls generalizing d with
  | nil => rfl
  | cons l ls ih => rw [List.foldl_cons, ih, handOff_tbs]

/-- Hand-offs to links, each once, give a link what its own hand-off gives it. -/
theorem handOffs_link {m : Leg} (command : Leg → LimbCommand) (ls : List Leg) (d : Device) (once : ls.Nodup)
    (mem : m ∈ ls) : (ls.foldl (fun e l => e.handOff l (command l)) d).link m = (d.handOff m (command m)).link m := by
  induction ls generalizing d with
  | nil => cases mem
  | cons l ls ih =>
    obtain ⟨absent, rest⟩ := List.nodup_cons.mp once
    by_cases same : m = l
    · subst same
      rw [List.foldl_cons, handOffs_link_of_not_mem command ls _ absent]
    · rw [List.foldl_cons, ih _ rest ((List.mem_cons.mp mem).resolve_left same), handOff_link_self, handOff_link_self,
        handOff_link_ne d same, handOff_tbs]

/-- At the end of the compositions each link is what the hand-off of its lane's command makes of it (R86, R95). -/
theorem compose_link (d : Device) (l : Leg) :
    d.compose.link l = (d.handOff l ((d.composeLeg l).map (·.entry))).link l := by
  have seen : d.compose = Leg.all.foldl (fun e l => e.handOff l ((d.composeLeg l).map (·.entry)))
      (d.composed.requestAll d.limitRequests) := rfl
  obtain ⟨tbs, -, -, -, llc, -⟩ := requestAll_frame d.limitRequests d.composed
  obtain ⟨tbs', -, -, -, -, -, llc', -⟩ :=
    raiseAll_frame (Leg.all.flatMap d.laneFactors) (recordUnclamped d (d.mapLegs d.keepTargets))
  have tables : (d.composed.requestAll d.limitRequests).tbs = d.tbs := tbs.trans tbs'
  have link : (d.composed.requestAll d.limitRequests).link l = d.link l :=
    congrArg (PerLeg.get · l) (llc.trans llc')
  rw [seen, handOffs_link (fun l => (d.composeLeg l).map (·.entry)) Leg.all _ (by decide) (Leg.mem_all l),
    handOff_link_self, handOff_link_self, tables, link]

end Device

/-- Settles O41: the end of the preamble and of the break, and the hand-off of a composed command. -/
theorem preambleAndBreakEndPassOn : Obligations.PreambleAndBreakEndPassOn := by
  refine ⟨fun s l running => ⟨fun preamble => ?_, fun low whole => ?_⟩,
    fun d l c => ⟨fun idle => ?_, fun busy => ?_, d.compose_link l⟩⟩
  · have ran : exec (.preambleEnd l) s = .next (s.withDev (s.dev.lineFree l)) :=
      State.whenPossible_of s (Device.lineFree l) _ running (decide_eq_true preamble)
    cases waiting : (s.dev.link l).waiting with
    | none =>
      rw [Device.lineFree_of_empty waiting] at ran
      have link := Device.modLink_link_self l (fun k => { k with state := .idle }) s.dev
      exact ⟨_, ran, rfl, Device.modLink_frame l _ s.dev, fun _ => link, fun c some => by simp at some⟩
    | some c =>
      rw [Device.lineFree_of_waiting waiting] at ran
      have link := Device.modLink_link_self l
        (fun k => Device.begun s.dev.tbs.linkConfig c { k with waiting := none }) s.dev
      refine ⟨_, ran, rfl, Device.modLink_frame l _ s.dev, fun empty => by simp at empty, fun e some => ?_⟩
      obtain rfl : c = e := Option.some.inj some
      exact link
  · exact State.whenPossible_of s (Device.beginSending l) _ running (by simp [low, whole])
  · exact Device.handOff_of_idle idle c
  · obtain ⟨-, -, -, -, -, -, llc, -⟩ := Device.raiseIf_frame (d.link l).waiting.isSome .cycleOverrun
      (d.modLink l fun k => { k with waiting := some c })
    rw [Device.handOff_of_busy busy]
    refine ⟨llc, fun empty => ?_, fun waits => ?_⟩
    · rw [empty]
      rfl
    · obtain ⟨old, present⟩ := Option.ne_none_iff_exists'.mp waits
      rw [present]
      exact ⟨Device.raise_factor_self .cycleOverrun _, fun f other => Device.raise_factor_ne _ other⟩

/-! ## Delivery (R87, R101, R123) -/

namespace Device

theorem judgeLowering_of_seated {d : Device}
    (seated : d.mhu.mode = .safeSit ∧ d.mhu.sit = some .lowering ∧ d.loweringComplete = true) :
    d.judgeLowering = ({ d with mhu := { d.mhu with sit := some .seated } }).raise .modeChanged := if_pos seated

theorem judgeLowering_of_not {d : Device}
    (not : ¬ (d.mhu.mode = .safeSit ∧ d.mhu.sit = some .lowering ∧ d.loweringComplete = true)) :
    d.judgeLowering = d := if_neg not

theorem deliver_jointState (l : Leg) (c : LimbCommand) (d : Device) (m : Leg) (i : JointIx) :
    (d.deliver l c).jointState ⟨m, i⟩
      = if m = l then deliveredJoint (c.get i) (d.jointState ⟨m, i⟩) else d.jointState ⟨m, i⟩ := by
  unfold jointState deliver
  by_cases same : m = l
  · subst same
    rw [if_pos rfl, modLane_lane_self, PerJoint.get_ofFn]
  · rw [if_neg same, modLane_lane_ne _ _ same]

/-- The link once its command frame has been sent whole (R123). -/
def delivered (k : LinkController) : LinkController :=
  { k with inFlight := none, state := .slot .ha, buffer := [], tail := quietLine, early := 0 }

theorem commandDelivered_eq (l : Leg) (c : LimbCommand) (d : Device) :
    d.commandDelivered l c = ((d.deliver l c).modLink l delivered).judgeLowering := rfl

end Device

theorem exec_commandFrameEnd {s : State} {l : Leg} {c : LimbCommand} (running : s.dev.running = true)
    (sending : (s.dev.link l).state = .sending) (whole : (s.dev.link l).abandoned = none)
    (flying : (s.dev.link l).inFlight = some c) :
    exec (.commandFrameEnd l) s = .next (s.withDev (s.dev.commandDelivered l c)) := by
  show execCommandFrameEnd l s = _
  unfold execCommandFrameEnd
  rw [flying]
  exact State.whenPossible_of s _ _ running (by simp [sending, whole])

/-- Settles O42: the entries reach the lane, the link opens SLOT 0, and the lowering is judged. -/
theorem deliveredCommandBecomesLastDelivered : Obligations.DeliveredCommandBecomesLastDelivered := by
  intro s l c running sending whole flying
  have ran := exec_commandFrameEnd running sending whole flying
  obtain ⟨a, handed⟩ : ∃ a, a = (s.dev.deliver l c).modLink l Device.delivered := ⟨_, rfl⟩
  rw [Device.commandDelivered_eq, ← handed] at ran
  have link : a.link l = Device.delivered (s.dev.link l) := handed ▸ Device.modLink_link_self l _ _
  have links (m : Leg) (other : m ≠ l) : a.link m = s.dev.link m := handed ▸ Device.modLink_link_ne _ _ other
  have joints (m : Leg) (i : JointIx) : a.jointState ⟨m, i⟩ =
      if m = l then Device.deliveredJoint (c.get i) (s.dev.jointState ⟨m, i⟩) else s.dev.jointState ⟨m, i⟩ :=
    handed ▸ Device.deliver_jointState l c s.dev m i
  have own (i : JointIx) : a.jointState ⟨l, i⟩ = Device.deliveredJoint (c.get i) (s.dev.jointState ⟨l, i⟩) :=
    (joints l i).trans (if_pos rfl)
  have others (m : Leg) (i : JointIx) (other : m ≠ l) : a.jointState ⟨m, i⟩ = s.dev.jointState ⟨m, i⟩ :=
    (joints m i).trans (if_neg other)
  have mhu : a.mhu = s.dev.mhu := by rw [handed]; rfl
  have eeu : a.eeu = s.dev.eeu := by rw [handed]; rfl
  have tbs : a.tbs = s.dev.tbs := by rw [handed]; rfl
  have gpe : a.gpe = s.dev.gpe := by rw [handed]; rfl
  have bal : a.bal = s.dev.bal := by rw [handed]; rfl
  have cfl : a.cfl = s.dev.cfl := by rw [handed]; rfl
  have nsv : a.nsv = s.dev.nsv := by rw [handed]; rfl
  have upp : a.upp = s.dev.upp := by rw [handed]; rfl
  have lowered : (a.mhu.mode = .safeSit ∧ a.mhu.sit = some .lowering ∧ a.loweringComplete = true) ↔
      s.dev.mhu.mode = .safeSit ∧ s.dev.mhu.sit = some .lowering
        ∧ ∀ m, a.lastPose m = some (s.dev.tbs.pose.get m).sit := by
    rw [Device.loweringComplete_iff, mhu, tbs]
  have entry (i : JointIx) : Device.deliveredJoint (c.get i) (s.dev.jointState ⟨l, i⟩) = (match (c.get i).position with
      | some x => { s.dev.jointState ⟨l, i⟩ with lastPosition := some x, lastStiffness := (c.get i).stiffness }
      | none => s.dev.jointState ⟨l, i⟩) := rfl
  by_cases seated : a.mhu.mode = .safeSit ∧ a.mhu.sit = some .lowering ∧ a.loweringComplete = true
  · rw [Device.judgeLowering_of_seated seated] at ran
    refine ⟨_, ran, link, links, fun i => (own i).trans (entry i), fun m i => others m i, ⟨fun _ => ⟨?_, ?_⟩, fun no => ?_⟩,
      tbs, gpe, bal, cfl, nsv, upp⟩
    · show ({ a.mhu with sit := some .seated } : ModeUnit) = _
      rw [mhu]
    · refine (Device.raise_factor_self .modeChanged _).trans ?_
      show (⟨true, saturate (a.factor .modeChanged).count⟩ : FactorRecord) = _
      unfold Device.factor
      rw [eeu]
      rfl
    · exact absurd (lowered.mp seated) no
  · rw [Device.judgeLowering_of_not seated] at ran
    exact ⟨_, ran, link, links, fun i => (own i).trans (entry i), fun m i => others m i,
      ⟨fun yes => absurd (lowered.mpr yes) seated, fun _ => ⟨mhu, eeu⟩⟩, tbs, gpe, bal, cfl, nsv, upp⟩

/-! ## The bits of a transaction (R117, R119, R122, R178) -/

theorem linkBits_of_whole {l : Leg} {k : LinkController} {c : LimbCommand} (flying : k.inFlight = some c)
    (whole : k.abandoned = none) : linkBits l k = transmissionBits k.settings l c := by
  unfold linkBits
  rw [flying, whole]

theorem linkBits_of_abandoned {l : Leg} {k : LinkController} {c : LimbCommand} {t : Nat} (flying : k.inFlight = some c)
    (abandoned : k.abandoned = some t) : linkBits l k = endedWithOnes t (transmissionBits k.settings l c) := by
  unfold linkBits
  rw [flying, abandoned]

theorem lineDrive_of_transmitting {k : LinkController} (transmits : k.state = .lowBreak ∨ k.state = .sending) (l : Leg) :
    lineDrive l k = .sending (linkBits l k) := by
  unfold lineDrive
  rcases transmits with h | h <;> rw [h]

/-- The bits of an abandoned transmission: its own up to the mismatch, ones from there. -/
theorem endedWithOnes_getD {bits : List Bool} {t : Nat} (within : t < bits.length) (n : Nat) :
    (endedWithOnes t bits).getD n true = if n ≤ t then bits.getD n true else true := by
  have taken : (bits.take (t + 1)).length = t + 1 := by rw [List.length_take]; omega
  unfold endedWithOnes
  by_cases early : n ≤ t
  · rw [if_pos early, List.getD_append _ _ _ _ (by omega)]
    simp only [List.getD_eq_getElem?_getD, List.getElem?_take_of_lt (show n < t + 1 by omega)]
  · rw [if_neg early, List.getD_append_right _ _ _ _ (by omega)]
    simp only [List.getD_eq_getElem?_getD, List.getElem?_replicate]
    split <;> rfl

/-- What a link sends once its frame is abandoned: the bits of R124. -/
theorem lineDrive_of_abandoned {l : Leg} {k : LinkController} {c : LimbCommand} {t : Nat}
    (transmits : k.state = .lowBreak ∨ k.state = .sending) (flying : k.inFlight = some c)
    (abandoned : k.abandoned = some t) (within : t < 194) :
    ∃ bits, lineDrive l k = .sending bits
      ∧ bits.length = (if t < 14 then 14 else 14 + 10 * ((t - 14) / 10 + 1))
      ∧ ∀ n, bits.getD n true = if n ≤ t then (transmissionBits k.settings l c).getD n true else true := by
  have length : t < (transmissionBits k.settings l c).length := by rw [transmissionBits_length]; exact within
  refine ⟨_, lineDrive_of_transmitting transmits l, ?_, fun n => ?_⟩
  · rw [linkBits_of_abandoned flying abandoned]
    exact endedWithOnes_length t _ length (lt_characterEnd t)
  · rw [linkBits_of_abandoned flying abandoned]
    exact endedWithOnes_getD length n

/-! ## The CRC (R119, R170) -/

theorem crcBytes_eq_iff (r : Word16) (hi lo : Byte) : [hi, lo] = crcBytes r ↔ hi ++ lo = r := by
  unfold crcBytes
  simp only [List.cons.injEq, and_true]
  constructor
  · rintro ⟨rfl, rfl⟩
    refine BitVec.eq_of_getLsbD_eq fun i low => ?_
    rw [BitVec.getLsbD_append, BitVec.getLsbD_extractLsb', BitVec.getLsbD_extractLsb']
    split
    next small => simp [small]
    next large =>
      have back : 8 + (i - 8) = i := by omega
      have high : i - 8 < 8 := by omega
      simp [back, high]
  · rintro rfl
    refine ⟨BitVec.eq_of_getLsbD_eq fun i low => ?_, BitVec.eq_of_getLsbD_eq fun i low => ?_⟩
    · have high : ¬ 8 + i < 8 := by omega
      have back : 8 + i - 8 = i := by omega
      rw [BitVec.getLsbD_extractLsb', BitVec.getLsbD_append, if_neg high, back]
      simp [low]
    · rw [BitVec.getLsbD_extractLsb', BitVec.getLsbD_append, Nat.zero_add, if_pos low]
      simp [low]

/-- The last two bytes of a frame hold the CRC of those before them. -/
theorem crcHolds_iff (poly initial : Word16) (bs : List Byte) : crcHolds poly initial bs = true ↔
    ∃ front hi lo, bs = front ++ [hi, lo] ∧ hi ++ lo = crc16 poly initial front := by
  unfold crcHolds
  rw [beq_iff_eq]
  constructor
  · intro holds
    refine ⟨bs.take (bs.length - 2), (crc16 poly initial (bs.take (bs.length - 2))).extractLsb' 8 8,
      (crc16 poly initial (bs.take (bs.length - 2))).extractLsb' 0 8, ?_, (crcBytes_eq_iff _ _ _).mp rfl⟩
    have joined := List.take_append_drop (bs.length - 2) bs
    rw [holds] at joined
    exact joined.symm
  · rintro ⟨front, hi, lo, rfl, crc⟩
    have length : (front ++ [hi, lo]).length - 2 = front.length := by simp
    rw [length, List.drop_left, List.take_left]
    exact (crcBytes_eq_iff _ _ _).mpr crc

theorem crcBit_eq (poly r : Word16) (b : Bool) :
    crcBit poly r b = if r.getLsbD 15 ^^ b then (r <<< 1) ^^^ poly else r <<< 1 := by
  unfold crcBit
  rw [BitVec.msb_eq_getLsbD_last]

/-- The CRC register takes a byte bit by bit, most significant first (R119). -/
theorem crc16_cons (poly register : Word16) (b : Byte) (bs : List Byte) :
    crc16 poly register (b :: bs) = crc16 poly ([b.getLsbD 7, b.getLsbD 6, b.getLsbD 5, b.getLsbD 4,
      b.getLsbD 3, b.getLsbD 2, b.getLsbD 1, b.getLsbD 0].foldl
        (fun (r : Word16) bit => if r.getLsbD 15 ^^ bit then (r <<< 1) ^^^ poly else r <<< 1) register) bs := by
  have steps : crcBit poly = fun (r : Word16) bit => if r.getLsbD 15 ^^ bit then (r <<< 1) ^^^ poly else r <<< 1 :=
    funext fun r => funext fun bit => crcBit_eq poly r bit
  rw [← steps]
  rfl

/-! ## The command frame on the line (R122, R123, R178) -/

theorem entryBytes_eq (e : Entry) : entryBytes e = (match e.position with
    | some x => bytes16s x
    | none => [0x00, 0x80]) ++ bytes16 e.stiffness ++ [if e.engage then 1 else 0] := by
  unfold entryBytes
  rw [signedOrAbsent_eq] <;> rfl

/-- The bytes of a command frame: the header, the three entries and the CRC field. -/
theorem commandBytes_eq (settings : LinkConfig) (l : Leg) (c : LimbCommand) : ∃ crc : List Byte,
    commandBytes settings l c
      = byte1 (0xC0 + l.number) ++ (entryBytes c.ha ++ (entryBytes c.hf ++ (entryBytes c.kn ++ crc))) := by
  refine ⟨crcBytes (crc16 settings.polynomial settings.initial
    (byte1 (0xC0 + l.number) ++ entryBytes c.ha ++ entryBytes c.hf ++ entryBytes c.kn)), ?_⟩
  simp only [commandBytes, withCrc, List.append_assoc]

theorem fieldAt_append_left {front back : List Byte} {size : Nat} (length : front.length = size) :
    fieldAt (front ++ back) 0 size = front := by
  unfold fieldAt
  rw [List.drop_zero, ← length, List.take_left]

theorem fieldAt_append_right {front back : List Byte} {off size k : Nat} (length : front.length = k) (h : k ≤ off) :
    fieldAt (front ++ back) off size = fieldAt back (off - k) size := by
  unfold fieldAt
  rw [List.drop_append, List.drop_eq_nil_of_le (by omega), List.nil_append, length]

theorem commandBytes_entry (settings : LinkConfig) (l : Leg) (c : LimbCommand) (i : JointIx) :
    fieldAt (commandBytes settings l c) (1 + 5 * i.number) 5 = entryBytes (c.get i) := by
  obtain ⟨crc, bytes⟩ := commandBytes_eq settings l c
  have five := entryBytes_length
  rw [bytes, fieldAt_append_right (byte1_length _) (by omega)]
  cases i with
  | ha => exact fieldAt_append_left (five c.ha)
  | hf =>
    rw [fieldAt_append_right (five c.ha) (by decide)]
    exact fieldAt_append_left (five c.hf)
  | kn =>
    rw [fieldAt_append_right (five c.ha) (by decide), fieldAt_append_right (five c.hf) (by decide)]
    exact fieldAt_append_left (five c.kn)

/-- Bit `n` of character `k` of a run of characters. -/
theorem flatMap_charBits_getD (bs : List Byte) {k n : Nat} (hk : k < bs.length) (hn : n < 10) :
    (bs.flatMap charBits).getD (10 * k + n) true = (charBits (byteAt bs k)).getD n true := by
  induction bs generalizing k with
  | nil => cases hk
  | cons b bs ih =>
    rw [List.flatMap_cons]
    cases k with
    | zero =>
      rw [Nat.mul_zero, Nat.zero_add, List.getD_append _ _ _ _ (by rw [charBits_length]; exact hn)]
      rfl
    | succ k =>
      have shift : 10 * (k + 1) + n - 10 = 10 * k + n := by omega
      rw [List.getD_append_right _ _ _ _ (by rw [charBits_length]; omega), charBits_length, shift]
      exact ih (by simpa using hk)

theorem charBits_getD (b : Byte) : (charBits b).getD 0 true = false
    ∧ (∀ i, i < 8 → (charBits b).getD (1 + i) true = b.getLsbD i) ∧ (charBits b).getD 9 true = true := by
  refine ⟨rfl, fun i low => ?_, rfl⟩
  interval_cases i <;> rfl

theorem transmissionBits_break (settings : LinkConfig) (l : Leg) (c : LimbCommand) :
    (∀ n, n < 13 → (transmissionBits settings l c).getD n true = false)
    ∧ (transmissionBits settings l c).getD 13 true = true := by
  refine ⟨fun n low => ?_, List.getD_append _ _ _ _ (by decide)⟩
  refine (List.getD_append _ _ _ _ (show n < breakBits.length from Nat.lt_of_lt_of_le low (by decide))).trans ?_
  interval_cases n <;> rfl

/-- Bit `n` of byte `k` of the command frame, by bit time from the start of the break. -/
theorem transmissionBits_char (settings : LinkConfig) (l : Leg) (c : LimbCommand) {k n : Nat} (hk : k < 18) (hn : n < 10) :
    (transmissionBits settings l c).getD (14 + 10 * k + n) true
      = (charBits (byteAt (commandBytes settings l c) k)).getD n true := by
  have length : breakBits.length = 14 := rfl
  have shift : 14 + 10 * k + n - 14 = 10 * k + n := by omega
  unfold transmissionBits
  rw [List.getD_append_right _ _ _ _ (by omega), length, shift]
  exact flatMap_charBits_getD _ (by rw [commandBytes_length]; exact hk) hn

/-! ## The echo check (R124) -/

theorem exec_echoMismatch {s : State} {l : Leg} {c : LimbCommand} {k : Nat} (r : Sample3) (running : s.dev.running = true)
    (flying : (s.dev.link l).inFlight = some c) (whole : (s.dev.link l).abandoned = none)
    (checked : (s.dev.link l).state = .lowBreak ∧ k < 14 ∨ (s.dev.link l).state = .sending ∧ 14 ≤ k ∧ k < 194) :
    exec (.echoMismatch l k r) s = .next (s.withDev (s.dev.readBackBit l k r)) := by
  have bits : (linkBits l (s.dev.link l)).length = 194 := by rw [linkBits_of_whole flying whole, transmissionBits_length]
  refine State.whenPossible_of s (Device.readBackBit l k r) _ running ?_
  unfold echoChecked
  rw [flying, bits]
  rcases checked with ⟨low, early⟩ | ⟨sending, late, early⟩
  · simp [low, early]
  · simp [sending, late, early]

theorem Device.readBackBit_eq {d : Device} {l : Leg} {c : LimbCommand} (flying : (d.link l).inFlight = some c)
    (whole : (d.link l).abandoned = none) (k : Nat) (r : Sample3) : d.readBackBit l k r =
      if majority3 r = (transmissionBits (d.link l).settings l c).getD k true then d else d.abandonFrame l k := by
  unfold readBackBit
  rw [linkBits_of_whole flying whole, whole]
  simp

/-- Settles O43: a mismatch abandons the frame, whose bits, bytes and CRC are those of R122, R178 and R119. -/
theorem echoMismatchAbandonsFrame : Obligations.EchoMismatchAbandonsFrame := by
  refine ⟨fun s l c k r running flying whole checked => ⟨fun differs => ?_, fun agrees => ?_⟩, fun settings l c => ?_,
    fun poly register b bs => ⟨rfl, crc16_cons poly register b bs⟩, crcHolds_iff⟩
  · have ran := exec_echoMismatch r running flying whole checked
    rw [Device.readBackBit_eq flying whole, if_neg differs] at ran
    have link : (s.dev.abandonFrame l k).link l = { s.dev.link l with
        abandoned := some k, bitErrors := min ((s.dev.link l).bitErrors + 1) 255 } := Device.modLink_link_self l _ s.dev
    have transmits : (s.dev.link l).state = .lowBreak ∨ (s.dev.link l).state = .sending :=
      checked.imp And.left And.left
    have within : k < 194 := by omega
    refine ⟨_, ran, ?_, ?_, rfl, ?_, fun f other => ?_, rfl, rfl, rfl, rfl, rfl, rfl, rfl, rfl⟩
    · rw [lineDrive_of_transmitting transmits, linkBits_of_whole flying whole]
    · rw [State.withDev_dev, link]
      exact lineDrive_of_abandoned (k := { s.dev.link l with
        abandoned := some k, bitErrors := min ((s.dev.link l).bitErrors + 1) 255 }) transmits flying rfl within
    · exact Device.raise_factor_self .limbBitError _
    · exact Device.raise_factor_ne _ other
  · rw [exec_echoMismatch r running flying whole checked, Device.readBackBit_eq flying whole, if_pos agrees]
    rfl
  · intro bytes bits
    obtain ⟨crc, layout⟩ := commandBytes_eq settings l c
    obtain ⟨low, high⟩ := transmissionBits_break settings l c
    have char {k n : Nat} (hk : k < 18) (hn : n < 10) := transmissionBits_char settings l c hk hn
    refine ⟨commandBytes_length settings l c, ?_, fun i => ?_, crcHolds_withCrc _ _ _, transmissionBits_length settings l c,
      low, high, fun k hk => ⟨?_, fun i hi => ?_, ?_⟩⟩
    · show byteAt (commandBytes settings l c) 0 = _
      rw [layout]
      rfl
    · exact (commandBytes_entry settings l c i).trans (entryBytes_eq (c.get i))
    · exact (char hk (n := 0) (by omega)).trans (charBits_getD _).1
    · rw [Nat.add_assoc]
      exact (char hk (n := 1 + i) (by omega)).trans ((charBits_getD _).2.1 i hi)
    · exact (char hk (n := 9) (by omega)).trans (charBits_getD _).2.2

end Sys2Proof.Machine
end

section
/-!
PROOFS. The blocks do not read the links (O44): what the supervision, the contact filters and the holds do is the same
with other link records, and the end of an abandoned frame.
-/

namespace Sys2Proof.Machine

namespace Device

/-! ## The judgement of the supply levels (R143) -/

/-- The device as level 1 has been judged against the estimate, before its action. -/
def levelled1 (d : Device) : Device := { d with nsv := { d.nsv with
  level1 := levelAfter d.nsv.level1 d.tbs.deviceConfig.v1 d.tbs.deviceConfig.vh d.nsv.estimate } }

/-- The device as level 2 has been judged against the estimate, before its action. -/
def levelled2 (d : Device) : Device := { d with nsv := { d.nsv with
  level2 := levelAfter d.nsv.level2 d.tbs.deviceConfig.v2 d.tbs.deviceConfig.vh d.nsv.estimate } }

theorem judgeLevel1_eq (d : Device) : d.judgeLevel1 =
    if d.nsv.level1 = .normal
      ∧ levelAfter d.nsv.level1 d.tbs.deviceConfig.v1 d.tbs.deviceConfig.vh d.nsv.estimate = .low
    then d.levelled1.supplyAction d.tbs.deviceConfig.action1 else d.levelled1 := rfl

theorem judgeLevel2_eq (d : Device) : d.judgeLevel2 =
    if d.nsv.level2 = .normal
      ∧ levelAfter d.nsv.level2 d.tbs.deviceConfig.v2 d.tbs.deviceConfig.vh d.nsv.estimate = .low
    then d.levelled2.supplyAction d.tbs.deviceConfig.action2 else d.levelled2 := rfl

/-! ## Operations that do not read the links -/

/-- The device with other link records. -/
def withLinks (links : PerLeg LinkController) (d : Device) : Device := { d with llc := links }

section
variable (links : PerLeg LinkController) (d : Device)

@[simp] theorem withLinks_tbs : (d.withLinks links).tbs = d.tbs := rfl
@[simp] theorem withLinks_gpe : (d.withLinks links).gpe = d.gpe := rfl
@[simp] theorem withLinks_bal : (d.withLinks links).bal = d.bal := rfl
@[simp] theorem withLinks_cfl : (d.withLinks links).cfl = d.cfl := rfl
@[simp] theorem withLinks_lcc : (d.withLinks links).lcc = d.lcc := rfl
@[simp] theorem withLinks_mhu : (d.withLinks links).mhu = d.mhu := rfl
@[simp] theorem withLinks_nsv : (d.withLinks links).nsv = d.nsv := rfl
@[simp] theorem withLinks_upp : (d.withLinks links).upp = d.upp := rfl
@[simp] theorem withLinks_leg (l : Leg) : (d.withLinks links).leg l = d.leg l := rfl
@[simp] theorem withLinks_legState (l : Leg) : (d.withLinks links).legState l = d.legState l := rfl
@[simp] theorem withLinks_contact (l : Leg) : (d.withLinks links).contact l = d.contact l := rfl
@[simp] theorem withLinks_node (n : Node) : (d.withLinks links).node n = d.node n := rfl
@[simp] theorem withLinks_supporting (l : Leg) : (d.withLinks links).supporting l = d.supporting l := rfl
@[simp] theorem withLinks_inFlight (l : Leg) : (d.withLinks links).inFlight l = d.inFlight l := rfl
@[simp] theorem withLinks_stopPending : (d.withLinks links).stopPending = d.stopPending := rfl
@[simp] theorem withLinks_allInStance : (d.withLinks links).allInStance = d.allInStance := rfl
@[simp] theorem withLinks_loweringComplete : (d.withLinks links).loweringComplete = d.loweringComplete := rfl
@[simp] theorem withLinks_maskOf (n : Node) : (d.withLinks links).maskOf n = d.maskOf n := rfl
@[simp] theorem withLinks_earlyThreshold (l : Leg) : (d.withLinks links).earlyThreshold l = d.earlyThreshold l := rfl
@[simp] theorem withLinks_leastReport : (d.withLinks links).leastReport = d.leastReport := rfl

@[simp] theorem withLinks_raise (f : Factor) : (d.withLinks links).raise f = (d.raise f).withLinks links := rfl

@[simp] theorem withLinks_raiseIf (b : Bool) (f : Factor) :
    (d.withLinks links).raiseIf b f = (d.raiseIf b f).withLinks links := by
  cases b <;> rfl

@[simp] theorem withLinks_touchDown (l : Leg) :
    (d.withLinks links).touchDown l = (d.touchDown l).withLinks links := rfl

@[simp] theorem withLinks_modLeg (l : Leg) (f : LegRecord → LegRecord) :
    (d.withLinks links).modLeg l f = (d.modLeg l f).withLinks links := rfl

@[simp] theorem withLinks_modNode (n : Node) (f : NodeRecord → NodeRecord) :
    (d.withLinks links).modNode n f = (d.modNode n f).withLinks links := rfl

@[simp] theorem withLinks_modFilter (l : Leg) (f : FilterRecord → FilterRecord) :
    (d.withLinks links).modFilter l f = (d.modFilter l f).withLinks links := rfl

@[simp] theorem withLinks_sitDemand : (d.withLinks links).sitDemand = d.sitDemand.withLinks links := by
  by_cases down : d.mhu.mode = .unarmed ∨ d.mhu.mode = .safeSit
  · rw [sitDemand_of_down d down, sitDemand_of_down (d.withLinks links) down]
  · have up : d.mhu.mode = .stand ∨ d.mhu.mode = .walk ∨ d.mhu.mode = .hold := by
      cases mode : d.mhu.mode <;> simp_all
    rw [sitDemand_of_up d up, sitDemand_of_up (d.withLinks links) up]
    rfl

@[simp] theorem withLinks_pushRecord (h : Hold) :
    (d.withLinks links).pushRecord h = (d.pushRecord h).withLinks links := by
  by_cases hold : d.mhu.mode = .hold
  · rw [pushRecord_of_hold hold, pushRecord_of_hold (d := d.withLinks links) hold]
    rfl
  · rw [pushRecord_of_not_hold hold, pushRecord_of_not_hold (d := d.withLinks links) hold]
    rfl

@[simp] theorem withLinks_judgePush (h : Hold) :
    (d.withLinks links).judgePush h = (d.judgePush h).withLinks links := by
  by_cases down : d.mhu.mode = .unarmed ∨ d.mhu.mode = .safeSit
  · rw [judgePush_of_down h d down, judgePush_of_down h (d.withLinks links) down]
  · cases same : d.mhu.stack.any (fun r => r.hold = h) with
    | true => rw [judgePush_of_same h d same, judgePush_of_same h (d.withLinks links) same]
    | false =>
      rcases lt_or_ge d.mhu.stack.length 4 with room | full
      · rw [judgePush_of_room h d down same room, judgePush_of_room h (d.withLinks links) down same room,
          withLinks_pushRecord]
      · rw [judgePush_of_full h d down same full, judgePush_of_full h (d.withLinks links) down same full]
        exact withLinks_sitDemand links (raise .holdOverflow { d with mhu := { d.mhu with stack := [] } })

@[simp] theorem withLinks_request (q : PushRequest) :
    (d.withLinks links).request q = (d.request q).withLinks links := by
  have noted : (d.withLinks links).noted q = (d.noted q).withLinks links := by
    unfold Device.noted
    cases q.factor with
    | none => rw [noteSilence_eq, noteSilence_eq] <;> rfl
    | some f => rw [noteSilence_eq, noteSilence_eq] <;> rfl
  rw [request_eq_judgePush, request_eq_judgePush, noted, withLinks_judgePush]

@[simp] theorem withLinks_driveReaction (n : Node) (why : NodeReason) :
    (d.withLinks links).driveReaction n why = (d.driveReaction n why).withLinks links := by
  simp only [driveReaction, withLinks_supporting, withLinks_inFlight, withLinks_request, withLinks_raise,
    apply_ite (withLinks links)]

@[simp] theorem withLinks_footReaction (l : Leg) (why : NodeReason) :
    (d.withLinks links).footReaction l why = (d.footReaction l why).withLinks links := by
  simp only [footReaction, withLinks_inFlight, withLinks_request, withLinks_raise, apply_ite (withLinks links)]

@[simp] theorem withLinks_adopt (g : Fin 8) : (d.withLinks links).adopt g = (d.adopt g).withLinks links := rfl

@[simp] theorem withLinks_refuseGait : (d.withLinks links).refuseGait = d.refuseGait.withLinks links := rfl

@[simp] theorem withLinks_selectGait (g : Fin 8) :
    (d.withLinks links).selectGait g = (d.selectGait g).withLinks links := by
  simp only [selectGait, withLinks_tbs, withLinks_adopt, withLinks_refuseGait, apply_ite (withLinks links)]
  rfl

@[simp] theorem withLinks_enterStand : (d.withLinks links).enterStand = d.enterStand.withLinks links := by
  cases waiting : d.gpe.waiting with
  | none =>
    rw [enterStand_of_none waiting, enterStand_of_none (d := d.withLinks links) waiting]
    rfl
  | some g =>
    rw [enterStand_of_some waiting, enterStand_of_some (d := d.withLinks links) waiting]
    exact withLinks_selectGait links ((d.setMode .stand).raise .modeChanged) g

@[simp] theorem withLinks_completeStop : (d.withLinks links).completeStop = d.completeStop.withLinks links := by
  simp only [completeStop, withLinks_stopPending, withLinks_allInStance, withLinks_enterStand,
    apply_ite (withLinks links)]

@[simp] theorem withLinks_swingContact (l : Leg) (new : Contact) :
    (d.withLinks links).swingContact l new = (d.swingContact l new).withLinks links := by
  cases new with
  | absent => rfl
  | unknown => rfl
  | present =>
    simp only [swingContact, withLinks_leg, withLinks_earlyThreshold, withLinks_touchDown, withLinks_raise,
      apply_ite (withLinks links)]
    rfl

@[simp] theorem withLinks_contactChange (l : Leg) (new : Contact) :
    (d.withLinks links).contactChange l new = (d.contactChange l new).withLinks links := by
  unfold contactChange
  cases state : d.legState l with
  | stance | liftWait => simp only [withLinks_legState, state, withLinks_raise, apply_ite (withLinks links)]
  | swing => simp only [withLinks_legState, state, withLinks_swingContact, withLinks_completeStop]
  | landing | setDown =>
    simp only [withLinks_legState, state, withLinks_touchDown, withLinks_completeStop, apply_ite (withLinks links)]
  | hang | unset => simp only [withLinks_legState, state]

@[simp] theorem withLinks_formContact (l : Leg) (new : Contact) :
    (d.withLinks links).formContact l new = (d.formContact l new).withLinks links := by
  simp only [formContact, withLinks_contact, withLinks_modFilter, withLinks_contactChange, apply_ite (withLinks links)]

@[simp] theorem withLinks_loseFoot (l : Leg) : (d.withLinks links).loseFoot l = (d.loseFoot l).withLinks links :=
  withLinks_formContact links d l .unknown

@[simp] theorem withLinks_takeSample (l : Leg) (load : Nat) :
    (d.withLinks links).takeSample l load = (d.takeSample l load).withLinks links := by
  unfold takeSample
  simp only [withLinks_cfl, withLinks_tbs, withLinks_modFilter]
  exact withLinks_raiseIf links _ _ _

@[simp] theorem withLinks_judgeSlip (l : Leg) : (d.withLinks links).judgeSlip l = (d.judgeSlip l).withLinks links := by
  simp only [judgeSlip, withLinks_cfl, withLinks_supporting, withLinks_modFilter, withLinks_request,
    apply_ite (withLinks links)]

@[simp] theorem withLinks_filterReply (l : Leg) (reply : FootReply) :
    (d.withLinks links).filterReply l reply = (d.filterReply l reply).withLinks links := by
  simp only [filterReply, withLinks_cfl, withLinks_modFilter, withLinks_formContact, withLinks_takeSample,
    withLinks_judgeSlip, apply_ite (withLinks links)]

@[simp] theorem withLinks_supplyAction (a : SupplyAction) :
    (d.withLinks links).supplyAction a = (d.supplyAction a).withLinks links := by
  cases a with
  | flag | derate => rfl
  | sit => exact withLinks_sitDemand links (d.raise .supplySit)

@[simp] theorem withLinks_judgeLevel1 : (d.withLinks links).judgeLevel1 = d.judgeLevel1.withLinks links := by
  have judged : (d.withLinks links).levelled1 = d.levelled1.withLinks links := rfl
  simp only [judgeLevel1_eq, judged, withLinks_nsv, withLinks_tbs, withLinks_supplyAction, apply_ite (withLinks links)]

@[simp] theorem withLinks_judgeLevel2 : (d.withLinks links).judgeLevel2 = d.judgeLevel2.withLinks links := by
  have judged : (d.withLinks links).levelled2 = d.levelled2.withLinks links := rfl
  simp only [judgeLevel2_eq, judged, withLinks_nsv, withLinks_tbs, withLinks_supplyAction, apply_ite (withLinks links)]

@[simp] theorem withLinks_formEstimate : (d.withLinks links).formEstimate = d.formEstimate.withLinks links := by
  unfold formEstimate
  exact (congrArg judgeLevel2 (withLinks_judgeLevel1 links { d with nsv := { d.nsv with estimate := d.leastReport } })).trans
    (withLinks_judgeLevel2 links _)

@[simp] theorem withLinks_reactToDrive (n : Node) (newly : FaultSet) :
    (d.withLinks links).reactToDrive n newly = (d.reactToDrive n newly).withLinks links := by
  simp only [reactToDrive, withLinks_maskOf, withLinks_raiseIf, withLinks_driveReaction, apply_ite (withLinks links)]

@[simp] theorem withLinks_superviseDrive (j : Joint) (reply : DriveReply) :
    (d.withLinks links).superviseDrive j reply = (d.superviseDrive j reply).withLinks links := by
  unfold superviseDrive
  exact (congrArg formEstimate (withLinks_reactToDrive links
    (((d.goodOutcome ⟨j.leg, j.ix.slot⟩).takeFaults ⟨j.leg, j.ix.slot⟩ reply.faults).modVoltage j
      fun _ => { volts := reply.volts, age := 0 }) _ _)).trans (withLinks_formEstimate links _)

@[simp] theorem withLinks_takePosition (j : Joint) (x : Int) :
    (d.withLinks links).takePosition j x = (d.takePosition j x).withLinks links := rfl

@[simp] theorem withLinks_superviseFoot (l : Leg) (reply : FootReply) :
    (d.withLinks links).superviseFoot l reply = (d.superviseFoot l reply).withLinks links := by
  unfold superviseFoot goodOutcome takeFaults newlyLatched
  simp only [withLinks_node, withLinks_modNode, withLinks_footReaction, ← apply_ite (withLinks links),
    withLinks_formEstimate]

@[simp] theorem withLinks_loseNode (n : Node) :
    (d.withLinks links).loseNode n = (d.loseNode n).withLinks links := by
  rcases n with ⟨l, x⟩
  unfold loseNode
  cases x with
  | foot =>
    simp only [withLinks_modNode, withLinks_footReaction, withLinks_formEstimate, withLinks_loseFoot]
  | ha | hf | kn =>
    simp only [withLinks_node, withLinks_modNode, withLinks_driveReaction, ← apply_ite (withLinks links),
      withLinks_formEstimate]

@[simp] theorem withLinks_missedOutcome (n : Node) :
    (d.withLinks links).missedOutcome n = (d.missedOutcome n).withLinks links := by
  simp only [missedOutcome, withLinks_node, withLinks_loseNode, withLinks_modNode, apply_ite (withLinks links)]

/-- The end of a transaction reads of the links which drives have answered. -/
theorem withLinks_transactionEnded (l : Leg) (answered : (links.get l).answered = (d.link l).answered) :
    (d.withLinks links).transactionEnded l = (d.transactionEnded l).withLinks links := by
  have aged : (d.withLinks links).ageReports l = (d.ageReports l).withLinks links := by
    unfold ageReports
    show _ = ({ ({ d with nsv := _ } : Device) with llc := links } : Device)
    rw [show ((d.withLinks links).link l).answered = (d.link l).answered from answered]
    rfl
  unfold transactionEnded
  rw [aged, withLinks_formEstimate]

end

/-! ## The end of an abandoned frame (R87, R125, R129) -/

/-- The link once its abandoned frame has been ended. -/
def freed (k : LinkController) : LinkController :=
  { k with inFlight := none, waiting := none, abandoned := none, state := .idle }

theorem transactionEnded_llc (l : Leg) (d : Device) : (d.transactionEnded l).llc = d.llc := by simp

theorem frameAbandoned_eq (l : Leg) (d : Device) :
    d.frameAbandoned l = (d.transactionEnded l).withLinks (d.llc.set l (freed (d.link l))) := by
  have answered : ((d.llc.set l (freed (d.link l))).get l).answered = (d.link l).answered := by
    rw [PerLeg.get_set_self]
    rfl
  exact withLinks_transactionEnded _ d l answered

end Device

/-- Settles O44: an abandoned frame ends with ones, its bit events cannot come, and FRAME_ABANDONED frees the link. -/
theorem abandonedFrameDeliversNothing : Obligations.AbandonedFrameDeliversNothing := by
  intro s l k running abandoned transmits
  have possible : ((s.dev.link l).abandoned.isSome
      && ((s.dev.link l).state = .lowBreak || (s.dev.link l).state = .sending)) = true := by
    rcases transmits with h | h <;> simp [abandoned, h]
  have ran : exec (.frameAbandoned l) s = .next (s.withDev (s.dev.frameAbandoned l)) :=
    State.whenPossible_of s (Device.frameAbandoned l) _ running possible
  rw [Device.frameAbandoned_eq] at ran
  obtain ⟨tbs, bal, cfl, lcc, -, upp, -⟩ := Device.transactionEnded_frame l s.dev
  refine ⟨fun c flying within => lineDrive_of_abandoned transmits flying abandoned within, ?_, ?_, _, ran, rfl, rfl, lcc,
    tbs, bal, cfl, upp⟩
  · exact State.whenPossible_of_not (Device.beginSending l) running (by simp [abandoned])
  · show execCommandFrameEnd l s = _
    unfold execCommandFrameEnd
    split
    · exact State.whenPossible_of_not _ running (by simp [abandoned])
    · exact State.whenPossible_of_not _ running rfl

end Sys2Proof.Machine
end

section
/-!
PROOFS. The supply watch (O49), and what a missed outcome does to a node and to the modes.
-/

namespace Sys2Proof.Machine

namespace Device

/-! ## The estimate and the levels (R142, R143) -/

theorem leastReport_eq (d : Device) : d.leastReport = d.countingReports.min? := by
  unfold leastReport
  cases d.countingReports with
  | nil => rfl
  | cons v vs => exact (List.min?_cons' (x := v) (xs := vs)).symm

theorem mem_countingReports (d : Device) (v : Nat) : v ∈ d.countingReports ↔
    ∃ j : Joint, ((d.nsv.voltages.get j.leg).get j.ix).volts = v
      ∧ ((d.nsv.voltages.get j.leg).get j.ix).age ≤ 3 ∧ (d.node ⟨j.leg, j.ix.slot⟩).live = true := by
  have counts (j : Joint) :
      countingReport (d.node ⟨j.leg, j.ix.slot⟩) ((d.nsv.voltages.get j.leg).get j.ix) = some v ↔
        ((d.nsv.voltages.get j.leg).get j.ix).volts = v ∧ ((d.nsv.voltages.get j.leg).get j.ix).age ≤ 3
          ∧ (d.node ⟨j.leg, j.ix.slot⟩).live = true := by
    unfold countingReport
    rw [Option.ite_none_right_eq_some, Option.some.injEq]
    tauto
  unfold countingReports
  rw [List.mem_filterMap]
  exact ⟨fun ⟨j, _, report⟩ => ⟨j, (counts j).mp report⟩, fun ⟨j, report⟩ => ⟨j, Joint.mem_all j, (counts j).mpr report⟩⟩

theorem levelAfter_normal (limit vh : Nat) (estimate : Option Nat) :
    levelAfter .normal limit vh estimate = .low ↔ ∃ v, estimate = some v ∧ v < limit := by
  cases estimate with
  | none => simp [levelAfter]
  | some v => simp [levelAfter]

theorem levelAfter_low (limit vh : Nat) (estimate : Option Nat) :
    levelAfter .low limit vh estimate = .low ↔ ∃ v, estimate = some v ∧ v < limit + vh := by
  cases estimate with
  | none => simp [levelAfter]
  | some v => simp [levelAfter]

/-- The levels after a forming of the estimate, before their actions. -/
def reformed (d : Device) : Supervisor := { d.nsv with
  estimate := d.leastReport
  level1 := levelAfter d.nsv.level1 d.tbs.deviceConfig.v1 d.tbs.deviceConfig.vh d.leastReport
  level2 := levelAfter d.nsv.level2 d.tbs.deviceConfig.v2 d.tbs.deviceConfig.vh d.leastReport }

/-- The device as the estimate has been formed, before the levels are judged. -/
def estimated (d : Device) : Device := { d with nsv := { d.nsv with estimate := d.leastReport } }

theorem formEstimate_eq (d : Device) : d.formEstimate = d.estimated.judgeLevel1.judgeLevel2 := rfl

theorem judgeLevel1_tbs (d : Device) : d.judgeLevel1.tbs = d.tbs := by
  rw [judgeLevel1_eq]
  split
  · exact (supplyAction_frame _ d.levelled1).1
  · rfl

theorem judgeLevel1_nsv (d : Device) : d.judgeLevel1.nsv = d.levelled1.nsv := by
  rw [judgeLevel1_eq]
  split
  · exact (supplyAction_frame _ d.levelled1).2.2.2.2.2.1
  · rfl

theorem judgeLevel2_nsv (d : Device) : d.judgeLevel2.nsv = d.levelled2.nsv := by
  rw [judgeLevel2_eq]
  split
  · exact (supplyAction_frame _ d.levelled2).2.2.2.2.2.1
  · rfl

theorem formEstimate_nsv (d : Device) : d.formEstimate.nsv = d.reformed := by
  rw [formEstimate_eq, judgeLevel2_nsv, levelled2, judgeLevel1_nsv, judgeLevel1_tbs]
  rfl

/-! ## The actions of the levels (R144) -/

theorem supplyAction_flag (a : SupplyAction) (d : Device) :
    ((d.supplyAction a).factor (if a = .sit then .supplySit else .supplyLow)).flag = true := by
  cases a with
  | flag | derate =>
    rw [if_neg (by decide)]
    exact congrArg FactorRecord.flag (raise_factor_self .supplyLow d)
  | sit =>
    rw [if_pos rfl]
    have raised : ((d.raise .supplySit).factor .supplySit).flag = true :=
      congrArg FactorRecord.flag (raise_factor_self .supplySit d)
    exact (sitDemand_raises (d.raise .supplySit)).flag_mono raised

theorem supplyAction_mhu_of_not_sit {a : SupplyAction} (other : a ≠ .sit) (d : Device) :
    (d.supplyAction a).mhu = d.mhu := by
  cases a with
  | flag | derate => rfl
  | sit => exact absurd rfl other

/-- What a sit demand makes of a part that is not UNARMED. -/
theorem sitDemand_sits (d : Device) (armed : d.mhu.mode ≠ .unarmed) : d.sitDemand.mhu.mode = .safeSit
    ∧ d.sitDemand.mhu.stack = if d.mhu.mode = .safeSit then d.mhu.stack else [] := by
  by_cases sat : d.mhu.mode = .safeSit
  · rw [sitDemand_of_down d (.inr sat), if_pos sat]
    exact ⟨sat, rfl⟩
  · have up : d.mhu.mode = .stand ∨ d.mhu.mode = .walk ∨ d.mhu.mode = .hold := by
      cases mode : d.mhu.mode <;> simp_all
    rw [sitDemand_of_up d up, if_neg sat]
    exact ⟨rfl, rfl⟩

/-- Level 1 falls at a forming of the estimate. -/
def falls1 (d : Device) : Prop := d.nsv.level1 = .normal ∧ d.reformed.level1 = .low

/-- Level 2 falls at a forming of the estimate. -/
def falls2 (d : Device) : Prop := d.nsv.level2 = .normal ∧ d.reformed.level2 = .low

/-- The device after level 1 has been judged and has acted. -/
def judged1 (d : Device) : Device := d.estimated.judgeLevel1

theorem judged1_of_falls {d : Device} (falls : d.falls1) :
    d.judged1 = d.estimated.levelled1.supplyAction d.tbs.deviceConfig.action1 := if_pos falls

theorem judged1_of_not {d : Device} (stands : ¬ d.falls1) : d.judged1 = d.estimated.levelled1 := if_neg stands

theorem judged1_nsv (d : Device) : d.judged1.nsv = d.estimated.levelled1.nsv := judgeLevel1_nsv d.estimated

theorem judged1_tbs (d : Device) : d.judged1.tbs = d.tbs := judgeLevel1_tbs d.estimated

theorem judged1_falls2_iff (d : Device) : (d.judged1.nsv.level2 = .normal ∧ levelAfter d.judged1.nsv.level2
    d.judged1.tbs.deviceConfig.v2 d.judged1.tbs.deviceConfig.vh d.judged1.nsv.estimate = .low) ↔ d.falls2 := by
  rw [judged1_nsv, judged1_tbs]
  rfl

theorem formEstimate_of_falls2 {d : Device} (falls : d.falls2) :
    d.formEstimate = d.judged1.levelled2.supplyAction d.tbs.deviceConfig.action2 := by
  rw [formEstimate_eq, judgeLevel2_eq]
  refine (if_pos ((judged1_falls2_iff d).mpr falls)).trans ?_
  rw [show d.estimated.judgeLevel1.tbs = d.tbs from judged1_tbs d]
  rfl

theorem formEstimate_of_not_falls2 {d : Device} (stands : ¬ d.falls2) : d.formEstimate = d.judged1.levelled2 := by
  rw [formEstimate_eq, judgeLevel2_eq]
  exact if_neg fun falls => stands ((judged1_falls2_iff d).mp falls)

theorem judged1_mhu_of_not_sit {d : Device} (stands : ¬ (d.falls1 ∧ d.tbs.deviceConfig.action1 = .sit)) :
    d.judged1.mhu = d.mhu := by
  by_cases falls : d.falls1
  · rw [judged1_of_falls falls]
    exact supplyAction_mhu_of_not_sit (fun sit => stands ⟨falls, sit⟩) _
  · rw [judged1_of_not falls]
    rfl

theorem formEstimate_mhu_of_not_sit {d : Device} (stands : ¬ (d.falls2 ∧ d.tbs.deviceConfig.action2 = .sit)) :
    d.formEstimate.mhu = d.judged1.mhu := by
  by_cases falls : d.falls2
  · rw [formEstimate_of_falls2 falls]
    exact supplyAction_mhu_of_not_sit (fun sit => stands ⟨falls, sit⟩) _
  · rw [formEstimate_of_not_falls2 falls]
    rfl

/-- A level with action SIT that falls demands the sit (R144). -/
theorem judged1_sits {d : Device} (falls : d.falls1) (sit : d.tbs.deviceConfig.action1 = .sit)
    (armed : d.mhu.mode ≠ .unarmed) : d.judged1.mhu.mode = .safeSit
      ∧ d.judged1.mhu.stack = if d.mhu.mode = .safeSit then d.mhu.stack else [] := by
  rw [judged1_of_falls falls, sit]
  exact sitDemand_sits (d.estimated.levelled1.raise .supplySit) armed

theorem formEstimate_sits2 {d : Device} (falls : d.falls2) (sit : d.tbs.deviceConfig.action2 = .sit)
    (armed : d.judged1.mhu.mode ≠ .unarmed) : d.formEstimate.mhu.mode = .safeSit
      ∧ d.formEstimate.mhu.stack = if d.judged1.mhu.mode = .safeSit then d.judged1.mhu.stack else [] := by
  rw [formEstimate_of_falls2 falls, sit]
  exact sitDemand_sits (d.judged1.levelled2.raise .supplySit) armed

/-- Any fall of a level with action SIT leaves SAFE_SIT. -/
theorem formEstimate_sits {d : Device} (fell : (d.falls1 ∧ d.tbs.deviceConfig.action1 = .sit)
    ∨ (d.falls2 ∧ d.tbs.deviceConfig.action2 = .sit)) (armed : d.mhu.mode ≠ .unarmed) :
    d.formEstimate.mhu.mode = .safeSit
      ∧ d.formEstimate.mhu.stack = if d.mhu.mode = .safeSit then d.mhu.stack else [] := by
  by_cases first : d.falls1 ∧ d.tbs.deviceConfig.action1 = .sit
  · obtain ⟨mode, stack⟩ := judged1_sits first.1 first.2 armed
    by_cases second : d.falls2 ∧ d.tbs.deviceConfig.action2 = .sit
    · obtain ⟨mode', stack'⟩ := formEstimate_sits2 second.1 second.2 (by rw [mode]; decide)
      exact ⟨mode', by rw [stack', if_pos mode, stack]⟩
    · rw [formEstimate_mhu_of_not_sit second]
      exact ⟨mode, stack⟩
  · obtain ⟨falls, sit⟩ := fell.resolve_left first
    have before := judged1_mhu_of_not_sit first
    have second := formEstimate_sits2 falls sit (by rwa [before])
    rwa [before] at second

theorem judged1_raises (d : Device) : Raises supplyFactors d d.judged1 := (judgeLevel1_raises _).of_quiet rfl rfl

theorem formEstimate_flag1 {d : Device} (falls : d.falls1) :
    (d.formEstimate.factor (if d.tbs.deviceConfig.action1 = .sit then .supplySit else .supplyLow)).flag = true := by
  refine (judgeLevel2_raises d.judged1).flag_mono ?_
  rw [judged1_of_falls falls]
  exact supplyAction_flag _ _

theorem formEstimate_flag2 {d : Device} (falls : d.falls2) :
    (d.formEstimate.factor (if d.tbs.deviceConfig.action2 = .sit then .supplySit else .supplyLow)).flag = true := by
  rw [formEstimate_of_falls2 falls]
  exact supplyAction_flag _ _

theorem formEstimate_of_neither {d : Device} (first : ¬ d.falls1) (second : ¬ d.falls2) :
    d.formEstimate = { d with nsv := d.formEstimate.nsv } := by
  rw [formEstimate_of_not_falls2 second]
  show ({ d.judged1 with nsv := _ } : Device) = { d with nsv := _ }
  rw [judged1_of_not first]
  rfl

/-- The reports of a leg after their ageing (R142). -/
theorem ageReports_voltage (d : Device) (l : Leg) (j : Joint) : ((d.ageReports l).nsv.voltages.get j.leg).get j.ix =
    if j.leg = l ∧ (d.link l).answered.get j.ix = false
    then { (d.nsv.voltages.get j.leg).get j.ix with age := min (((d.nsv.voltages.get j.leg).get j.ix).age + 1) 4 }
    else (d.nsv.voltages.get j.leg).get j.ix := by
  rcases j with ⟨m, i⟩
  unfold ageReports
  dsimp only
  by_cases same : m = l
  · subst same
    rw [PerLeg.get_modify_self, PerJoint.get_ofFn]
    cases (d.link m).answered.get i with
    | true => rw [if_pos rfl, if_neg (by simp)]
    | false => rw [if_neg (by simp), if_pos ⟨rfl, rfl⟩]; rfl
  · rw [PerLeg.get_modify_ne _ _ same, if_neg fun both => same both.1]

end Device

/-- Settles O49: the estimate, the levels it leaves, their actions in order, and the ageing of the reports. -/
theorem supplyLevelsFollowEstimate : Obligations.SupplyLevelsFollowEstimate := by
  refine ⟨fun d => ?_, fun d l => ⟨rfl, rfl, d.ageReports_voltage l⟩⟩
  intro e c fell1 fell2
  have record : e.nsv = d.reformed := d.formEstimate_nsv
  have falls1 : fell1 ↔ d.falls1 := by
    show _ ∧ e.nsv.level1 = .low ↔ _
    rw [record]
    rfl
  have falls2 : fell2 ↔ d.falls2 := by
    show _ ∧ e.nsv.level2 = .low ↔ _
    rw [record]
    rfl
  refine ⟨?_, d.mem_countingReports, fun normal => ?_, fun low => ?_, fun normal => ?_, fun low => ?_,
    fun fell => Device.formEstimate_flag1 (falls1.mp fell), fun fell => Device.formEstimate_flag2 (falls2.mp fell),
    fun fell armed => ?_, fun stands1 stands2 => ?_, ?_, ?_⟩
  · rw [record]
    exact d.leastReport_eq
  · rw [record]
    show levelAfter d.nsv.level1 _ _ _ = .low ↔ _
    rw [normal]
    exact Device.levelAfter_normal _ _ _
  · rw [record]
    show levelAfter d.nsv.level1 _ _ _ = .low ↔ _
    rw [low]
    exact Device.levelAfter_low _ _ _
  · rw [record]
    show levelAfter d.nsv.level2 _ _ _ = .low ↔ _
    rw [normal]
    exact Device.levelAfter_normal _ _ _
  · rw [record]
    show levelAfter d.nsv.level2 _ _ _ = .low ↔ _
    rw [low]
    exact Device.levelAfter_low _ _ _
  · rw [falls1, falls2] at fell
    exact Device.formEstimate_sits fell armed
  · exact Device.formEstimate_of_neither (fun falls => stands1 (falls1.mpr falls)) (fun falls => stands2 (falls2.mpr falls))
  · rw [record]
    rfl
  · rw [record]
    rfl

end Sys2Proof.Machine
end

section
/-!
PROOFS. What a missed outcome does to a node, to its contact state and to the modes (R135, R137, R139).
-/

namespace Sys2Proof.Machine

namespace Device

/-! ## Holds entered and not entered -/

theorem noneHeld_of_mhu {d e : Device} (same : e.mhu = d.mhu) : d.noneHeld e := .inl same

/-- A hold that one operation entered stands through a second one that enters none. -/
theorem heldFor_trans {d e f : Device} {h : Hold} (first : d.heldFor e h) (second : e.noneHeld f)
    (sat : (e.factor .supplySit).flag = true → (f.factor .supplySit).flag = true) : d.heldFor f h := by
  intro mode empty
  rcases second with same | demanded
  · rw [same]
    exact (first mode empty).imp_right fun ⟨down, flag⟩ => ⟨down, sat flag⟩
  · exact .inr demanded

theorem noneHeld_trans {d e f : Device} (first : d.noneHeld e) (second : e.noneHeld f)
    (sat : (e.factor .supplySit).flag = true → (f.factor .supplySit).flag = true) : d.noneHeld f := by
  rcases second with same | demanded
  · unfold noneHeld
    rw [same]
    exact first.imp_right fun ⟨down, flag⟩ => ⟨down, sat flag⟩
  · exact .inr demanded

/-- A hold is entered from the modes and the stack alone. -/
theorem heldFor_of_mhu {d e f : Device} {h : Hold} (same : e.mhu = d.mhu) (held : e.heldFor f h) : d.heldFor f h := by
  unfold heldFor at held ⊢
  rwa [same] at held

theorem noneHeld_of_mhu_left {d e f : Device} (same : e.mhu = d.mhu) (none : e.noneHeld f) : d.noneHeld f := by
  unfold noneHeld at none ⊢
  rwa [same] at none

/-! ## What the supply watch leaves as it is -/

/-- `e` comes of `d` by a watch of the supply: no node or filter has changed, no factor but those of the supply, and no
hold has been entered. -/
structure Watched (d e : Device) : Prop where
  node : ∀ n, e.node n = d.node n
  cfl : e.cfl = d.cfl
  lcc : e.lcc = d.lcc
  raises : Raises supplyFactors d e
  none : d.noneHeld e

namespace Watched

theorem refl (d : Device) : Watched d d := ⟨fun _ => rfl, rfl, rfl, .refl d, .inl rfl⟩

theorem sat {d e : Device} (h : Watched d e) : (d.factor .supplySit).flag = true → (e.factor .supplySit).flag = true :=
  h.raises.flag_mono

theorem factor {d e : Device} (h : Watched d e) {f : Factor} (other : f ∉ supplyFactors) : e.factor f = d.factor f :=
  h.raises.factor_eq other

theorem contact {d e : Device} (h : Watched d e) (l : Leg) : e.contact l = d.contact l := by
  unfold Device.contact
  rw [h.cfl]

theorem trans {d e f : Device} (first : Watched d e) (second : Watched e f) : Watched d f :=
  ⟨fun n => (second.node n).trans (first.node n), second.cfl.trans first.cfl, second.lcc.trans first.lcc,
    first.raises.trans second.raises, noneHeld_trans first.none second.none second.sat⟩

end Watched

theorem sitDemand_of_unarmed {d : Device} (down : d.mhu.mode = .unarmed) : d.sitDemand = d :=
  sitDemand_of_down d (.inl down)

theorem supplyAction_of_unarmed (a : SupplyAction) {d : Device} (down : d.mhu.mode = .unarmed) :
    (d.supplyAction a).mhu = d.mhu := by
  cases a with
  | flag | derate => rfl
  | sit =>
    show ((d.raise .supplySit).sitDemand).mhu = _
    rw [sitDemand_of_unarmed (d := d.raise .supplySit) down]
    rfl

theorem formEstimate_of_unarmed {d : Device} (down : d.mhu.mode = .unarmed) : d.formEstimate.mhu = d.mhu := by
  have judged : d.judged1.mhu = d.mhu := by
    by_cases falls : d.falls1
    · rw [judged1_of_falls falls, supplyAction_of_unarmed _ (d := d.estimated.levelled1) down]
      rfl
    · rw [judged1_of_not falls]
      rfl
  by_cases falls : d.falls2
  · rw [formEstimate_of_falls2 falls, supplyAction_of_unarmed _ (d := d.judged1.levelled2) (by rw [← down, ← judged]; rfl)]
    exact judged
  · rw [formEstimate_of_not_falls2 falls]
    exact judged

/-- The estimate enters no hold, and leaves SAFE_SIT only with SUPPLY_SIT raised (R144). -/
theorem formEstimate_noneHeld (d : Device) : d.noneHeld d.formEstimate := by
  by_cases down : d.mhu.mode = .unarmed
  · exact .inl (formEstimate_of_unarmed down)
  · by_cases fell1 : d.falls1 ∧ d.tbs.deviceConfig.action1 = .sit
    · have flag := formEstimate_flag1 fell1.1
      rw [if_pos fell1.2] at flag
      exact .inr ⟨(formEstimate_sits (.inl fell1) down).1, flag⟩
    · by_cases fell2 : d.falls2 ∧ d.tbs.deviceConfig.action2 = .sit
      · have flag := formEstimate_flag2 fell2.1
        rw [if_pos fell2.2] at flag
        exact .inr ⟨(formEstimate_sits (.inr fell2) down).1, flag⟩
      · exact .inl ((formEstimate_mhu_of_not_sit fell2).trans (judged1_mhu_of_not_sit fell1))

theorem formEstimate_watched (d : Device) : Watched d d.formEstimate where
  node n := by
    unfold node
    rw [formEstimate_nsv]
    rfl
  cfl := by simp
  lcc := by simp
  raises := formEstimate_raises d
  none := d.formEstimate_noneHeld

theorem transactionEnded_watched (l : Leg) (d : Device) : Watched d (d.transactionEnded l) where
  node n := ((d.ageReports l).formEstimate_watched).node n
  cfl := ((d.ageReports l).formEstimate_watched).cfl
  lcc := ((d.ageReports l).formEstimate_watched).lcc
  raises := transactionEnded_raises l d
  none := (d.ageReports l).formEstimate_noneHeld

/-! ## The reactions (R137, R139) -/

theorem inFlight_iff (d : Device) (l : Leg) :
    d.inFlight l = true ↔ d.legState l = .swing ∨ d.legState l = .landing := by
  simp [inFlight]

/-- What a reaction does to the factors and to the modes: its factor is raised once, and a hold is entered when the leg
calls for one. -/
structure Reacted (d e : Device) (n : Node) (why : NodeReason) (holds : Prop) : Prop where
  node : ∀ m, e.node m = d.node m
  cfl : e.cfl = d.cfl
  lcc : e.lcc = d.lcc
  nsv : e.nsv = d.nsv
  raises : Raises (why.factor :: pushFactors) d e
  self : e.factor why.factor = d.raisedOnce why.factor
  held : holds → d.heldFor e (.node n)
  none : ¬ holds → d.noneHeld e

theorem driveReaction_reacted (n : Node) (why : NodeReason) (d : Device) : Reacted d (d.driveReaction n why) n why
    (d.supporting n.leg = true ∨ d.legState n.leg = .swing ∨ d.legState n.leg = .landing) := by
  obtain ⟨-, -, cfl, lcc, -, nsv, -⟩ := driveReaction_frame n why d
  have calls : (d.supporting n.leg || d.inFlight n.leg) = true ↔
      (d.supporting n.leg = true ∨ d.legState n.leg = .swing ∨ d.legState n.leg = .landing) := by
    rw [Bool.or_eq_true, inFlight_iff]
  refine ⟨fun m => by unfold node; rw [nsv], cfl, lcc, nsv, driveReaction_raises n why d, ?_, fun holds => ?_, fun holds => ?_⟩
  · unfold driveReaction
    split
    · exact request_factor_self (q := .node n why) rfl d
    · exact raise_factor_self why.factor d
  · unfold driveReaction
    rw [if_pos (calls.mpr holds)]
    exact request_heldFor (.node n why) d
  · unfold driveReaction
    rw [if_neg fun h => holds (calls.mp h)]
    exact .inl rfl

theorem footReaction_reacted (l : Leg) (why : NodeReason) (d : Device) : Reacted d (d.footReaction l why) ⟨l, .foot⟩ why
    (d.legState l = .swing ∨ d.legState l = .landing) := by
  obtain ⟨-, -, cfl, lcc, -, nsv, -⟩ := footReaction_frame l why d
  refine ⟨fun m => by unfold node; rw [nsv], cfl, lcc, nsv, footReaction_raises l why d, ?_, fun holds => ?_, fun holds => ?_⟩
  · unfold footReaction
    split
    · exact request_factor_self (q := .node ⟨l, .foot⟩ why) rfl d
    · exact raise_factor_self why.factor d
  · unfold footReaction
    rw [if_pos ((inFlight_iff d l).mpr holds)]
    exact request_heldFor (.node ⟨l, .foot⟩ why) d
  · unfold footReaction
    rw [if_neg fun h => holds ((inFlight_iff d l).mp h)]
    exact .inl rfl

/-! ## The contact state of a lost foot node (R49) -/

theorem allInStance_eq_false {d : Device} {l : Leg} (away : d.legState l ≠ .stance) : d.allInStance = false := by
  refine Bool.eq_false_iff.mpr fun all => away ?_
  exact of_decide_eq_true ((Leg.all_iff _).mp all l)

/-- The engine does nothing on a contact state that is not known. -/
theorem contactChange_unknown (l : Leg) (d : Device) : d.contactChange l .unknown = d := by
  unfold contactChange
  cases state : d.legState l with
  | swing =>
    have away : d.allInStance = false := allInStance_eq_false (l := l) (by rw [state]; decide)
    show d.completeStop = d
    unfold completeStop
    rw [away]
    simp
  | stance | liftWait | landing | setDown => exact if_neg (by decide)
  | hang | unset => rfl

/-- The filters once the foot node of a leg has been lost. -/
theorem loseFoot_eq (l : Leg) (d : Device) : d.loseFoot l = d.modFilter l fun r => { r with contact := .unknown } := by
  unfold loseFoot formContact
  dsimp only
  split
  · rfl
  · exact contactChange_unknown l _

/-! ## A missed outcome (R135) -/

/-- A node record as its node is lost. -/
def lostRecord (r : NodeRecord) : NodeRecord :=
  { r with live := false, misses := 3, latched := { r.latched with nodeLost := true } }

theorem loseNode_of_foot (l : Leg) (d : Device) : d.loseNode ⟨l, .foot⟩ =
    (((d.modNode ⟨l, .foot⟩ lostRecord).footReaction l .lost).formEstimate).loseFoot l := rfl

theorem loseNode_of_drive {n : Node} (drive : n.slot ≠ .foot) (d : Device) : d.loseNode n =
    (if (d.node n).latched.nodeLost then d.modNode n lostRecord
      else (d.modNode n lostRecord).driveReaction n .lost).formEstimate := by
  rcases n with ⟨l, x⟩
  cases x with
  | foot => exact absurd rfl drive
  | ha | hf | kn => rfl

theorem missedOutcome_of_lost {n : Node} {d : Device} (lost : (d.node n).misses = 2 ∧ (d.node n).live = true) :
    d.missedOutcome n = d.loseNode n := if_pos lost

theorem missedOutcome_of_kept {n : Node} {d : Device} (kept : ¬ ((d.node n).misses = 2 ∧ (d.node n).live = true)) :
    d.missedOutcome n = d.modNode n fun r => { r with misses := countUp 3 r.misses } := if_neg kept

theorem modNode_of_reacted {d e : Device} {n : Node} {why : NodeReason} {holds : Prop} {f : NodeRecord → NodeRecord}
    (reacted : Reacted (d.modNode n f) e n why holds) : e.node n = f (d.node n) ∧ ∀ m, m ≠ n → e.node m = d.node m :=
  ⟨(reacted.node n).trans (modNode_node_self n f d), fun m other => (reacted.node m).trans (modNode_node_ne f d other)⟩

/-- The loss of a drive; one that was lost already is not reacted to again (log 16). -/
theorem loseNode_drive_missedBy {n : Node} {d : Device} (drive : n.slot ≠ .foot)
    (lost : (d.node n).misses = 2 ∧ (d.node n).live = true) : d.missedBy (d.loseNode n) n := by
  rw [loseNode_of_drive drive]
  cases already : (d.node n).latched.nodeLost with
  | true =>
    rw [if_pos rfl]
    have watched := (d.modNode n lostRecord).formEstimate_watched
    refine ⟨fun kept => absurd lost kept, fun _ => ⟨?_, fun foot => absurd foot drive, ?_, fun reacts => ?_, fun _ => ?_⟩,
      fun m other => (watched.node m).trans (modNode_node_ne _ d other)⟩
    · exact (watched.node n).trans (modNode_node_self n _ d)
    · rw [watched.factor (by decide), if_neg (by simp [drive, already])]
      rfl
    · exact absurd reacts (by simp [drive, already])
    · exact watched.none
  | false =>
    rw [if_neg Bool.false_ne_true]
    have reacted := (d.modNode n lostRecord).driveReaction_reacted n .lost
    obtain ⟨node, others⟩ := modNode_of_reacted reacted
    have watched := ((d.modNode n lostRecord).driveReaction n .lost).formEstimate_watched
    refine ⟨fun kept => absurd lost kept, fun _ => ⟨?_, fun foot => absurd foot drive, ?_, fun _ holds => ?_, fun stands => ?_⟩,
      fun m other => (watched.node m).trans (others m other)⟩
    · exact (watched.node n).trans node
    · rw [watched.factor (by decide), if_pos (.inr already)]
      exact reacted.self
    · exact heldFor_trans (reacted.held (holds.elim .inr fun ⟨_, supports⟩ => .inl supports)) watched.none watched.sat
    · refine noneHeld_trans (reacted.none fun holds => stands ⟨.inr already, ?_⟩) watched.none watched.sat
      exact holds.elim (fun supports => .inr ⟨drive, supports⟩) .inl

/-- The loss of a foot node is reacted to whenever it comes, and leaves its contact state unknown (R49, R139). -/
theorem loseNode_foot_missedBy {l : Leg} {d : Device}
    (lost : (d.node ⟨l, .foot⟩).misses = 2 ∧ (d.node ⟨l, .foot⟩).live = true) :
    d.missedBy (d.loseNode ⟨l, .foot⟩) ⟨l, .foot⟩ := by
  rw [loseNode_of_foot, loseFoot_eq]
  have reacted := (d.modNode ⟨l, .foot⟩ lostRecord).footReaction_reacted l .lost
  obtain ⟨node, others⟩ := modNode_of_reacted reacted
  have watched := ((d.modNode ⟨l, .foot⟩ lostRecord).footReaction l .lost).formEstimate_watched
  refine ⟨fun kept => absurd lost kept, fun _ => ⟨?_, fun _ => ?_, ?_, fun _ holds => ?_, fun stands => ?_⟩,
    fun m other => (watched.node m).trans (others m other)⟩
  · exact (watched.node _).trans node
  · exact congrArg FilterRecord.contact (modFilter_filter_self l _ _)
  · rw [if_pos (.inl rfl)]
    exact (watched.factor (by decide)).trans reacted.self
  · exact heldFor_trans (reacted.held (holds.resolve_right fun drive => drive.1 rfl)) watched.none watched.sat
  · exact noneHeld_trans (reacted.none fun holds => stands ⟨.inl rfl, .inl holds⟩) watched.none watched.sat

theorem missedOutcome_missedBy (n : Node) (d : Device) : d.missedBy (d.missedOutcome n) n := by
  by_cases lost : (d.node n).misses = 2 ∧ (d.node n).live = true
  · rw [missedOutcome_of_lost lost]
    by_cases foot : n.slot = .foot
    · obtain ⟨l, x⟩ := n
      obtain rfl : x = .foot := foot
      exact loseNode_foot_missedBy lost
    · exact loseNode_drive_missedBy foot lost
  · rw [missedOutcome_of_kept lost]
    exact ⟨fun _ => ⟨modNode_node_self n _ d, rfl, rfl, .inl rfl⟩, fun h => absurd h lost,
      fun m other => modNode_node_ne _ d other⟩

/-! ## A miss seen across what comes before and after it -/

/-- A watch of the supply after a miss is not seen of the miss. -/
theorem missedBy_of_watched {d e f : Device} {n : Node} (missed : d.missedBy e n) (watched : Watched e f) :
    d.missedBy f n := by
  obtain ⟨kept, lost, others⟩ := missed
  have factor := watched.factor (f := .nodeLost) (by decide)
  refine ⟨fun h => ?_, fun h => ?_, fun m other => (watched.node m).trans (others m other)⟩
  · obtain ⟨node, cfl, standing, none⟩ := kept h
    exact ⟨(watched.node n).trans node, watched.cfl.trans cfl, factor.trans standing,
      noneHeld_trans none watched.none watched.sat⟩
  · obtain ⟨node, contact, raised, held, none⟩ := lost h
    exact ⟨(watched.node n).trans node, fun foot => (watched.contact n.leg).trans (contact foot), factor.trans raised,
      fun reacts holds => heldFor_trans (held reacts holds) watched.none watched.sat,
      fun stands => noneHeld_trans (none stands) watched.none watched.sat⟩

/-- A miss is not seen of a factor raised before it, other than its own. -/
theorem missedBy_of_raise {d e : Device} {n : Node} {f : Factor} (other : f ≠ .nodeLost)
    (missed : (d.raise f).missedBy e n) : d.missedBy e n := by
  have factor : (d.raise f).factor .nodeLost = d.factor .nodeLost := raise_factor_ne d other.symm
  unfold missedBy raisedOnce at missed
  rw [factor] at missed
  exact missed

/-- A miss is not seen of the links. -/
theorem missedBy_withLinks {d e : Device} {n : Node} (links : PerLeg LinkController) (missed : d.missedBy e n) :
    d.missedBy (e.withLinks links) n := missed

end Device

end Sys2Proof.Machine
end

section
/-!
PROOFS. The reply slots (O45, O46): what the receiver takes of a line, the judgement of a slot, and what the end of a
slot makes of the link and of the device.
-/

namespace Sys2Proof.Machine

/-! ## What a slot receives (R126, log 42) -/

/-- The window that is left of a slot whose line was quiet before it opened. -/
theorem slotReception_eq {k : LinkController} (x : Slot) {tail : k.tail = [true]}
    {early : k.early < 16 * k.settings.window} (heard : List Bool) : slotReception k x heard =
      collect (expectedChars x) (16 * k.settings.window - k.early + 1) 0 [] (huntFrom 1 0 true heard) := by
  unfold slotReception slotLine
  rw [tail, show [true].length + 16 * k.settings.window - k.early = 16 * k.settings.window - k.early + 1 from by
    rw [List.length_singleton]; omega]
  rfl

theorem slotLine_length {k : LinkController} (tail : k.tail = [true]) (heard : List Bool) :
    (slotLine k heard).length = heard.length + 1 := by
  unfold slotLine
  rw [tail]
  rfl

/-- The characters of a slot, by what the receiver has of it. -/
theorem slotChars_eq {k : LinkController} {x : Slot} {heard : List Bool} (tail : k.tail = [true]) {r : Reception}
    (received : slotReception k x heard = r) :
    slotChars k x heard = if r.known = heard.length + 1 then some r.chars else none := by
  unfold slotChars
  rw [received, slotLine_length tail]

theorem slotChars_eq_some {k : LinkController} {x : Slot} {heard : List Bool} {cs : List RxChar}
    (closed : slotChars k x heard = some cs) : (slotReception k x heard).chars = cs := by
  unfold slotChars at closed
  split at closed
  · exact Option.some.inj closed
  · cases closed

/-- A collection that has brought characters is known to have ended as it ends. -/
theorem collect_known_of_chars (wanted due busy : Nat) (taken : List RxChar) (cs : List Candidate)
    (some : (collect wanted due busy taken cs).chars ≠ []) :
    (collect wanted due busy taken cs).known = (collect wanted due busy taken cs).ended := by
  have spent (due busy : Nat) (taken : List RxChar) (some : (spentSlot due busy taken).chars ≠ []) :
      (spentSlot due busy taken).known = (spentSlot due busy taken).ended := by
    unfold spentSlot at some ⊢
    split
    next empty => exact absurd (by rw [if_pos empty]) some
    next => rfl
  induction cs generalizing due busy taken with
  | nil => exact spent due busy taken some
  | cons c cs ih =>
    by_cases late : due ≤ c.edge
    · rw [collect, if_pos late] at some ⊢
      exact spent due busy taken some
    · cases received : receiveChar c.sampled with
      | none =>
        rw [collect, if_neg late] at some ⊢
        simp only [received] at some ⊢
        exact ih _ _ _ some
      | some x =>
        rw [collect, if_neg late] at some ⊢
        simp only [received] at some ⊢
        split at some
        next full => rw [if_pos full]
        next more => rw [if_neg more]; exact ih _ _ _ some

/-- Only a slot without characters ends before its end is known. -/
theorem carriedOver_early_of_chars {k : LinkController} {x : Slot} {heard : List Bool}
    (some : (slotReception k x heard).chars ≠ []) : (carriedOver k x heard).early = 0 :=
  (congrArg (· - (slotReception k x heard).ended) (collect_known_of_chars _ _ _ _ _ some)).trans (Nat.sub_self _)

theorem carriedOver_tail_of_complete {k : LinkController} {x : Slot} {heard : List Bool}
    (complete : (slotReception k x heard).chars.length = expectedChars x) :
    (carriedOver k x heard).tail = (slotLine k heard).drop ((slotLine k heard).length - 6) := by
  show (slotLine k heard).drop ((slotLine k heard).length - if _ then 6 else 1) = _
  rw [if_pos complete]

theorem carriedOver_tail_of_short {k : LinkController} {x : Slot} {heard : List Bool}
    (short : (slotReception k x heard).chars.length ≠ expectedChars x) :
    (carriedOver k x heard).tail = (slotLine k heard).drop ((slotLine k heard).length - 1) := by
  show (slotLine k heard).drop ((slotLine k heard).length - if _ then 6 else 1) = _
  rw [if_neg short]

theorem expectedChars_eq (x : Slot) : expectedChars x = if x = .foot then 7 else 8 := by
  cases x <;> rfl

/-- The hunt of a quiet line finds nothing. -/
theorem huntFrom_silent (n now : Nat) : huntFrom now 0 true (List.replicate n true) = [] := by
  have quiet := huntFrom_quiet n now []
  rw [List.append_nil] at quiet
  rw [quiet]
  rfl

/-- A line no longer than what is held brings no candidate. -/
theorem huntFrom_short (k now : Nat) (before : Bool) (line : List Bool) (short : line.length ≤ k) :
    huntFrom now k before line = [] := by
  induction line generalizing k now before with
  | nil => rfl
  | cons b line ih =>
    cases k with
    | zero => simp at short
    | succ k =>
      rw [huntFrom]
      exact ih k _ _ (by simpa using short)

/-- The samples of a line that has fallen for one sample. -/
theorem receiveChar_glitch : receiveChar (sampledChar (false :: List.replicate 7 true)) = none
    ∧ heldSamples (sampledChar (false :: List.replicate 7 true)) = 7 := by decide

/-- The hunt of a quiet line on which one sample is low finds a false start. -/
theorem huntFrom_glitch (n : Nat) : huntFrom 1 0 true (List.replicate n true ++ false :: List.replicate 7 true)
    = [⟨1 + n, sampledChar (false :: List.replicate 7 true)⟩] := by
  rw [huntFrom_quiet, huntFrom_edge, receiveChar_glitch.2, huntFrom_short 7 _ _ _ (by simp)]

section
variable {k : LinkController} {x : Slot} (tail : k.tail = [true]) (early : k.early < 16 * k.settings.window)
include tail early

/-- A quiet line ends its slot with the window. -/
theorem slotChars_quiet (w : Nat) : slotChars k x (List.replicate w true)
    = if w = 16 * k.settings.window - k.early then some [] else none := by
  have received := slotReception_eq x (tail := tail) (early := early) (List.replicate w true)
  rw [huntFrom_silent] at received
  rw [slotChars_eq tail received, List.length_replicate]
  simp only [collect, spentSlot, if_true, Nat.max_zero, Nat.add_right_cancel_iff, eq_comm]

/-- A false start that straddles the end of the window is known for one only after it. -/
theorem slotReception_glitch {j : Nat} (straddles : j ≤ 7) (within : j < 16 * k.settings.window - k.early) :
    slotReception k x (List.replicate (16 * k.settings.window - k.early - 1 - j) true ++ false :: List.replicate 7 true)
      = ⟨[], 16 * k.settings.window - k.early + 1, 16 * k.settings.window - k.early - j + 8⟩ := by
  rw [slotReception_eq x (tail := tail) (early := early), huntFrom_glitch, collect, if_neg (by dsimp only; omega)]
  simp only [receiveChar_glitch.1, collect, spentSlot, if_true]
  congr 1
  omega

theorem slotChars_glitch {j : Nat} (straddles : j ≤ 7) (within : j < 16 * k.settings.window - k.early) :
    slotChars k x (List.replicate (16 * k.settings.window - k.early - 1 - j) true ++ false :: List.replicate 7 true)
      = some [] := by
  rw [slotChars_eq tail (slotReception_glitch tail early straddles within)]
  refine if_pos ?_
  simp only [List.length_append, List.length_replicate, List.length_cons]
  omega

/-- Fewer characters than are wanted, begun within the window, end the slot 4 bit times after the last. -/
theorem slotChars_short {bs : List Byte} {w : Nat} (some : bs ≠ []) (short : bs.length < expectedChars x)
    (within : w < 16 * k.settings.window - k.early) :
    slotChars k x (List.replicate w true ++ bs.flatMap charOnLine ++ List.replicate 64 true) = .some (cleanChars bs) := by
  have received := slotReception_eq x (tail := tail) (early := early)
    (List.replicate w true ++ bs.flatMap charOnLine ++ List.replicate 64 true)
  rw [List.append_assoc, huntFrom_quiet, huntFrom_chars, huntFrom_silent, List.append_nil,
    collect_chars _ _ _ _ _ _ _ some (by omega) (by simpa using short)] at received
  rw [List.append_assoc, slotChars_eq tail received]
  refine if_pos ?_
  simp only [List.length_append, List.length_replicate, charsOnLine_length]
  omega

/-- A reply begun after the window is none of the slot's. -/
theorem slotChars_late {bs : List Byte} {w : Nat} (some : bs ≠ []) (late : 16 * k.settings.window - k.early ≤ w) :
    slotChars k x (List.replicate w true ++ bs.flatMap charOnLine ++ List.replicate 64 true) = none := by
  obtain ⟨b, bs, rfl⟩ := List.exists_cons_of_ne_nil some
  have received := slotReception_eq x (tail := tail) (early := early)
    (List.replicate w true ++ (b :: bs).flatMap charOnLine ++ List.replicate 64 true)
  rw [List.append_assoc, huntFrom_quiet, huntFrom_chars, charsFrom, List.cons_append, collect,
    if_pos (by dsimp only; omega)] at received
  rw [List.append_assoc, slotChars_eq tail received]
  refine if_neg ?_
  simp only [spentSlot, if_true, List.length_append, List.length_replicate, charsOnLine_length, List.length_cons]
  omega

/-- A full reply begun within the window is complete with its last stop bit. -/
theorem slotChars_full {bs : List Byte} {w : Nat} (full : bs.length = expectedChars x)
    (within : w < 16 * k.settings.window - k.early) :
    slotChars k x (List.replicate w true ++ bs.flatMap charOnLine) = .some (cleanChars bs) := by
  have some : bs ≠ [] := by
    rintro rfl
    cases x <;> simp [expectedChars] at full
  have hunted := huntFrom_chars bs (1 + w) []
  rw [List.append_nil] at hunted
  have received := slotReception_eq x (tail := tail) (early := early) (List.replicate w true ++ bs.flatMap charOnLine)
  rw [huntFrom_quiet, hunted, collect_wanted _ _ _ _ _ _ _ _ some (by omega) (by simpa using full)] at received
  rw [slotChars_eq tail received]
  refine if_pos ?_
  simp only [List.length_append, List.length_replicate, charsOnLine_length]
  omega

end

/-! ## The judgement of a slot (R127) -/

theorem judgeSlot_of_short {settings : LinkConfig} {n : Node} {cs : List RxChar} (some : cs ≠ [])
    (short : cs.length < expectedChars n.slot) : judgeSlot settings n cs = .short := by
  unfold judgeSlot
  rw [List.isEmpty_eq_false_iff.mpr some, if_neg Bool.false_ne_true, if_pos short]

theorem judgeSlot_of_full {settings : LinkConfig} {n : Node} {cs : List RxChar}
    (full : cs.length = expectedChars n.slot) : judgeSlot settings n cs =
      if anyFraming cs then .framing
      else if !crcHolds settings.polynomial settings.initial (valuesOf cs) then .crcFailed
      else if u8 (valuesOf cs) 0 ≠ n.number then .wrongNode
      else .good (anyNoisy cs) := by
  have some : cs ≠ [] := by
    rintro rfl
    rcases n with ⟨l, x⟩
    cases x <;> simp [expectedChars] at full
  unfold judgeSlot
  rw [List.isEmpty_eq_false_iff.mpr some, if_neg Bool.false_ne_true, if_neg (by omega)]

/-- Characters that are fewer than a reply's are no good reply and no failed CRC. -/
theorem judgeSlot_of_missing {settings : LinkConfig} {n : Node} {cs : List RxChar}
    (missing : cs = [] ∨ cs ≠ [] ∧ cs.length < expectedChars n.slot) :
    (∀ noisy, judgeSlot settings n cs ≠ .good noisy) ∧ judgeSlot settings n cs ≠ .crcFailed := by
  rcases missing with rfl | ⟨some, short⟩
  · exact ⟨fun _ => by simp [judgeSlot], by simp [judgeSlot]⟩
  · rw [judgeSlot_of_short some short]
    exact ⟨fun _ => SlotJudgement.noConfusion, SlotJudgement.noConfusion⟩

namespace Device

/-! ## The link at the end of a slot (R127 to R129) -/

/-- The counts of a link after the judgement of a slot (R127). -/
def countedLink (x : Slot) (j : SlotJudgement) (k : LinkController) : LinkController :=
  match j with
  | .good noisy => { k with noise := if noisy then saturate k.noise else k.noise }
  | _ => { k with missTotals := k.missTotals.modify x saturate }

/-- The link once a good reply of a drive has been handed on (log 29). -/
def answeredLink (x : Slot) (j : SlotJudgement) (k : LinkController) : LinkController :=
  match j, x.joint with
  | .good _, some i => { k with answered := k.answered.set i true }
  | _, _ => k

/-- The link as its line comes free (R129). -/
def lineFreed (settings : LinkConfig) (k : LinkController) : LinkController :=
  match k.waiting with
  | some c => begun settings c { k with waiting := none }
  | none => { k with state := .idle }

/-- The link as its slot closes (R126, R129). -/
def closedLink (settings : LinkConfig) (x : Slot) (carried : Carried) (k : LinkController) : LinkController :=
  match nextSlot x with
  | some y => { k with buffer := [], state := .slot y, tail := carried.tail, early := carried.early }
  | none => lineFreed settings { k with buffer := [], tail := quietLine, early := 0 }

/-- The factor of a reply that fails its CRC (R127). -/
def crcCounted (j : SlotJudgement) (d : Device) : Device := if j = .crcFailed then d.raise .replyCrc else d

/-- What the end of a slot does to all but the links. -/
def slotOutcome (l : Leg) (x : Slot) (j : SlotJudgement) (bs : List Byte) (d : Device) : Device :=
  if x = .foot then ((d.crcCounted j).handOn l x j bs).transactionEnded l else (d.crcCounted j).handOn l x j bs

theorem withLinks_crcCounted (links : PerLeg LinkController) (j : SlotJudgement) (d : Device) :
    (d.withLinks links).crcCounted j = (d.crcCounted j).withLinks links := by
  unfold crcCounted
  rw [withLinks_raise, apply_ite (withLinks links)]

theorem modLink_withLinks (l : Leg) (f : LinkController → LinkController) (links : PerLeg LinkController) (d : Device) :
    (d.withLinks links).modLink l f = d.withLinks (links.set l (f (links.get l))) := rfl

theorem countSlot_withLinks (l : Leg) (x : Slot) (j : SlotJudgement) (links : PerLeg LinkController) (d : Device) :
    (d.withLinks links).countSlot l x j
      = (d.crcCounted j).withLinks (links.set l (countedLink x j (links.get l))) := by
  cases j <;> rfl

/-- A judgement that is not good is a missed outcome. -/
theorem handOn_of_missed {j : SlotJudgement} (bad : ∀ noisy, j ≠ .good noisy) (l : Leg) (x : Slot) (bs : List Byte)
    (d : Device) : d.handOn l x j bs = d.missedOutcome ⟨l, x⟩ := by
  cases j with
  | good noisy => exact absurd rfl (bad noisy)
  | noReply | short | framing | crcFailed | wrongNode => rfl

theorem handOn_withLinks (l : Leg) (x : Slot) (j : SlotJudgement) (bs : List Byte) (links : PerLeg LinkController)
    (d : Device) : (d.withLinks links).handOn l x j bs
      = (d.handOn l x j bs).withLinks (links.set l (answeredLink x j (links.get l))) := by
  have missed : (d.withLinks links).missedOutcome ⟨l, x⟩ = (d.missedOutcome ⟨l, x⟩).withLinks
      (links.set l (links.get l)) := by rw [PerLeg.set_get, withLinks_missedOutcome]
  cases j with
  | noReply | short | framing | crcFailed | wrongNode => exact missed
  | good noisy =>
    cases x with
    | foot =>
      show _ = ((d.superviseFoot l (footReply bs)).filterReply l (footReply bs)).withLinks (links.set l (links.get l))
      rw [PerLeg.set_get]
      show ((d.withLinks links).superviseFoot l (footReply bs)).filterReply l (footReply bs) = _
      rw [withLinks_superviseFoot, withLinks_filterReply]
    | ha | hf | kn =>
      show (((d.withLinks links).modLink l _).superviseDrive _ _).takePosition _ _
        = (((d.modLink l _).superviseDrive _ _).takePosition _ _).withLinks _
      rw [modLink_withLinks, withLinks_superviseDrive, withLinks_takePosition,
        show ∀ f, d.modLink l f = d.withLinks (d.llc.set l (f (d.link l))) from fun _ => rfl,
        withLinks_superviseDrive, withLinks_takePosition]
      rfl

theorem lineFree_eq (l : Leg) (d : Device) : d.lineFree l = d.modLink l (lineFreed d.tbs.linkConfig) := by
  cases waiting : (d.link l).waiting with
  | none =>
    rw [lineFree_of_empty waiting, modLink_eq, modLink_eq]
    simp only [lineFreed, waiting]
  | some c =>
    rw [lineFree_of_waiting waiting, modLink_eq, modLink_eq]
    simp only [lineFreed, waiting]

theorem closeSlot_of_next {x y : Slot} (next : nextSlot x = some y) (l : Leg) (carried : Carried)
    (links : PerLeg LinkController) (d : Device) : (d.withLinks links).closeSlot l x carried
      = d.withLinks (links.set l (closedLink d.tbs.linkConfig x carried (links.get l))) := by
  unfold closeSlot closedLink
  rw [next]
  dsimp only
  rw [modLink_modLink]
  rfl

theorem closeSlot_of_last (l : Leg) (carried : Carried) (links : PerLeg LinkController) {d : Device}
    (answered : (links.get l).answered = (d.link l).answered) : (d.withLinks links).closeSlot l .foot carried
      = (d.transactionEnded l).withLinks (links.set l (closedLink d.tbs.linkConfig .foot carried (links.get l))) := by
  show ((((d.withLinks links).modLink l _).modLink l _).transactionEnded l).lineFree l = _
  rw [modLink_modLink, modLink_withLinks, withLinks_transactionEnded _ d l (by rw [PerLeg.get_set_self]; exact answered),
    lineFree_eq, modLink_withLinks, PerLeg.set_set, PerLeg.get_set_self, withLinks_tbs, (transactionEnded_frame l d).1]
  rfl

/-- The link at the end of its slot, once what the slot brought has been judged, counted and handed on. -/
def slotLink (settings : LinkConfig) (x : Slot) (j : SlotJudgement) (cs : List RxChar) (carried : Carried)
    (k : LinkController) : LinkController :=
  closedLink settings x carried (answeredLink x j (countedLink x j { k with buffer := cs }))

theorem countedLink_answered (x : Slot) (j : SlotJudgement) (k : LinkController) :
    (countedLink x j k).answered = k.answered := by
  cases j <;> rfl

theorem answeredLink_foot (j : SlotJudgement) (k : LinkController) : answeredLink .foot j k = k := by
  cases j <;> rfl

theorem crcCounted_llc (j : SlotJudgement) (d : Device) : (d.crcCounted j).llc = d.llc := by
  unfold crcCounted
  split <;> rfl

theorem handOn_foot_llc (l : Leg) (j : SlotJudgement) (bs : List Byte) (d : Device) :
    (d.handOn l .foot j bs).llc = d.llc := by
  cases j with
  | good _ => simp [handOn, Slot.joint]
  | _ => simp [handOn]

/-- The end of a slot, at the link and at the other blocks (R126 to R129). -/
theorem endSlot_eq (l : Leg) (x : Slot) (cs : List RxChar) (carried : Carried) (d : Device) : d.endSlot l x cs carried =
    (d.slotOutcome l x (judgeSlot (d.link l).settings ⟨l, x⟩ cs) (valuesOf cs)).withLinks
      (d.llc.set l (slotLink d.tbs.linkConfig x (judgeSlot (d.link l).settings ⟨l, x⟩ cs) cs carried (d.link l))) := by
  obtain ⟨j, judged⟩ : ∃ j, j = judgeSlot (d.link l).settings ⟨l, x⟩ cs := ⟨_, rfl⟩
  have brought : d.modLink l (fun k => { k with buffer := cs })
      = d.withLinks (d.llc.set l { d.link l with buffer := cs }) := rfl
  have opened : d.endSlot l x cs carried = (((d.modLink l fun k => { k with buffer := cs }).countSlot l x j).handOn l x j
      (valuesOf cs)).closeSlot l x carried := by
    unfold endSlot
    dsimp only
    rw [modLink_link_self, judged]
  have tables : ((d.crcCounted j).handOn l x j (valuesOf cs)).tbs = d.tbs := by
    rw [(handOn_frame l x j (valuesOf cs) _).1]
    unfold crcCounted
    split <;> rfl
  rw [opened, brought, countSlot_withLinks, handOn_withLinks, ← judged, PerLeg.set_set, PerLeg.set_set,
    PerLeg.get_set_self, PerLeg.get_set_self]
  unfold slotOutcome slotLink
  cases x with
  | foot =>
    rw [closeSlot_of_last, PerLeg.set_set, PerLeg.get_set_self, tables]
    · rfl
    · rw [PerLeg.get_set_self, answeredLink_foot, countedLink_answered]
      unfold link
      rw [handOn_foot_llc, crcCounted_llc]
  | ha | hf | kn => rw [closeSlot_of_next rfl, PerLeg.set_set, PerLeg.get_set_self, tables]; rfl

theorem slotOutcome_foot (l : Leg) (j : SlotJudgement) (bs : List Byte) (d : Device) :
    d.slotOutcome l .foot j bs = ((d.crcCounted j).handOn l .foot j bs).transactionEnded l := if_pos rfl

theorem slotOutcome_drive {x : Slot} (drive : x ≠ .foot) (l : Leg) (j : SlotJudgement) (bs : List Byte) (d : Device) :
    d.slotOutcome l x j bs = (d.crcCounted j).handOn l x j bs := if_neg drive

/-- After the hand-on a slot's outcome only watches the supply. -/
theorem slotOutcome_watched (l : Leg) (x : Slot) (j : SlotJudgement) (bs : List Byte) (d : Device) :
    Watched ((d.crcCounted j).handOn l x j bs) (d.slotOutcome l x j bs) := by
  unfold slotOutcome
  split
  · exact transactionEnded_watched l _
  · exact .refl _

theorem crcCounted_frame (j : SlotJudgement) (d : Device) : d.crcCounted j = { d with eeu := (d.crcCounted j).eeu } := by
  unfold crcCounted
  split <;> rfl

theorem slotOutcome_frame (l : Leg) (x : Slot) (j : SlotJudgement) (bs : List Byte) (d : Device) :
    (d.slotOutcome l x j bs).tbs = d.tbs ∧ (d.slotOutcome l x j bs).bal = d.bal
    ∧ (d.slotOutcome l x j bs).upp = d.upp := by
  obtain ⟨tbs, bal, upp, -⟩ := handOn_frame l x j bs (d.crcCounted j)
  obtain ⟨tbs', bal', -, -, -, upp', -⟩ := transactionEnded_frame l ((d.crcCounted j).handOn l x j bs)
  have frame := d.crcCounted_frame j
  have tbs := tbs.trans ((congrArg Device.tbs frame).trans rfl)
  have bal := bal.trans ((congrArg Device.bal frame).trans rfl)
  have upp := upp.trans ((congrArg Device.upp frame).trans rfl)
  unfold slotOutcome
  split
  · exact ⟨tbs'.trans tbs, bal'.trans bal, upp'.trans upp⟩
  · exact ⟨tbs, bal, upp⟩

/-- A slot without a good reply is a miss of its node, whether or not its CRC has been counted (R127, R135). -/
theorem slotOutcome_missedBy {j : SlotJudgement} (bad : ∀ noisy, j ≠ .good noisy) (l : Leg) (x : Slot) (bs : List Byte)
    (d : Device) : d.missedBy (d.slotOutcome l x j bs) ⟨l, x⟩ := by
  have missed := (d.crcCounted j).missedOutcome_missedBy ⟨l, x⟩
  rw [← handOn_of_missed bad l x bs] at missed
  have seen := missedBy_of_watched missed (slotOutcome_watched l x j bs d)
  unfold crcCounted at seen
  split at seen
  · exact missedBy_of_raise (by decide) seen
  · exact seen

theorem slotOutcome_lcc_of_missed {j : SlotJudgement} (bad : ∀ noisy, j ≠ .good noisy) (l : Leg) (x : Slot)
    (bs : List Byte) (d : Device) : (d.slotOutcome l x j bs).lcc = d.lcc := by
  have missed := (missedOutcome_frame ⟨l, x⟩ (d.crcCounted j)).2.2.1.trans
    ((congrArg Device.lcc (d.crcCounted_frame j)).trans rfl)
  rw [(slotOutcome_watched l x j bs d).lcc, handOn_of_missed bad]
  exact missed

/-! ## The fields of the link at the end of its slot -/

/-- The state a link enters from a slot: the next slot, or what its waiting command makes of it (R126, R129). -/
theorem closedLink_state (settings : LinkConfig) (x : Slot) (carried : Carried) (k : LinkController) :
    (closedLink settings x carried k).state = (match x with
      | .ha => .slot .hf
      | .hf => .slot .kn
      | .kn => .slot .foot
      | .foot => if k.waiting = none then .idle else .lowBreak) := by
  cases x with
  | ha | hf | kn => rfl
  | foot => cases waiting : k.waiting <;> simp [closedLink, nextSlot, lineFreed, begun, waiting]

theorem lineFreed_counts (settings : LinkConfig) (k : LinkController) :
    (lineFreed settings k).missTotals = k.missTotals ∧ (lineFreed settings k).noise = k.noise
    ∧ (lineFreed settings k).buffer = k.buffer := by
  unfold lineFreed
  split
  · exact ⟨rfl, rfl, rfl⟩
  · exact ⟨rfl, rfl, rfl⟩

theorem closedLink_counts (settings : LinkConfig) (x : Slot) (carried : Carried) (k : LinkController) :
    (closedLink settings x carried k).missTotals = k.missTotals
    ∧ (closedLink settings x carried k).noise = k.noise ∧ (closedLink settings x carried k).buffer = [] := by
  cases x with
  | foot => exact lineFreed_counts settings _
  | ha | hf | kn => exact ⟨rfl, rfl, rfl⟩

theorem closedLink_next {x : Slot} (drive : x ≠ .foot) (settings : LinkConfig) (carried : Carried) (k : LinkController) :
    (closedLink settings x carried k).answered = k.answered ∧ (closedLink settings x carried k).early = carried.early
    ∧ (closedLink settings x carried k).tail = carried.tail := by
  cases x with
  | foot => exact absurd rfl drive
  | ha | hf | kn => exact ⟨rfl, rfl, rfl⟩

theorem answeredLink_frame (x : Slot) (j : SlotJudgement) (k : LinkController) :
    answeredLink x j k = { k with answered := (answeredLink x j k).answered } := by
  cases j <;> cases x <;> rfl

theorem answeredLink_of_missed {j : SlotJudgement} (bad : ∀ noisy, j ≠ .good noisy) (x : Slot) (k : LinkController) :
    answeredLink x j k = k := by
  cases j with
  | good noisy => exact absurd rfl (bad noisy)
  | noReply | short | framing | crcFailed | wrongNode => cases x <;> rfl

theorem countedLink_of_missed {j : SlotJudgement} (bad : ∀ noisy, j ≠ .good noisy) (x : Slot) (k : LinkController) :
    countedLink x j k = { k with missTotals := k.missTotals.modify x saturate } := by
  cases j with
  | good noisy => exact absurd rfl (bad noisy)
  | noReply | short | framing | crcFailed | wrongNode => rfl

theorem countedLink_frame (x : Slot) (j : SlotJudgement) (k : LinkController) : countedLink x j k =
    { k with missTotals := (countedLink x j k).missTotals, noise := (countedLink x j k).noise } := by
  cases j <;> rfl

theorem slotLink_state (settings : LinkConfig) (x : Slot) (j : SlotJudgement) (cs : List RxChar) (carried : Carried)
    (k : LinkController) : (slotLink settings x j cs carried k).state = (match x with
      | .ha => .slot .hf
      | .hf => .slot .kn
      | .kn => .slot .foot
      | .foot => if k.waiting = none then .idle else .lowBreak) := by
  unfold slotLink
  rw [closedLink_state, answeredLink_frame, countedLink_frame]

theorem slotLink_buffer (settings : LinkConfig) (x : Slot) (j : SlotJudgement) (cs : List RxChar) (carried : Carried)
    (k : LinkController) : (slotLink settings x j cs carried k).buffer = [] := (closedLink_counts _ _ _ _).2.2

theorem slotLink_next {x : Slot} (drive : x ≠ .foot) (settings : LinkConfig) (j : SlotJudgement) (cs : List RxChar)
    (carried : Carried) (k : LinkController) :
    (slotLink settings x j cs carried k).answered = (answeredLink x j k).answered
    ∧ (slotLink settings x j cs carried k).early = carried.early
    ∧ (slotLink settings x j cs carried k).tail = carried.tail := by
  obtain ⟨answered, early, tail⟩ := closedLink_next drive settings carried
    (answeredLink x j (countedLink x j { k with buffer := cs }))
  refine ⟨answered.trans ?_, early, tail⟩
  cases j <;> cases x <;> rfl

theorem slotLink_counts (settings : LinkConfig) (x : Slot) (j : SlotJudgement) (cs : List RxChar) (carried : Carried)
    (k : LinkController) : (slotLink settings x j cs carried k).missTotals = (countedLink x j k).missTotals
    ∧ (slotLink settings x j cs carried k).noise = (countedLink x j k).noise := by
  obtain ⟨totals, noise, -⟩ := closedLink_counts settings x carried
    (answeredLink x j (countedLink x j { k with buffer := cs }))
  have answered := answeredLink_frame x j (countedLink x j { k with buffer := cs })
  refine ⟨totals.trans ((congrArg LinkController.missTotals answered).trans ?_),
    noise.trans ((congrArg LinkController.noise answered).trans ?_)⟩
  · cases j <;> rfl
  · cases j <;> rfl

theorem slotLink_counts_of_missed {j : SlotJudgement} (bad : ∀ noisy, j ≠ .good noisy) (settings : LinkConfig) (x : Slot)
    (cs : List RxChar) (carried : Carried) (k : LinkController) : (slotLink settings x j cs carried k).missTotals
        = k.missTotals.set x (min (k.missTotals.get x + 1) 255)
    ∧ (slotLink settings x j cs carried k).noise = k.noise := by
  obtain ⟨totals, noise⟩ := slotLink_counts settings x j cs carried k
  rw [countedLink_of_missed bad] at totals noise
  exact ⟨totals, noise⟩

end Device

/-- The event that ends a slot, when its characters are those it stands for. -/
theorem State.slotEnds_of {s : State} {l : Leg} {x : Slot} {heard : List Bool} {cs : List RxChar}
    {fits : Nat → Slot → Bool} (running : s.dev.running = true) (opened : (s.dev.link l).state = .slot x)
    (brought : slotChars (s.dev.link l) x heard = some cs) (fit : fits cs.length x = true) : s.slotEnds l heard fits
      = .next (s.withDev (s.dev.endSlot l x cs (carriedOver (s.dev.link l) x heard))) := by
  have slot : (s.dev.link l).state.openSlot = some x := by rw [opened]; rfl
  unfold State.slotEnds State.whenRunning
  rw [slot]
  dsimp only
  rw [if_pos running, brought]
  exact if_pos fit

/-- The device after the end of a slot, and the parts of it that no slot writes. -/
theorem Device.endSlot_ends (l : Leg) (x : Slot) (cs : List RxChar) (carried : Carried) (d : Device) :
    (∀ m, m ≠ l → (d.endSlot l x cs carried).link m = d.link m) ∧ (d.endSlot l x cs carried).link l
      = slotLink d.tbs.linkConfig x (judgeSlot (d.link l).settings ⟨l, x⟩ cs) cs carried (d.link l) := by
  rw [Device.endSlot_eq]
  exact ⟨fun m other => PerLeg.get_set_ne _ _ other, PerLeg.get_set_self _ _ _⟩

/-- Settles O45: the end of a slot is one equation, its judgement no good reply; what the receiver has of a line is
computed from its hunt. -/
theorem emptyAndShortSlotsAreMisses : Obligations.EmptyAndShortSlotsAreMisses := by
  refine ⟨fun s l x heard cs i running opened brought event => ?_, fun k x tail early => ?_⟩
  · intro n h
    have missing : cs = [] ∨ cs ≠ [] ∧ cs.length < expectedChars x := by
      rw [expectedChars_eq]
      exact event.imp And.right And.right
    have ran : exec i s = .next (s.withDev (s.dev.endSlot l x cs (carriedOver (s.dev.link l) x heard))) := by
      rcases event with ⟨rfl, rfl⟩ | ⟨rfl, some, short⟩
      · show s.slotEnds l heard (fun n _ => n = 0) = _
        exact State.slotEnds_of running opened brought rfl
      · rw [← expectedChars_eq] at short
        show s.slotEnds l heard (fun n x => 1 ≤ n && n < expectedChars x) = _
        refine State.slotEnds_of running opened brought ?_
        simpa [Nat.one_le_iff_ne_zero] using And.intro some short
    obtain ⟨bad, sound⟩ := judgeSlot_of_missing (settings := (s.dev.link l).settings) (n := ⟨l, x⟩) missing
    obtain ⟨links, link⟩ := s.dev.endSlot_ends l x cs (carriedOver (s.dev.link l) x heard)
    have whole := s.dev.endSlot_eq l x cs (carriedOver (s.dev.link l) x heard)
    obtain ⟨j, judged⟩ : ∃ j, j = judgeSlot (s.dev.link l).settings ⟨l, x⟩ cs := ⟨_, rfl⟩
    rw [← judged] at bad sound link whole
    have outcome : (s.dev.crcCounted j).handOn l x j (valuesOf cs) = h := by
      rw [Device.handOn_of_missed bad]
      exact congrArg (Device.missedOutcome n) (if_neg sound)
    obtain ⟨totals, noise⟩ := Device.slotLink_counts_of_missed bad s.dev.tbs.linkConfig x cs
      (carriedOver (s.dev.link l) x heard) (s.dev.link l)
    obtain ⟨tbs, bal, upp⟩ := s.dev.slotOutcome_frame l x j (valuesOf cs)
    have chars : (slotReception (s.dev.link l) x heard).chars.length ≠ expectedChars x := by
      rw [slotChars_eq_some brought]
      rcases missing with rfl | ⟨-, short⟩
      · cases x <;> decide
      · exact short.ne
    have lcc := Device.slotOutcome_lcc_of_missed bad l x (valuesOf cs) s.dev
    have missed := Device.slotOutcome_missedBy bad l x (valuesOf cs) s.dev
    refine ⟨_, ran, fun drive => ?_, fun foot => ?_, ?_, ?_, ?_, ?_, fun drive => ?_, ?_, ?_, links, ?_, ?_, ?_⟩
    · show s.dev.endSlot l x cs _ = _
      rw [whole, Device.slotOutcome_drive drive, outcome]
      rfl
    · show s.dev.endSlot l x cs _ = _
      subst foot
      rw [whole, Device.slotOutcome_foot, outcome]
      rfl
    · exact (congrArg LinkController.missTotals link).trans totals
    · exact (congrArg LinkController.noise link).trans noise
    · exact (congrArg LinkController.buffer link).trans (Device.slotLink_buffer _ _ _ _ _ _)
    · exact (congrArg LinkController.state link).trans (Device.slotLink_state _ _ _ _ _ _)
    · obtain ⟨answered, early, carried⟩ := Device.slotLink_next drive s.dev.tbs.linkConfig j cs
        (carriedOver (s.dev.link l) x heard) (s.dev.link l)
      rw [Device.answeredLink_of_missed bad] at answered
      exact ⟨(congrArg LinkController.answered link).trans answered, (congrArg LinkController.early link).trans early,
        (congrArg LinkController.tail link).trans (carried.trans (carriedOver_tail_of_short chars))⟩
    · exact (congrArg Device.lcc whole).trans lcc
    · show s.dev.missedBy (s.dev.endSlot l x cs _) n
      rw [whole]
      exact Device.missedBy_withLinks _ missed
    · exact (congrArg Device.tbs whole).trans tbs
    · exact (congrArg Device.bal whole).trans bal
    · exact (congrArg Device.upp whole).trans upp
  · intro window
    refine ⟨slotChars_quiet tail early, fun j straddles within => ?_, fun bs w some short => ?_⟩
    · refine ⟨slotChars_glitch tail early straddles within, ?_⟩
      rw [slotReception_glitch tail early straddles within]
      show window - j + 8 - (window + 1) = _
      omega
    · rw [← expectedChars_eq] at short
      exact ⟨slotChars_short tail early some short, slotChars_late tail early some⟩

end Sys2Proof.Machine
end

section
/-!
PROOFS. The good replies at the supervisor (O46 and the first parts of O47): the node record, the voltage report, the
reactions, and the reported position.
-/

namespace Sys2Proof.Machine

namespace Device

/-! ## The record of a node after a good reply (R135, R136, R139) -/

/-- A node record as a good reply with these faults leaves it. -/
def goodRecord (faults : FaultSet) (r : NodeRecord) : NodeRecord :=
  { r with live := true, misses := 0, reported := faults, latched := r.latched.union faults }

theorem modNode_modNode (n : Node) (f g : NodeRecord → NodeRecord) (d : Device) :
    (d.modNode n f).modNode n g = d.modNode n fun r => g (f r) := by
  rcases n with ⟨l, x⟩
  cases l <;> cases x <;> rfl

theorem takeFaults_goodOutcome (n : Node) (faults : FaultSet) (d : Device) :
    (d.goodOutcome n).takeFaults n faults = d.modNode n (goodRecord faults) :=
  modNode_modNode n _ _ d

/-! ## A good reply of a drive (R136, R137, R142) -/

/-- The device once a drive's good reply has been noted, before it is reacted to. -/
def driveNoted (j : Joint) (reply : DriveReply) (d : Device) : Device :=
  (d.modNode ⟨j.leg, j.ix.slot⟩ (goodRecord reply.faults)).modVoltage j fun _ => { volts := reply.volts, age := 0 }

theorem superviseDrive_eq (j : Joint) (reply : DriveReply) (d : Device) : d.superviseDrive j reply =
    ((d.driveNoted j reply).reactToDrive ⟨j.leg, j.ix.slot⟩
      (d.newlyLatched ⟨j.leg, j.ix.slot⟩ reply.faults)).formEstimate := by
  unfold superviseDrive driveNoted
  dsimp only
  rw [takeFaults_goodOutcome]

theorem driveNoted_voltage (j : Joint) (reply : DriveReply) (d : Device) :
    ((d.driveNoted j reply).nsv.voltages.get j.leg).get j.ix = { volts := reply.volts, age := 0 } := by
  show (((d.modNode _ _).nsv.voltages.modify j.leg fun s => s.modify j.ix fun _ => _).get j.leg).get j.ix = _
  rw [PerLeg.get_modify_self, PerJoint.get_modify_self]

/-- The newly latched categories of a drive that are reacted to, OVERTEMP apart (R137, R141). -/
def reacting (d : Device) (n : Node) (newly : FaultSet) : Bool :=
  { newly.diff (d.maskOf n) with overtemp := false }.any

theorem reactToDrive_eq (n : Node) (newly : FaultSet) (d : Device) : d.reactToDrive n newly =
    if d.reacting n newly then (d.raiseIf newly.overtemp .overtemp).driveReaction n .fault
    else d.raiseIf newly.overtemp .overtemp := rfl

theorem raiseIf_mhu (b : Bool) (f : Factor) (d : Device) : (d.raiseIf b f).mhu = d.mhu := by simp

theorem raiseIf_gpe (b : Bool) (f : Factor) (d : Device) : (d.raiseIf b f).gpe = d.gpe := by simp

theorem raiseIf_cfl (b : Bool) (f : Factor) (d : Device) : (d.raiseIf b f).cfl = d.cfl := by simp

theorem raiseIf_nsv (b : Bool) (f : Factor) (d : Device) : (d.raiseIf b f).nsv = d.nsv := by simp

theorem raiseIf_legState (b : Bool) (f : Factor) (d : Device) (l : Leg) :
    (d.raiseIf b f).legState l = d.legState l := by
  unfold legState leg
  rw [raiseIf_gpe]

theorem raiseIf_supporting (b : Bool) (f : Factor) (d : Device) (l : Leg) :
    (d.raiseIf b f).supporting l = d.supporting l := by
  unfold supporting contact
  rw [raiseIf_legState, raiseIf_cfl]

theorem raiseIf_factor_ne {f g : Factor} (other : g ≠ f) (b : Bool) (d : Device) :
    (d.raiseIf b f).factor g = d.factor g :=
  (raiseIf_raises b f d).factor_eq (by simpa using other)

/-- What the reaction to a drive's reply does: OVERTEMP by itself, the unmasked others as one fault. -/
theorem reactToDrive_overtemp (n : Node) (newly : FaultSet) (d : Device) : (d.reactToDrive n newly).factor .overtemp
    = if newly.overtemp then d.raisedOnce .overtemp else d.factor .overtemp := by
  have raised : (d.raiseIf newly.overtemp .overtemp).factor .overtemp
      = if newly.overtemp then d.raisedOnce .overtemp else d.factor .overtemp := by
    cases newly.overtemp with
    | true => exact raise_factor_self .overtemp d
    | false => rfl
  rw [reactToDrive_eq]
  split
  · exact ((driveReaction_raises n .fault _).factor_eq (by decide)).trans raised
  · exact raised

theorem reactToDrive_driveFault (n : Node) (newly : FaultSet) (d : Device) :
    (d.reactToDrive n newly).factor .driveFault
      = if d.reacting n newly then d.raisedOnce .driveFault else d.factor .driveFault := by
  have before : (d.raiseIf newly.overtemp .overtemp).factor .driveFault = d.factor .driveFault :=
    raiseIf_factor_ne (by decide) _ d
  rw [reactToDrive_eq]
  split
  · refine ((d.raiseIf newly.overtemp .overtemp).driveReaction_reacted n .fault).self.trans ?_
    unfold raisedOnce
    rw [show NodeReason.fault.factor = Factor.driveFault from rfl, before]
  · exact before

/-- A leg whose drive's fault calls for a hold (R137). -/
def driveHolds (d : Device) (l : Leg) : Prop :=
  d.supporting l = true ∨ d.legState l = .swing ∨ d.legState l = .landing

theorem reactToDrive_heldFor {n : Node} {newly : FaultSet} {d : Device} (reacts : d.reacting n newly = true)
    (holds : d.driveHolds n.leg) : d.heldFor (d.reactToDrive n newly) (.node n) := by
  rw [reactToDrive_eq, if_pos reacts]
  refine heldFor_of_mhu (raiseIf_mhu _ _ d) (((d.raiseIf newly.overtemp .overtemp).driveReaction_reacted n .fault).held ?_)
  rw [raiseIf_supporting, raiseIf_legState]
  exact holds

theorem reactToDrive_noneHeld {n : Node} {newly : FaultSet} {d : Device}
    (stands : ¬ (d.reacting n newly = true ∧ d.driveHolds n.leg)) : d.noneHeld (d.reactToDrive n newly) := by
  rw [reactToDrive_eq]
  split
  next reacts =>
    refine noneHeld_of_mhu_left (raiseIf_mhu _ _ d)
      (((d.raiseIf newly.overtemp .overtemp).driveReaction_reacted n .fault).none fun holds => stands ⟨reacts, ?_⟩)
    rwa [raiseIf_supporting, raiseIf_legState] at holds
  next => exact .inl (raiseIf_mhu _ _ d)

theorem formEstimate_nodes (d : Device) : d.formEstimate.nsv.nodes = d.nsv.nodes := by
  rw [formEstimate_nsv]
  rfl

theorem formEstimate_voltages (d : Device) : d.formEstimate.nsv.voltages = d.nsv.voltages := by
  rw [formEstimate_nsv]
  rfl

section
variable (j : Joint) (reply : DriveReply) (d : Device)

/-- The supervisor once a drive's good reply has been taken, but for the estimate and the levels. -/
theorem superviseDrive_watched : Watched ((d.driveNoted j reply).reactToDrive ⟨j.leg, j.ix.slot⟩
    (d.newlyLatched ⟨j.leg, j.ix.slot⟩ reply.faults)) (d.superviseDrive j reply) := by
  rw [superviseDrive_eq]
  exact formEstimate_watched _

theorem superviseDrive_nodes : (d.superviseDrive j reply).nsv.nodes = (d.driveNoted j reply).nsv.nodes := by
  rw [superviseDrive_eq, formEstimate_nodes]
  simp

theorem superviseDrive_voltages : (d.superviseDrive j reply).nsv.voltages = (d.driveNoted j reply).nsv.voltages := by
  rw [superviseDrive_eq, formEstimate_voltages]
  simp

theorem superviseDrive_node_self : (d.superviseDrive j reply).node ⟨j.leg, j.ix.slot⟩
    = goodRecord reply.faults (d.node ⟨j.leg, j.ix.slot⟩) := by
  unfold node
  rw [superviseDrive_nodes]
  exact modNode_node_self ⟨j.leg, j.ix.slot⟩ _ d

theorem superviseDrive_node_ne {m : Node} (other : m ≠ ⟨j.leg, j.ix.slot⟩) :
    (d.superviseDrive j reply).node m = d.node m := by
  unfold node
  rw [superviseDrive_nodes]
  exact modNode_node_ne _ d other

theorem superviseDrive_voltage : ((d.superviseDrive j reply).nsv.voltages.get j.leg).get j.ix
    = { volts := reply.volts, age := 0 } := by
  rw [superviseDrive_voltages]
  exact d.driveNoted_voltage j reply

/-- The newly latched categories of the joint's drive that its reply is reacted to for. -/
def driveReacts (j : Joint) (reply : DriveReply) (d : Device) : Bool :=
  d.reacting ⟨j.leg, j.ix.slot⟩ (d.newlyLatched ⟨j.leg, j.ix.slot⟩ reply.faults)

theorem superviseDrive_overtemp : (d.superviseDrive j reply).factor .overtemp
    = if (d.newlyLatched ⟨j.leg, j.ix.slot⟩ reply.faults).overtemp then d.raisedOnce .overtemp
      else d.factor .overtemp :=
  ((d.superviseDrive_watched j reply).factor (by decide)).trans (reactToDrive_overtemp _ _ (d.driveNoted j reply))

theorem superviseDrive_driveFault : (d.superviseDrive j reply).factor .driveFault
    = if d.driveReacts j reply then d.raisedOnce .driveFault else d.factor .driveFault :=
  ((d.superviseDrive_watched j reply).factor (by decide)).trans (reactToDrive_driveFault _ _ (d.driveNoted j reply))

variable {j reply d}

theorem superviseDrive_heldFor (reacts : d.driveReacts j reply = true) (holds : d.driveHolds j.leg) :
    d.heldFor (d.superviseDrive j reply) (.node ⟨j.leg, j.ix.slot⟩) :=
  heldFor_trans (reactToDrive_heldFor (d := d.driveNoted j reply) reacts holds) (d.superviseDrive_watched j reply).none
    (d.superviseDrive_watched j reply).sat

theorem superviseDrive_noneHeld (stands : ¬ (d.driveReacts j reply = true ∧ d.driveHolds j.leg)) :
    d.noneHeld (d.superviseDrive j reply) :=
  noneHeld_trans (reactToDrive_noneHeld (d := d.driveNoted j reply) stands) (d.superviseDrive_watched j reply).none
    (d.superviseDrive_watched j reply).sat

end

/-- The categories that are reacted to, one by one (R137, R141). -/
theorem driveReacts_eq (j : Joint) (reply : DriveReply) (d : Device) (lost : reply.faults.nodeLost = false)
    (sensor : reply.faults.sensorFault = false) :
    d.driveReacts j reply =
      let old := (d.node ⟨j.leg, j.ix.slot⟩).latched
      let mask := (d.tbs.jointAt j).faultMask
      ((reply.faults.overcurrent && !old.overcurrent && !mask.overcurrent)
        || (reply.faults.openPhase && !old.openPhase && !mask.openPhase)
        || (reply.faults.encoder && !old.encoder && !mask.encoder)
        || (reply.faults.undervolt && !old.undervolt && !mask.undervolt)) := by
  unfold driveReacts reacting newlyLatched
  rw [d.maskOf_drive (n := ⟨j.leg, j.ix.slot⟩) (i := j.ix) rfl]
  simp [FaultSet.any, FaultSet.diff, FaultSet.zip, lost, sensor]

/-! ## A good reply of a drive, handed on (R88, R128) -/

theorem handOn_drive (j : Joint) (noisy : Bool) (bs : List Byte) (d : Device) :
    d.handOn j.leg j.ix.slot (.good noisy) bs = (((d.modLink j.leg fun k => { k with answered := k.answered.set j.ix true })
      ).superviseDrive j (driveReply bs)).takePosition j (driveReply bs).position := by
  rcases j with ⟨l, i⟩
  cases i <;> rfl

theorem handOn_drive_noLinks (j : Joint) (noisy : Bool) (bs : List Byte) (d : Device) :
    ∃ links, d.handOn j.leg j.ix.slot (.good noisy) bs
      = ((d.superviseDrive j (driveReply bs)).takePosition j (driveReply bs).position).withLinks links := by
  rw [handOn_drive]
  exact ⟨_, (congrArg (takePosition j _) (withLinks_superviseDrive _ d j (driveReply bs))).trans rfl⟩

theorem takePosition_jointState_self (j : Joint) (x : Int) (d : Device) :
    (d.takePosition j x).jointState j = reportedJoint x (d.jointState j) := by
  unfold takePosition jointState
  rw [modLane_lane_self]
  exact PerJoint.get_modify_self _ _ _

theorem takePosition_jointState_ne {j k : Joint} (other : k ≠ j) (x : Int) (d : Device) :
    (d.takePosition j x).jointState k = d.jointState k := by
  rcases j with ⟨l, i⟩
  rcases k with ⟨m, n⟩
  unfold takePosition jointState
  by_cases leg : m = l
  · subst leg
    rw [modLane_lane_self]
    exact PerJoint.get_modify_ne _ _ fun same => other (congrArg (Joint.mk m) same)
  · rw [modLane_lane_ne _ _ leg]

/-! ## A good reply of a foot node (R139) -/

/-- The newly latched fault of a foot node's reply. -/
def footNewly (l : Leg) (reply : FootReply) (d : Device) : Bool :=
  reply.sensorFault && !(d.node ⟨l, .foot⟩).latched.sensorFault

/-- The device once a foot node's good reply has been noted and reacted to. -/
def footReacted (l : Leg) (reply : FootReply) (d : Device) : Device :=
  if d.footNewly l reply then (d.modNode ⟨l, .foot⟩ (goodRecord (footFaults reply))).footReaction l .fault
  else d.modNode ⟨l, .foot⟩ (goodRecord (footFaults reply))

theorem superviseFoot_eq (l : Leg) (reply : FootReply) (d : Device) : d.superviseFoot l reply =
    if (d.node ⟨l, .foot⟩).live then d.footReacted l reply else (d.footReacted l reply).formEstimate := by
  unfold superviseFoot
  dsimp only
  rw [takeFaults_goodOutcome]
  rfl

theorem superviseFoot_watched (l : Leg) (reply : FootReply) (d : Device) :
    Watched (d.footReacted l reply) (d.superviseFoot l reply) := by
  rw [superviseFoot_eq]
  split
  · exact .refl _
  · exact formEstimate_watched _

theorem footReacted_node (l : Leg) (reply : FootReply) (d : Device) (m : Node) : (d.footReacted l reply).node m
    = (d.modNode ⟨l, .foot⟩ (goodRecord (footFaults reply))).node m := by
  unfold footReacted
  split
  · exact (footReaction_reacted l .fault _).node m
  · rfl

theorem superviseFoot_node_self (l : Leg) (reply : FootReply) (d : Device) :
    (d.superviseFoot l reply).node ⟨l, .foot⟩ = goodRecord (footFaults reply) (d.node ⟨l, .foot⟩) := by
  rw [(d.superviseFoot_watched l reply).node, footReacted_node, modNode_node_self]

theorem superviseFoot_node_ne {l : Leg} {m : Node} (other : m ≠ ⟨l, .foot⟩) (reply : FootReply) (d : Device) :
    (d.superviseFoot l reply).node m = d.node m := by
  rw [(d.superviseFoot_watched l reply).node, footReacted_node, modNode_node_ne _ d other]

theorem superviseFoot_voltages (l : Leg) (reply : FootReply) (d : Device) :
    (d.superviseFoot l reply).nsv.voltages = d.nsv.voltages := by
  have reacted : (d.footReacted l reply).nsv.voltages = d.nsv.voltages := by
    unfold footReacted
    split
    · rw [(footReaction_reacted l .fault _).nsv]
      rfl
    · rfl
  rw [superviseFoot_eq]
  split
  · exact reacted
  · rw [formEstimate_voltages, reacted]

theorem superviseFoot_driveFault (l : Leg) (reply : FootReply) (d : Device) : (d.superviseFoot l reply).factor .driveFault
    = if d.footNewly l reply then d.raisedOnce .driveFault else d.factor .driveFault := by
  rw [(d.superviseFoot_watched l reply).factor (by decide)]
  unfold footReacted
  split
  · exact (footReaction_reacted l .fault _).self
  · rfl

theorem superviseFoot_heldFor {l : Leg} {reply : FootReply} {d : Device} (newly : d.footNewly l reply = true)
    (away : d.legState l = .swing ∨ d.legState l = .landing) : d.heldFor (d.superviseFoot l reply) (.node ⟨l, .foot⟩) := by
  have watched := d.superviseFoot_watched l reply
  refine heldFor_trans (e := d.footReacted l reply) ?_ watched.none watched.sat
  unfold footReacted
  rw [if_pos newly]
  exact (footReaction_reacted l .fault (d.modNode ⟨l, .foot⟩ (goodRecord (footFaults reply)))).held away

theorem handOn_foot (l : Leg) (noisy : Bool) (bs : List Byte) (d : Device) :
    d.handOn l .foot (.good noisy) bs = (d.superviseFoot l (footReply bs)).filterReply l (footReply bs) := rfl

/-- A good reply leaves its node live and without misses (R135). -/
theorem handOn_good_node (l : Leg) (x : Slot) (noisy : Bool) (bs : List Byte) (d : Device) :
    ((d.handOn l x (.good noisy) bs).node ⟨l, x⟩).live = true ∧ ((d.handOn l x (.good noisy) bs).node ⟨l, x⟩).misses = 0 := by
  have drive (i : JointIx) : ((d.handOn l i.slot (.good noisy) bs).node ⟨l, i.slot⟩)
      = goodRecord (driveReply bs).faults (d.node ⟨l, i.slot⟩) := by
    obtain ⟨links, handed⟩ := d.handOn_drive_noLinks ⟨l, i⟩ noisy bs
    rw [show d.handOn l i.slot (.good noisy) bs = _ from handed]
    exact d.superviseDrive_node_self ⟨l, i⟩ (driveReply bs)
  have foot : ((d.handOn l .foot (.good noisy) bs).node ⟨l, .foot⟩)
      = goodRecord (footFaults (footReply bs)) (d.node ⟨l, .foot⟩) := by
    rw [handOn_foot]
    unfold node
    rw [(filterReply_frame l (footReply bs) _).2.2.2.2.1]
    exact d.superviseFoot_node_self l (footReply bs)
  cases x with
  | foot => rw [foot]; exact ⟨rfl, rfl⟩
  | ha => rw [show Slot.ha = JointIx.ha.slot from rfl, drive]; exact ⟨rfl, rfl⟩
  | hf => rw [show Slot.hf = JointIx.hf.slot from rfl, drive]; exact ⟨rfl, rfl⟩
  | kn => rw [show Slot.kn = JointIx.kn.slot from rfl, drive]; exact ⟨rfl, rfl⟩

end Device

theorem Device.crcCounted_replyCrc (j : SlotJudgement) (d : Device) : (d.crcCounted j).factor .replyCrc
    = if j = .crcFailed then d.raisedOnce .replyCrc else d.factor .replyCrc := by
  unfold Device.crcCounted
  split
  · exact Device.raise_factor_self .replyCrc d
  · rfl

/-- Only the failed CRC of its own reply is counted at REPLY_CRC (R127). -/
theorem Device.slotOutcome_replyCrc (l : Leg) (x : Slot) (j : SlotJudgement) (bs : List Byte) (d : Device) :
    (d.slotOutcome l x j bs).factor .replyCrc = if j = .crcFailed then d.raisedOnce .replyCrc else d.factor .replyCrc := by
  rw [(Device.slotOutcome_watched l x j bs d).factor (by decide), (Device.handOn_raises l x j bs _).factor_eq (by decide),
    Device.crcCounted_replyCrc]

theorem Device.slotOutcome_good_node (l : Leg) (x : Slot) (noisy : Bool) (bs : List Byte) (d : Device) :
    ((d.slotOutcome l x (.good noisy) bs).node ⟨l, x⟩).live = true
    ∧ ((d.slotOutcome l x (.good noisy) bs).node ⟨l, x⟩).misses = 0 := by
  rw [(Device.slotOutcome_watched l x _ bs d).node]
  exact Device.handOn_good_node l x noisy bs _

theorem Device.answeredLink_good (i : JointIx) (noisy : Bool) (k : LinkController) :
    (Device.answeredLink i.slot (.good noisy) k).answered = k.answered.set i true := by
  cases i <;> rfl

/-- Settles O46: the judgement follows its order, and the end of a full slot is the one equation of every slot. -/
theorem replySlotJudgedAndCounted : Obligations.ReplySlotJudgedAndCounted := by
  refine ⟨fun settings n cs => ?_, fun s l x heard cs running opened brought complete => ?_,
    fun k x bs w tail within full => ?_⟩
  · intro bs full
    have whole : full = expectedChars n.slot := (expectedChars_eq n.slot).symm
    refine ⟨fun empty => by rw [empty]; rfl, fun some short => judgeSlot_of_short some (whole ▸ short),
      fun length framing => ?_, fun length framing crc => ?_, fun length framing crc node => ?_,
      fun length framing crc node => ?_⟩
    all_goals rw [judgeSlot_of_full (length.trans whole)]
    · exact if_pos framing
    · rw [show anyFraming cs = false from framing, show crcHolds settings.polynomial settings.initial (valuesOf cs) = false
        from crc]
      rfl
    · rw [show anyFraming cs = false from framing, show crcHolds settings.polynomial settings.initial (valuesOf cs) = true
        from crc]
      exact if_pos node
    · rw [show anyFraming cs = false from framing, show crcHolds settings.polynomial settings.initial (valuesOf cs) = true
        from crc]
      exact if_neg (not_not_intro node)
  · intro j counted h
    have ran : exec (.replyComplete l heard) s
        = .next (s.withDev (s.dev.endSlot l x cs (carriedOver (s.dev.link l) x heard))) := by
      show s.slotEnds l heard (fun n x => n = expectedChars x) = _
      refine State.slotEnds_of running opened brought ?_
      rw [expectedChars_eq]
      exact decide_eq_true complete
    obtain ⟨links, link⟩ := s.dev.endSlot_ends l x cs (carriedOver (s.dev.link l) x heard)
    have whole := s.dev.endSlot_eq l x cs (carriedOver (s.dev.link l) x heard)
    have judged : judgeSlot (s.dev.link l).settings ⟨l, x⟩ cs = j := rfl
    rw [judged] at link whole
    have outcome : (s.dev.crcCounted j).handOn l x j (valuesOf cs) = h := rfl
    clear_value h j
    obtain ⟨tbs, bal, upp⟩ := s.dev.slotOutcome_frame l x j (valuesOf cs)
    have chars : (slotReception (s.dev.link l) x heard).chars.length = expectedChars x := by
      rw [slotChars_eq_some brought, complete, expectedChars_eq]
    have some : (slotReception (s.dev.link l) x heard).chars ≠ [] := by
      intro empty
      rw [empty] at chars
      cases x <;> cases chars
    have crc : (s.dev.endSlot l x cs (carriedOver (s.dev.link l) x heard)).factor .replyCrc
        = if j = .crcFailed then s.dev.raisedOnce .replyCrc else s.dev.factor .replyCrc := by
      rw [whole]
      exact s.dev.slotOutcome_replyCrc l x j (valuesOf cs)
    refine ⟨_, ran, fun drive => ?_, fun foot => ?_, fun bad => ⟨?_, ?_⟩, fun i drive => ⟨fun noisy good => ?_, fun bad => ?_⟩,
      fun noisy good => ⟨?_, ?_, ?_, ?_, ?_⟩, fun bad => ⟨?_, ?_, ?_, crc⟩, ?_, fun drive => ⟨?_, ?_⟩, ?_, links, ?_, ?_, ?_⟩
    · show s.dev.endSlot l x cs _ = _
      rw [whole, Device.slotOutcome_drive drive, outcome]
      rfl
    · show s.dev.endSlot l x cs _ = _
      subst foot
      rw [whole, Device.slotOutcome_foot, outcome]
      rfl
    · rw [← outcome, Device.handOn_of_missed bad]
      rfl
    · show s.dev.missedBy (s.dev.endSlot l x cs _) ⟨l, x⟩
      rw [whole]
      exact Device.missedBy_withLinks _ (Device.slotOutcome_missedBy bad l x (valuesOf cs) s.dev)
    · subst drive good
      obtain ⟨answered, -, -⟩ := Device.slotLink_next (x := i.slot) (by cases i <;> decide) s.dev.tbs.linkConfig
        (.good noisy) cs (carriedOver (s.dev.link l) i.slot heard) (s.dev.link l)
      exact (congrArg LinkController.answered link).trans (answered.trans (Device.answeredLink_good i noisy _))
    · subst drive
      obtain ⟨answered, -, -⟩ := Device.slotLink_next (x := i.slot) (by cases i <;> decide) s.dev.tbs.linkConfig
        j cs (carriedOver (s.dev.link l) i.slot heard) (s.dev.link l)
      rw [Device.answeredLink_of_missed bad] at answered
      exact (congrArg LinkController.answered link).trans answered
    · subst good
      exact (congrArg LinkController.missTotals link).trans (Device.slotLink_counts _ _ _ _ _ _).1
    · subst good
      exact (congrArg LinkController.noise link).trans (Device.slotLink_counts _ _ _ _ _ _).2
    · subst good
      show ((s.dev.endSlot l x cs _).node ⟨l, x⟩).live = true
      rw [whole]
      exact (s.dev.slotOutcome_good_node l x noisy (valuesOf cs)).1
    · subst good
      show ((s.dev.endSlot l x cs _).node ⟨l, x⟩).misses = 0
      rw [whole]
      exact (s.dev.slotOutcome_good_node l x noisy (valuesOf cs)).2
    · rw [good] at crc
      exact crc
    · exact (congrArg LinkController.missTotals link).trans (Device.slotLink_counts_of_missed bad _ _ _ _ _).1
    · exact (congrArg LinkController.noise link).trans (Device.slotLink_counts_of_missed bad _ _ _ _ _).2
    · exact (congrArg Device.lcc whole).trans (Device.slotOutcome_lcc_of_missed bad l x (valuesOf cs) s.dev)
    · exact (congrArg LinkController.state link).trans (Device.slotLink_state _ _ _ _ _ _)
    · obtain ⟨-, early, -⟩ := Device.slotLink_next drive s.dev.tbs.linkConfig j cs
        (carriedOver (s.dev.link l) x heard) (s.dev.link l)
      exact (congrArg LinkController.early link).trans (early.trans (carriedOver_early_of_chars some))
    · obtain ⟨-, -, tail⟩ := Device.slotLink_next drive s.dev.tbs.linkConfig j cs
        (carriedOver (s.dev.link l) x heard) (s.dev.link l)
      exact (congrArg LinkController.tail link).trans (tail.trans (carriedOver_tail_of_complete chars))
    · exact (congrArg LinkController.buffer link).trans (Device.slotLink_buffer _ _ _ _ _ _)
    · exact (congrArg Device.tbs whole).trans tbs
    · exact (congrArg Device.bal whole).trans bal
    · exact (congrArg Device.upp whole).trans upp
  · rw [← expectedChars_eq] at full
    exact slotChars_full tail (by omega) full within

end Sys2Proof.Machine
end

section
/-!
PROOFS. The Contact Filter's part of a good foot reply (O47): the filter record, the engine's answer to a change of
contact, and the slip judgement.
-/

namespace Sys2Proof.Machine

namespace Device

/-! ## The engine's answer to a change of contact (R32, R35, R37, R39, R40, R41) -/

theorem completeStop_of_away {d : Device} {l : Leg} (away : d.legState l ≠ .stance) : d.completeStop = d := by
  unfold completeStop
  rw [allInStance_eq_false away, Bool.and_false]
  rfl

theorem contactChange_of_standing {d : Device} {l : Leg} (stands : d.legState l = .stance ∨ d.legState l = .liftWait)
    (new : Contact) : d.contactChange l new = if new = .absent then d.raise .unload else d := by
  unfold contactChange
  rcases stands with state | state
  · rw [state]
  · rw [state]

theorem contactChange_of_swing {d : Device} {l : Leg} (swings : d.legState l = .swing) (new : Contact) :
    d.contactChange l new = (d.swingContact l new).completeStop := by
  unfold contactChange
  rw [swings]

theorem contactChange_of_landing {d : Device} {l : Leg} (lands : d.legState l = .landing) (new : Contact) :
    d.contactChange l new = if new = .present then (d.touchDown l).completeStop else d := by
  unfold contactChange
  rw [lands]

theorem contactChange_of_setDown {d : Device} {l : Leg} (down : d.legState l = .setDown) (new : Contact) :
    d.contactChange l new = if new = .present then d.touchDown l else d := by
  unfold contactChange
  rw [down]

theorem contactChange_of_held {d : Device} {l : Leg} (held : d.legState l = .hang ∨ d.legState l = .unset)
    (new : Contact) : d.contactChange l new = d := by
  unfold contactChange
  rcases held with state | state
  · rw [state]
  · rw [state]

/-- A swing loses the ground: it is cleared (R31). -/
theorem contactChange_swing_absent {d : Device} {l : Leg} (swings : d.legState l = .swing) :
    d.contactChange l .absent = d.modLeg l fun r => { r with cleared := true } := by
  rw [contactChange_of_swing swings]
  refine completeStop_of_away (l := l) ?_
  have state : (d.modLeg l fun r => { r with cleared := true }).legState l = d.legState l :=
    (congrArg LegRecord.state (modLeg_leg_self l (fun r => { r with cleared := true }) d)).trans rfl
  exact fun stance => by
    rw [show d.swingContact l .absent = d.modLeg l fun r => { r with cleared := true } from rfl, state, swings] at stance
    cases stance

/-- A swing that is not cleared passes over the ground. -/
theorem contactChange_swing_uncleared {d : Device} {l : Leg} (swings : d.legState l = .swing)
    (uncleared : (d.leg l).cleared = false) : d.contactChange l .present = d := by
  have same : d.swingContact l .present = d := by
    unfold swingContact
    rw [uncleared]
    rfl
  rw [contactChange_of_swing swings, same]
  exact completeStop_of_away (l := l) (by rw [swings]; decide)

/-- A cleared swing before its threshold scuffs (R32). -/
theorem contactChange_swing_scuffs {d : Device} {l : Leg} (swings : d.legState l = .swing)
    (cleared : (d.leg l).cleared = true) (early : (d.leg l).progress.getD 0 < d.earlyThreshold l) :
    d.contactChange l .present = d.raise .scuff := by
  have same : d.swingContact l .present = d.raise .scuff := by
    unfold swingContact
    rw [cleared]
    exact (if_pos rfl).trans (if_neg (not_le.mpr early))
  rw [contactChange_of_swing swings, same]
  exact completeStop_of_away (l := l) (by show d.legState l ≠ _; rw [swings]; decide)

/-- A cleared swing past its threshold touches down early (R32). -/
theorem contactChange_swing_lands {d : Device} {l : Leg} (swings : d.legState l = .swing)
    (cleared : (d.leg l).cleared = true) (past : d.earlyThreshold l ≤ (d.leg l).progress.getD 0) :
    d.contactChange l .present = ((d.touchDown l).raise .touchdownEarly).completeStop := by
  have same : d.swingContact l .present = (d.touchDown l).raise .touchdownEarly := by
    unfold swingContact
    rw [cleared]
    exact (if_pos rfl).trans (if_pos past)
  rw [contactChange_of_swing swings, same]

/-! ## A touchdown that may complete a stop (R41) -/

theorem completeStop_leg (d : Device) (l : Leg) : d.completeStop.legState l = d.legState l
    ∧ (d.completeStop.leg l).stanceBase = (d.leg l).stanceBase := by
  unfold completeStop
  split
  · exact d.enterStand_leg l
  · exact ⟨rfl, rfl⟩

theorem completeStop_mhu (d : Device) :
    d.completeStop.mhu = if d.stopPending && d.allInStance then { d.mhu with mode := .stand } else d.mhu := by
  unfold completeStop
  split
  · exact d.enterStand_mhu
  · rfl

/-- The device with a leg that has just touched down (R32, R35, R39). -/
structure Lands (d e : Device) (l : Leg) : Prop where
  state : e.legState l = .stance
  base : (e.leg l).stanceBase = d.lastPose l
  stack : e.mhu.stack = d.mhu.stack
  mode : e.mhu.mode = d.mhu.mode ∨ e.mhu.mode = .stand ∧ d.mhu.mode = .walk

theorem touchDown_lands (l : Leg) (d : Device) : Lands d (d.touchDown l) l :=
  ⟨by rw [touchDown_legState, if_pos rfl], by rw [touchDown_leg, if_pos rfl], rfl, .inl rfl⟩

theorem Lands.completeStop {d e : Device} {l : Leg} (h : Lands d e l) (mode : e.mhu.mode = d.mhu.mode) :
    Lands d e.completeStop l := by
  obtain ⟨state, base⟩ := e.completeStop_leg l
  refine ⟨state.trans h.state, base.trans h.base, ?_, ?_⟩
  · rw [completeStop_mhu]
    split <;> exact h.stack
  · rw [completeStop_mhu]
    split
    next done =>
      have walks : e.mhu.mode = .walk := by
        by_contra other
        have pending := (stopPending_eq_false_iff e).mpr (.inl other)
        rw [pending] at done
        cases done
      exact .inr ⟨rfl, mode.symm.trans walks⟩
    next => exact .inl mode

/-- A stop that is pending is complete once the last leg stands. -/
theorem completeStop_stands {d : Device} (walks : d.mhu.mode = .walk) (stops : d.mhu.walkFlag = false)
    (all : ∀ l, d.legState l = .stance) : d.completeStop.mhu.mode = .stand := by
  have pending : (d.stopPending && d.allInStance) = true := by
    unfold stopPending allInStance
    rw [walks, stops, (Leg.all_iff _).mpr fun l => decide_eq_true (all l)]
    rfl
  rw [completeStop_mhu, if_pos pending]

/-- The contact that makes a leg in the air touch down (R32, R35, R39). -/
def grounds (d : Device) (l : Leg) (new : Contact) : Prop :=
  new = .present ∧ (d.legState l = .swing →
    (d.leg l).cleared = true ∧ d.earlyThreshold l ≤ (d.leg l).progress.getD 0)

/-- The states in which a leg may touch down. -/
def airborne (d : Device) (l : Leg) : Prop :=
  d.legState l = .swing ∨ d.legState l = .landing ∨ d.legState l = .setDown

theorem contactChange_lands {d : Device} {l : Leg} {new : Contact} (away : d.airborne l) (grounds : d.grounds l new) :
    Lands d (d.contactChange l new) l := by
  obtain ⟨rfl, swinging⟩ := grounds
  rcases away with state | state | state
  · obtain ⟨cleared, past⟩ := swinging state
    rw [contactChange_swing_lands state cleared past]
    obtain ⟨standing, base, stack, mode⟩ := d.touchDown_lands l
    exact Lands.completeStop ⟨standing, base, stack, mode⟩ rfl
  · rw [contactChange_of_landing state, if_pos rfl]
    exact (d.touchDown_lands l).completeStop rfl
  · rw [contactChange_of_setDown state, if_pos rfl]
    exact d.touchDown_lands l

/-- A change that does not ground a leg leaves it in its state, and the modes. -/
theorem contactChange_stays {d : Device} {l : Leg} {new : Contact} (away : d.airborne l) (stays : ¬ d.grounds l new) :
    (d.contactChange l new).legState l = d.legState l ∧ (d.contactChange l new).mhu = d.mhu := by
  have ungrounded (other : d.legState l ≠ .swing) : new ≠ .present := fun present =>
    stays ⟨present, fun swings => absurd swings other⟩
  rcases away with state | state | state
  · cases new with
    | absent =>
      rw [contactChange_swing_absent state]
      exact ⟨(congrArg LegRecord.state (modLeg_leg_self l (fun r => { r with cleared := true }) d)).trans rfl, rfl⟩
    | unknown => rw [contactChange_unknown]; exact ⟨rfl, rfl⟩
    | present =>
      cases cleared : (d.leg l).cleared with
      | false => rw [contactChange_swing_uncleared state cleared]; exact ⟨rfl, rfl⟩
      | true =>
        have early : (d.leg l).progress.getD 0 < d.earlyThreshold l :=
          not_le.mp fun past => stays ⟨rfl, fun _ => ⟨cleared, past⟩⟩
        rw [contactChange_swing_scuffs state cleared early]
        exact ⟨rfl, rfl⟩
  · rw [contactChange_of_landing state, if_neg (ungrounded (by rw [state]; decide))]
    exact ⟨rfl, rfl⟩
  · rw [contactChange_of_setDown state, if_neg (ungrounded (by rw [state]; decide))]
    exact ⟨rfl, rfl⟩

/-! ## The filter record of a good foot reply (R47 to R51) -/

section
variable (l : Leg) (reply : FootReply) (d : Device)

/-- The samples of a filter once a reply's sample has joined them (R47). -/
def windowAfter : Window :=
  (d.cfl.get l).samples.push (sampleOf d.tbs.deviceConfig (d.cfl.get l).samples reply.load)

/-- The contact state that a reply forms (R48, R49). -/
def contactAfter : Contact := if reply.sensorFault then .unknown else (d.windowAfter l reply).majority

/-- The filter record as the reply's sample has been taken. -/
def sampledRecord : FilterRecord := { d.cfl.get l with
  faultSeen := false, lastLoad := reply.load, samples := d.windowAfter l reply
  majority := (d.windowAfter l reply).majority
  chatter := if (d.windowAfter l reply).unanimous then (d.cfl.get l).chatter else saturate (d.cfl.get l).chatter }

/-- The filter record as the reply's contact state has been formed. -/
def recordAfter : FilterRecord :=
  if reply.sensorFault then { d.cfl.get l with faultSeen := true, contact := .unknown }
  else { d.sampledRecord l reply with contact := (d.windowAfter l reply).majority }

/-- The device with the contact state of a reply formed, before the engine answers it. -/
def contactFormed : Device := { d with
  cfl := d.cfl.set l (d.recordAfter l reply)
  eeu := (d.raiseIf (!reply.sensorFault && !(d.windowAfter l reply).unanimous) .chatter).eeu }

/-- The device once the engine has answered the contact state. -/
def contactTaken : Device :=
  if d.contact l = d.contactAfter l reply then d.contactFormed l reply
  else (d.contactFormed l reply).contactChange l (d.contactAfter l reply)

/-- The device as a reply's shear flag has been entered (R51). -/
def shearEntered : Device :=
  (d.contactTaken l reply).modFilter l fun r => { r with shear := r.shear.push reply.shear }

theorem contactFormed_filter_self : (d.contactFormed l reply).cfl.get l = d.recordAfter l reply :=
  PerLeg.get_set_self _ _ _

theorem contactFormed_filter_ne {m : Leg} (other : m ≠ l) : (d.contactFormed l reply).cfl.get m = d.cfl.get m :=
  PerLeg.get_set_ne _ _ other

theorem contactFormed_factor (f : Factor) : (d.contactFormed l reply).factor f
    = (d.raiseIf (!reply.sensorFault && !(d.windowAfter l reply).unanimous) .chatter).factor f := rfl

theorem contactFormed_factor_ne {f : Factor} (other : f ≠ .chatter) :
    (d.contactFormed l reply).factor f = d.factor f := raiseIf_factor_ne other _ d

theorem recordAfter_contact : (d.recordAfter l reply).contact = d.contactAfter l reply := by
  unfold recordAfter contactAfter
  split <;> rfl

theorem contactTaken_raises : Raises contactFactors (d.contactFormed l reply) (d.contactTaken l reply) := by
  unfold contactTaken
  split
  · exact .refl _
  · exact contactChange_raises l _ _

theorem contactTaken_cfl : (d.contactTaken l reply).cfl = (d.contactFormed l reply).cfl := by
  unfold contactTaken
  split
  · rfl
  · exact (contactChange_frame l _ _).2.2.1

/-- The forming of a contact state, once the other entries of the record are in place. -/
theorem formContact_eq (new : Contact) (r : FilterRecord) (events : EventUnit) (contact : r.contact = d.contact l) :
    formContact l new { d with cfl := d.cfl.set l r, eeu := events }
      = if d.contact l = new then { d with cfl := d.cfl.set l { r with contact := new }, eeu := events }
        else contactChange l new { d with cfl := d.cfl.set l { r with contact := new }, eeu := events } := by
  have formed : modFilter l (fun r => { r with contact := new }) { d with cfl := d.cfl.set l r, eeu := events }
      = { d with cfl := d.cfl.set l { r with contact := new }, eeu := events } := by
    show ({ d with cfl := (d.cfl.set l r).set l { (d.cfl.set l r).get l with contact := new }, eeu := events } : Device) = _
    rw [PerLeg.set_set, PerLeg.get_set_self]
  have before : Device.contact { d with cfl := d.cfl.set l r, eeu := events } l = d.contact l :=
    (congrArg FilterRecord.contact (PerLeg.get_set_self d.cfl l r)).trans contact
  unfold formContact
  dsimp only
  rw [formed, before]

/-- A sample taken, as one record (R47, R50). -/
theorem takeSample_eq (load : Nat) (r : FilterRecord) (samples : r.samples = (d.cfl.get l).samples) :
    let w := (d.cfl.get l).samples.push (sampleOf d.tbs.deviceConfig (d.cfl.get l).samples load)
    takeSample l load { d with cfl := d.cfl.set l r } = { d with
      cfl := d.cfl.set l { r with
        samples := w, majority := w.majority, chatter := if w.unanimous then r.chatter else saturate r.chatter }
      eeu := (d.raiseIf (!w.unanimous) .chatter).eeu } := by
  intro w
  have window : ((d.cfl.set l r).get l).samples.push (sampleOf d.tbs.deviceConfig ((d.cfl.set l r).get l).samples load)
      = w := by rw [PerLeg.get_set_self, samples]
  unfold takeSample
  dsimp only
  rw [window]
  show raiseIf _ _ { d with cfl := (d.cfl.set l r).set l _ } = _
  rw [PerLeg.set_set, PerLeg.get_set_self]
  cases w.unanimous <;> rfl

variable {reply}

/-- What the filter of a foot reply does before its slip judgement. -/
theorem filterReply_of_fault (fault : reply.sensorFault = true) : d.filterReply l reply = d.contactTaken l reply := by
  have formed : d.contactFormed l reply
      = { d with cfl := d.cfl.set l { d.cfl.get l with faultSeen := true, contact := .unknown }, eeu := d.eeu } := by
    unfold contactFormed recordAfter
    rw [fault]
    rfl
  have unknown : d.contactAfter l reply = .unknown := by
    unfold contactAfter
    rw [fault]
    rfl
  unfold filterReply contactTaken
  rw [if_pos fault, formed, unknown]
  exact formContact_eq l d .unknown { d.cfl.get l with faultSeen := true } d.eeu rfl

/-- A reply without a fault first enters its load and its sample (R47, R50, R51). -/
theorem sampleTaken (sound : reply.sensorFault = false) :
    (d.modFilter l fun r => { r with faultSeen := false, lastLoad := reply.load }).takeSample l reply.load
      = { d with cfl := d.cfl.set l (d.sampledRecord l reply), eeu := (d.contactFormed l reply).eeu } := by
  refine (takeSample_eq l d reply.load { d.cfl.get l with faultSeen := false, lastLoad := reply.load } rfl).trans ?_
  unfold contactFormed
  rw [sound]
  rfl

theorem filterReply_of_sound (sound : reply.sensorFault = false) :
    d.filterReply l reply = (d.shearEntered l reply).judgeSlip l := by
  obtain ⟨e, taken⟩ : ∃ e : Device, e = (d.modFilter l fun r =>
      { r with faultSeen := false, lastLoad := reply.load }).takeSample l reply.load := ⟨_, rfl⟩
  have filtered : d.filterReply l reply = ((e.formContact l (e.cfl.get l).majority).modFilter l fun r =>
      { r with shear := r.shear.push reply.shear }).judgeSlip l := by
    rw [taken]
    unfold filterReply
    rw [sound]
    rfl
  rw [sampleTaken l d sound] at taken
  have major : (e.cfl.get l).majority = (d.windowAfter l reply).majority := by
    rw [taken]
    exact (congrArg FilterRecord.majority (PerLeg.get_set_self d.cfl l _)).trans rfl
  have contact : d.contactAfter l reply = (d.windowAfter l reply).majority := by
    unfold contactAfter
    rw [sound]
    rfl
  have formed : d.contactFormed l reply = { d with
      cfl := d.cfl.set l { d.sampledRecord l reply with contact := (d.windowAfter l reply).majority }
      eeu := (d.contactFormed l reply).eeu } := by
    unfold contactFormed recordAfter
    rw [sound]
    rfl
  rw [filtered, major, taken, formContact_eq l d _ (d.sampledRecord l reply) _ rfl, ← formed]
  unfold shearEntered contactTaken
  rw [contact]

end

/-! ## The slip judgement (R54) -/

theorem judgeSlip_of_calm {d : Device} {l : Leg} (calm : (d.cfl.get l).shear.count < 2) :
    d.judgeSlip l = d.modFilter l fun r => { r with slipReported := false } := if_pos calm

theorem judgeSlip_of_reported {d : Device} {l : Leg} (sheared : ¬ (d.cfl.get l).shear.count < 2)
    (reported : (d.cfl.get l).slipReported = true) : d.judgeSlip l = d :=
  (if_neg sheared).trans (if_pos reported)

theorem judgeSlip_of_supporting {d : Device} {l : Leg} (sheared : ¬ (d.cfl.get l).shear.count < 2)
    (fresh : (d.cfl.get l).slipReported = false) (supports : d.supporting l = true) :
    d.judgeSlip l = (d.modFilter l fun r => { r with slipReported := true }).request (.slip l) :=
  (if_neg sheared).trans ((if_neg (by rw [fresh]; decide)).trans (if_pos supports))

theorem judgeSlip_of_loose {d : Device} {l : Leg} (sheared : ¬ (d.cfl.get l).shear.count < 2)
    (fresh : (d.cfl.get l).slipReported = false) (loose : ¬ d.supporting l = true) : d.judgeSlip l = d :=
  (if_neg sheared).trans ((if_neg (by rw [fresh]; decide)).trans (if_neg loose))

/-- The slip judgement changes of the filters at most the note of its own report. -/
theorem judgeSlip_filter (d : Device) (l : Leg) : ∃ reported, (d.judgeSlip l).cfl
    = d.cfl.set l { d.cfl.get l with slipReported := reported } := by
  have kept : d.cfl = d.cfl.set l { d.cfl.get l with slipReported := (d.cfl.get l).slipReported } :=
    (PerLeg.set_get d.cfl l).symm
  by_cases calm : (d.cfl.get l).shear.count < 2
  · rw [judgeSlip_of_calm calm]
    exact ⟨false, rfl⟩
  · cases reported : (d.cfl.get l).slipReported with
    | true =>
      rw [judgeSlip_of_reported calm reported]
      exact ⟨_, kept⟩
    | false =>
      by_cases supports : d.supporting l = true
      · rw [judgeSlip_of_supporting calm reported supports]
        exact ⟨true, (request_frame _ _).2.2.1⟩
      · rw [judgeSlip_of_loose calm reported supports]
        exact ⟨_, kept⟩

section
variable {l : Leg} {reply : FootReply} {d : Device}

theorem shearEntered_filter (l : Leg) (reply : FootReply) (d : Device) : (d.shearEntered l reply).cfl.get l
    = { d.recordAfter l reply with shear := (d.recordAfter l reply).shear.push reply.shear } := by
  unfold shearEntered
  rw [modFilter_filter_self, contactTaken_cfl, contactFormed_filter_self]

theorem shearEntered_filter_ne (reply : FootReply) (d : Device) {m : Leg} (other : m ≠ l) :
    (d.shearEntered l reply).cfl.get m = d.cfl.get m := by
  unfold shearEntered
  rw [modFilter_filter_ne _ _ other, contactTaken_cfl, contactFormed_filter_ne _ _ _ other]

theorem recordAfter_of_sound (sound : reply.sensorFault = false) : d.recordAfter l reply
    = { d.sampledRecord l reply with contact := (d.windowAfter l reply).majority } :=
  if_neg (by rw [sound]; decide)

theorem recordAfter_of_fault (fault : reply.sensorFault = true) : d.recordAfter l reply
    = { d.cfl.get l with faultSeen := true, contact := .unknown } := if_pos fault

/-- A run of shear, as R54 counts it. -/
def sheared (l : Leg) (reply : FootReply) (d : Device) : Prop :=
  2 ≤ ((d.cfl.get l).shear.push reply.shear).count

theorem shearEntered_count (sound : reply.sensorFault = false) :
    (((d.shearEntered l reply).cfl.get l).shear.count < 2 ↔ ¬ d.sheared l reply)
    ∧ ((d.shearEntered l reply).cfl.get l).slipReported = (d.cfl.get l).slipReported := by
  rw [shearEntered_filter, recordAfter_of_sound sound]
  exact ⟨not_le.symm, rfl⟩

/-- A leg that the engine holds up after its reply: the support of R23 with the new contact state. -/
theorem shearEntered_supporting (l : Leg) (reply : FootReply) (d : Device) : (d.shearEntered l reply).supporting l = true ↔
    ((d.contactTaken l reply).legState l = .stance ∨ (d.contactTaken l reply).legState l = .liftWait)
      ∧ d.contactAfter l reply ≠ .absent := by
  have contact : (d.shearEntered l reply).contact l = d.contactAfter l reply :=
    (congrArg FilterRecord.contact (d.shearEntered_filter l reply)).trans (d.recordAfter_contact l reply)
  rw [supporting_iff, contact]
  rfl

/-- Without a run of shear nothing is requested: the modes and the engine are what the contact made of them. -/
theorem filterReply_calm (calm : reply.sensorFault = true ∨ ¬ d.sheared l reply) :
    (d.filterReply l reply).gpe = (d.contactTaken l reply).gpe ∧ (d.filterReply l reply).mhu = (d.contactTaken l reply).mhu
    ∧ ∀ f, (d.filterReply l reply).factor f = (d.contactTaken l reply).factor f := by
  cases fault : reply.sensorFault with
  | true =>
    rw [filterReply_of_fault l d fault]
    exact ⟨rfl, rfl, fun _ => rfl⟩
  | false =>
    have few := (shearEntered_count (l := l) (d := d) fault).1.mpr (calm.resolve_left (by rw [fault]; decide))
    rw [filterReply_of_sound l d fault, judgeSlip_of_calm few]
    exact ⟨rfl, rfl, fun _ => rfl⟩

/-- The record of a filter that a sensor fault was reported to (R49). -/
theorem filterReply_filter_of_fault (d : Device) (fault : reply.sensorFault = true) :
    (d.filterReply l reply).cfl.get l = { d.cfl.get l with faultSeen := true, contact := .unknown } := by
  rw [filterReply_of_fault l d fault, contactTaken_cfl, contactFormed_filter_self, recordAfter_of_fault fault]

/-- The record of a filter after a reply, but for the note of a slip report (R47 to R51). -/
theorem filterReply_filter_of_sound (d : Device) (sound : reply.sensorFault = false) :
    ∃ reported, (d.filterReply l reply).cfl.get l = { d.sampledRecord l reply with
      contact := (d.windowAfter l reply).majority, shear := (d.cfl.get l).shear.push reply.shear
      slipReported := reported } := by
  obtain ⟨reported, judged⟩ := (d.shearEntered l reply).judgeSlip_filter l
  refine ⟨reported, ?_⟩
  rw [filterReply_of_sound l d sound, judged, PerLeg.get_set_self, shearEntered_filter, recordAfter_of_sound sound]
  rfl

theorem filterReply_filter_ne (reply : FootReply) (d : Device) {m : Leg} (other : m ≠ l) :
    (d.filterReply l reply).cfl.get m = d.cfl.get m := by
  cases fault : reply.sensorFault with
  | true => rw [filterReply_of_fault l d fault, contactTaken_cfl, contactFormed_filter_ne _ _ _ other]
  | false =>
    obtain ⟨reported, judged⟩ := (d.shearEntered l reply).judgeSlip_filter l
    rw [filterReply_of_sound l d fault, judged, PerLeg.get_set_ne _ _ other, shearEntered_filter_ne _ _ other]

theorem filterReply_contact (l : Leg) (reply : FootReply) (d : Device) :
    (d.filterReply l reply).contact l = d.contactAfter l reply := by
  unfold contact contactAfter
  cases fault : reply.sensorFault with
  | true => rw [filterReply_filter_of_fault d fault]; rfl
  | false =>
    obtain ⟨reported, record⟩ := filterReply_filter_of_sound (l := l) d fault
    rw [record]
    rfl

/-- CHATTER is raised by three samples that differ (R50). -/
theorem filterReply_chatter (l : Leg) (reply : FootReply) (d : Device) : (d.filterReply l reply).factor .chatter
    = if reply.sensorFault = true ∨ (d.windowAfter l reply).unanimous = true then d.factor .chatter
      else d.raisedOnce .chatter := by
  have formed : (d.contactTaken l reply).factor .chatter = if reply.sensorFault = true
      ∨ (d.windowAfter l reply).unanimous = true then d.factor .chatter else d.raisedOnce .chatter := by
    rw [(d.contactTaken_raises l reply).factor_eq (by decide), contactFormed_factor]
    cases reply.sensorFault with
    | true => rfl
    | false =>
      cases (d.windowAfter l reply).unanimous with
      | true => rfl
      | false => exact raise_factor_self .chatter d
  cases fault : reply.sensorFault with
  | true => rw [filterReply_of_fault l d fault, formed, fault]
  | false =>
    rw [filterReply_of_sound l d fault, (judgeSlip_raises l _).factor_eq (by decide), ← fault]
    exact formed

theorem contactTaken_slip (l : Leg) (reply : FootReply) (d : Device) :
    (d.contactTaken l reply).factor .slip = d.factor .slip := by
  rw [(d.contactTaken_raises l reply).factor_eq (by decide), contactFormed_factor_ne _ _ _ (by decide)]

/-- A run of shear already reported is not reported again (R54). -/
theorem filterReply_of_reported (sound : reply.sensorFault = false) (run : d.sheared l reply)
    (reported : (d.cfl.get l).slipReported = true) : ((d.filterReply l reply).cfl.get l).slipReported = true
      ∧ (d.filterReply l reply).factor .slip = d.factor .slip := by
  obtain ⟨count, kept⟩ := shearEntered_count (l := l) (d := d) sound
  rw [filterReply_of_sound l d sound,
    judgeSlip_of_reported (fun few => count.mp few run) (kept.trans reported)]
  exact ⟨kept.trans reported, d.contactTaken_slip l reply⟩

/-- A run of shear at a leg that the engine holds up is reported and requests its hold (R54). -/
theorem filterReply_slips (sound : reply.sensorFault = false) (run : d.sheared l reply)
    (fresh : (d.cfl.get l).slipReported = false)
    (stands : (d.contactTaken l reply).legState l = .stance ∨ (d.contactTaken l reply).legState l = .liftWait)
    (present : d.contactAfter l reply ≠ .absent) : ((d.filterReply l reply).cfl.get l).slipReported = true
      ∧ (d.filterReply l reply).factor .slip = d.raisedOnce .slip
      ∧ (d.contactTaken l reply).heldFor (d.filterReply l reply) (.slip l) := by
  obtain ⟨count, kept⟩ := shearEntered_count (l := l) (d := d) sound
  rw [filterReply_of_sound l d sound, judgeSlip_of_supporting (fun few => count.mp few run) (kept.trans fresh)
    ((d.shearEntered_supporting l reply).mpr ⟨stands, present⟩)]
  obtain ⟨e, marked⟩ : ∃ e : Device, e = (d.shearEntered l reply).modFilter l fun r => { r with slipReported := true } :=
    ⟨_, rfl⟩
  rw [← marked]
  have mhu : e.mhu = (d.contactTaken l reply).mhu := by rw [marked]; rfl
  refine ⟨?_, ?_, heldFor_of_mhu mhu (request_heldFor (.slip l) e)⟩
  · rw [(request_frame (.slip l) e).2.2.1, marked]
    exact (congrArg FilterRecord.slipReported (modFilter_filter_self l _ _)).trans rfl
  · rw [request_factor_self (q := .slip l) rfl e]
    have before : e.factor .slip = d.factor .slip := by
      rw [marked]
      exact d.contactTaken_slip l reply
    unfold raisedOnce
    rw [before]

/-- A run of shear at a leg that is not held up is not reported. -/
theorem filterReply_loose (sound : reply.sensorFault = false) (run : d.sheared l reply)
    (fresh : (d.cfl.get l).slipReported = false)
    (loose : ¬ (((d.contactTaken l reply).legState l = .stance ∨ (d.contactTaken l reply).legState l = .liftWait)
      ∧ d.contactAfter l reply ≠ .absent)) : ((d.filterReply l reply).cfl.get l).slipReported = false
      ∧ (d.filterReply l reply).factor .slip = d.factor .slip := by
  obtain ⟨count, kept⟩ := shearEntered_count (l := l) (d := d) sound
  rw [filterReply_of_sound l d sound, judgeSlip_of_loose (fun few => count.mp few run) (kept.trans fresh)
    fun supports => loose ((d.shearEntered_supporting l reply).mp supports)]
  exact ⟨kept.trans fresh, d.contactTaken_slip l reply⟩

theorem filterReply_unreported (sound : reply.sensorFault = false) (calm : ¬ d.sheared l reply) :
    ((d.filterReply l reply).cfl.get l).slipReported = false := by
  rw [filterReply_of_sound l d sound, judgeSlip_of_calm ((shearEntered_count sound).1.mpr calm)]
  exact (congrArg FilterRecord.slipReported (modFilter_filter_self l _ _)).trans rfl

/-! ## What the engine makes of the contact of a reply -/

theorem contactTaken_of_same (same : d.contact l = d.contactAfter l reply) :
    d.contactTaken l reply = d.contactFormed l reply := if_pos same

theorem contactTaken_of_changed (changed : d.contactAfter l reply ≠ d.contact l) : d.contactTaken l reply
    = (d.contactFormed l reply).contactChange l (d.contactAfter l reply) := if_neg (Ne.symm changed)

theorem contactTaken_of_standing (stands : d.legState l = .stance ∨ d.legState l = .liftWait) :
    (d.contactTaken l reply).gpe = d.gpe ∧ (d.contactTaken l reply).mhu = d.mhu := by
  unfold contactTaken
  split
  · exact ⟨rfl, rfl⟩
  · rw [contactChange_of_standing (d := d.contactFormed l reply) stands]
    split
    · exact ⟨rfl, rfl⟩
    · exact ⟨rfl, rfl⟩

theorem contactTaken_of_held (held : d.legState l = .hang ∨ d.legState l = .unset) :
    d.contactTaken l reply = d.contactFormed l reply := by
  unfold contactTaken
  rw [contactChange_of_held (d := d.contactFormed l reply) held, ite_self]

/-- A changed contact that lets the leg touch down. -/
def landsBy (l : Leg) (reply : FootReply) (d : Device) : Prop :=
  d.contactAfter l reply ≠ d.contact l ∧ d.grounds l (d.contactAfter l reply)

theorem contactTaken_lands (away : d.airborne l) (lands : d.landsBy l reply) :
    Lands d (d.contactTaken l reply) l := by
  rw [contactTaken_of_changed lands.1]
  obtain ⟨state, base, stack, mode⟩ := contactChange_lands (d := d.contactFormed l reply) away lands.2
  exact ⟨state, base, stack, mode⟩

theorem contactTaken_stays (away : d.airborne l) (stays : ¬ d.landsBy l reply) :
    (d.contactTaken l reply).legState l = d.legState l ∧ (d.contactTaken l reply).mhu = d.mhu := by
  by_cases changed : d.contactAfter l reply = d.contact l
  · rw [contactTaken_of_same changed.symm]
    exact ⟨rfl, rfl⟩
  · rw [contactTaken_of_changed changed]
    exact contactChange_stays (d := d.contactFormed l reply) away fun grounds => stays ⟨changed, grounds⟩

/-- A hold that comes after a touchdown is one that comes of the modes before it. -/
theorem heldFor_of_lands {e f : Device} {h : Hold} (lands : Lands d e l) (held : e.heldFor f h) : d.heldFor f h := by
  intro mode empty
  refine held ?_ (lands.stack.trans empty)
  rcases lands.mode with same | ⟨stands, _⟩
  · rwa [same]
  · exact .inl stands

end

end Device

end Sys2Proof.Machine
end

section
/-!
PROOFS. A good reply reaches its blocks (O47).
-/

namespace Sys2Proof.Machine

namespace Device

/-- The last leg to land completes a pending stop (R41). -/
theorem contactChange_completes {d : Device} {l : Leg} {new : Contact} (away : d.legState l = .swing ∨ d.legState l = .landing)
    (grounds : d.grounds l new) (walks : d.mhu.mode = .walk) (stops : d.mhu.walkFlag = false)
    (others : ∀ m, m ≠ l → d.legState m = .stance) : (d.contactChange l new).mhu.mode = .stand := by
  have standing (m : Leg) : (d.touchDown l).legState m = .stance := by
    rw [touchDown_legState]
    split
    · rfl
    next other => exact others m other
  obtain ⟨rfl, swinging⟩ := grounds
  rcases away with state | state
  · obtain ⟨cleared, past⟩ := swinging state
    rw [contactChange_swing_lands state cleared past]
    exact completeStop_stands (d := (d.touchDown l).raise .touchdownEarly) walks stops standing
  · rw [contactChange_of_landing state, if_pos rfl]
    exact completeStop_stands (d := d.touchDown l) walks stops standing

/-- A good drive reply at the lane and at the supervisor (R88, R136, R137, R142). -/
theorem handOn_drive_reaches (d : Device) (j : Joint) (bs : List Byte) (noisy : Bool) :
    let n : Node := ⟨j.leg, j.ix.slot⟩
    let e := d.handOn j.leg j.ix.slot (.good noisy) bs
    let r := driveReply bs
    e.jointState j = reportedJoint r.position (d.jointState j)
    ∧ e.node n = goodRecord r.faults (d.node n)
    ∧ (e.nsv.voltages.get j.leg).get j.ix = { volts := r.volts, age := 0 }
    ∧ e.factor .overtemp = (if (d.newlyLatched n r.faults).overtemp then d.raisedOnce .overtemp else d.factor .overtemp)
    ∧ e.factor .driveFault = (if d.driveReacts j r then d.raisedOnce .driveFault else d.factor .driveFault)
    ∧ (d.driveReacts j r = true → d.driveHolds j.leg → d.heldFor e (.node n))
    ∧ (¬ (d.driveReacts j r = true ∧ d.driveHolds j.leg) → d.noneHeld e)
    ∧ (∀ k, k ≠ j → e.jointState k = d.jointState k) ∧ (∀ m, m ≠ n → e.node m = d.node m) ∧ e.cfl = d.cfl := by
  intro n e r
  obtain ⟨links, handed⟩ := d.handOn_drive_noLinks j noisy bs
  obtain ⟨f, supervised⟩ : ∃ f, f = d.superviseDrive j r := ⟨_, rfl⟩
  have handed : e = (f.takePosition j r.position).withLinks links := by
    rw [supervised]
    exact handed
  clear_value e
  obtain ⟨-, -, cfl, lcc, -⟩ := superviseDrive_frame j r d
  have node := d.superviseDrive_node_self j r
  have voltage := d.superviseDrive_voltage j r
  have overtemp := d.superviseDrive_overtemp j r
  have fault := d.superviseDrive_driveFault j r
  have held := superviseDrive_heldFor (d := d) (j := j) (reply := r)
  have none := superviseDrive_noneHeld (d := d) (j := j) (reply := r)
  have others {m : Node} (other : m ≠ n) := d.superviseDrive_node_ne j r other
  rw [← supervised] at cfl lcc node voltage overtemp fault held none
  simp only [← supervised] at others
  have joints (k : Joint) : f.jointState k = d.jointState k := by
    unfold jointState
    rw [lcc]
  clear_value r
  subst handed
  refine ⟨?_, node, voltage, overtemp, fault, held, none, fun k other => ?_, fun m other => others other, cfl⟩
  · rw [← joints]
    exact f.takePosition_jointState_self j r.position
  · rw [← joints]
    exact takePosition_jointState_ne other r.position f

/-- A good foot reply at the supervisor, before the Contact Filter takes it (R139). -/
theorem handOn_foot_reaches (d : Device) (l : Leg) (bs : List Byte) (noisy : Bool) :
    let n : Node := ⟨l, .foot⟩
    let e := d.handOn l .foot (.good noisy) bs
    let newly := flagAt bs 4 = true ∧ (d.node n).latched.sensorFault = false
    e.factor .driveFault = (if newly then d.raisedOnce .driveFault else d.factor .driveFault)
    ∧ (newly → (d.legState l = .swing ∨ d.legState l = .landing) → d.heldFor e (.node n)) := by
  intro n e newly
  have reacts : d.footNewly l (footReply bs) = true ↔ newly := by
    show (flagAt bs 4 && !(d.node n).latched.sensorFault) = true ↔ newly
    rw [Bool.and_eq_true, Bool.not_eq_true']
  refine ⟨?_, fun fault away => ?_⟩
  · have filtered : e.factor .driveFault = (d.superviseFoot l (footReply bs)).factor .driveFault :=
      (filterReply_raises l (footReply bs) _).factor_eq (by decide)
    rw [filtered, superviseFoot_driveFault]
    simp only [reacts]
  · have filtered : e = (d.superviseFoot l (footReply bs)).contactTaken l (footReply bs) :=
      filterReply_of_fault l _ fault.1
    have quiet : e.mhu = (d.superviseFoot l (footReply bs)).mhu := by
      rw [filtered]
      unfold contactTaken
      split
      · rfl
      · have unknown : (d.superviseFoot l (footReply bs)).contactAfter l (footReply bs) = .unknown := if_pos fault.1
        rw [unknown, contactChange_unknown]
        rfl
    refine heldFor_trans (superviseFoot_heldFor (reacts.mpr fault) away) (.inl quiet) ?_
    exact (filterReply_raises l (footReply bs) _).flag_mono

section
variable {d : Device} {l : Leg} {reply : FootReply} (changed : d.contactAfter l reply ≠ d.contact l)
include changed

theorem contactTaken_unload (stands : d.legState l = .stance ∨ d.legState l = .liftWait) :
    (d.contactTaken l reply).factor .unload
      = if d.contactAfter l reply = .absent then d.raisedOnce .unload else d.factor .unload := by
  have before := d.contactFormed_factor_ne l reply (f := .unload) (by decide)
  rw [contactTaken_of_changed changed, contactChange_of_standing (d := d.contactFormed l reply) stands]
  split
  · rw [raise_factor_self]
    exact congrArg (fun r : FactorRecord => (⟨true, saturate r.count⟩ : FactorRecord)) before
  · exact before

theorem contactTaken_clears (swings : d.legState l = .swing) (absent : d.contactAfter l reply = .absent) :
    (d.contactTaken l reply).leg l = { d.leg l with cleared := true } := by
  rw [contactTaken_of_changed changed, absent, contactChange_swing_absent (d := d.contactFormed l reply) swings]
  exact modLeg_leg_self l (fun r => { r with cleared := true }) (d.contactFormed l reply)

theorem contactTaken_passes (swings : d.legState l = .swing) (passes : d.contactAfter l reply = .unknown
    ∨ d.contactAfter l reply = .present ∧ (d.leg l).cleared = false) : (d.contactTaken l reply).leg l = d.leg l := by
  rw [contactTaken_of_changed changed]
  rcases passes with unknown | ⟨present, uncleared⟩
  · rw [unknown, contactChange_unknown]
    rfl
  · rw [present, contactChange_swing_uncleared (d := d.contactFormed l reply) swings uncleared]
    rfl

theorem contactTaken_scuffs (swings : d.legState l = .swing) (present : d.contactAfter l reply = .present)
    (cleared : (d.leg l).cleared = true) (early : (d.leg l).progress.getD 0 < d.earlyThreshold l) :
    (d.contactTaken l reply).leg l = d.leg l ∧ (d.contactTaken l reply).factor .scuff = d.raisedOnce .scuff := by
  have before := d.contactFormed_factor_ne l reply (f := .scuff) (by decide)
  rw [contactTaken_of_changed changed, present,
    contactChange_swing_scuffs (d := d.contactFormed l reply) swings cleared early]
  refine ⟨rfl, ?_⟩
  rw [raise_factor_self]
  exact congrArg (fun r : FactorRecord => (⟨true, saturate r.count⟩ : FactorRecord)) before

theorem contactTaken_landsEarly (swings : d.legState l = .swing) (present : d.contactAfter l reply = .present)
    (cleared : (d.leg l).cleared = true) (past : d.earlyThreshold l ≤ (d.leg l).progress.getD 0) :
    (d.contactTaken l reply).legState l = .stance ∧ ((d.contactTaken l reply).leg l).stanceBase = d.lastPose l
    ∧ (d.contactTaken l reply).factor .touchdownEarly = d.raisedOnce .touchdownEarly := by
  have before := d.contactFormed_factor_ne l reply (f := .touchdownEarly) (by decide)
  have lands := contactTaken_lands (d := d) (reply := reply) (.inl swings) ⟨changed, present, fun _ => ⟨cleared, past⟩⟩
  refine ⟨lands.state, lands.base, ?_⟩
  rw [contactTaken_of_changed changed, present,
    contactChange_swing_lands (d := d.contactFormed l reply) swings cleared past,
    (completeStop_raises _).factor_eq (by decide), raise_factor_self]
  exact congrArg (fun r : FactorRecord => (⟨true, saturate r.count⟩ : FactorRecord)) before

theorem contactTaken_touches (down : d.legState l = .setDown) (present : d.contactAfter l reply = .present) :
    (d.contactTaken l reply).leg l = { d.leg l with
      state := .stance, partnerLatch := false, progress := none, landing := 0, clear := 0, cleared := false
      stanceBase := d.lastPose l } := by
  rw [contactTaken_of_changed changed, present, contactChange_of_setDown (d := d.contactFormed l reply) down, if_pos rfl,
    touchDown_leg, if_pos rfl]
  rfl

theorem contactTaken_waits (away : d.legState l = .landing ∨ d.legState l = .setDown)
    (absent : d.contactAfter l reply ≠ .present) : (d.contactTaken l reply).leg l = d.leg l := by
  rw [contactTaken_of_changed changed]
  rcases away with state | state
  · rw [contactChange_of_landing (d := d.contactFormed l reply) state, if_neg absent]
    rfl
  · rw [contactChange_of_setDown (d := d.contactFormed l reply) state, if_neg absent]
    rfl

end

end Device

/-- Settles O47: what the supervisor, the lane and the filter make of a good reply, block by block. -/
theorem goodRepliesReachTheirBlocks : Obligations.GoodRepliesReachTheirBlocks := by
  refine ⟨fun d j bs noisy => ?_, fun d l bs noisy => ?_, fun d l reply => ?_⟩
  · intro n e r old mask bad holds
    obtain ⟨joint, node, voltage, overtemp, driveFault, held, none, joints, nodes, cfl⟩ :=
      d.handOn_drive_reaches j bs noisy
    have reacts : d.driveReacts j r = bad := d.driveReacts_eq j r rfl rfl
    rw [show d.driveReacts j (driveReply bs) = bad from reacts] at driveFault held none
    refine ⟨joint, ?_, ?_, voltage, ?_, driveFault, held, none, joints, nodes, cfl⟩
    · show DriveReply.mk _ (clampAbs Config.angleLimit (s16 bs 2)) (min (u16 bs 4) 1023) = _
      rw [clampAbs_eq (by decide), min_comm (u16 bs 4)]
      rfl
    · refine node.trans ?_
      simp only [Device.goodRecord, FaultSet.union, FaultSet.zip]
      congr 2
      · exact Bool.or_false _
      · exact Bool.or_false _
    · refine overtemp.trans (if_congr ?_ rfl rfl)
      show (r.faults.overtemp && !old.overtemp) = true ↔ _
      rw [Bool.and_eq_true, Bool.not_eq_true']
  · intro n e fault old newly
    obtain ⟨driveFault, held⟩ := d.handOn_foot_reaches l bs noisy
    obtain ⟨-, -, cfl, lcc, -⟩ := Device.superviseFoot_frame l (footReply bs) d
    obtain ⟨-, -, lcc', -, nsv, -⟩ := Device.filterReply_frame l (footReply bs) (d.superviseFoot l (footReply bs))
    have node (m : Node) : e.node m = (d.superviseFoot l (footReply bs)).node m :=
      congrArg (fun s : Supervisor => (s.nodes.get m.leg).get m.slot) nsv
    refine ⟨?_, driveFault, held, fun m other => ?_, lcc'.trans lcc, ?_, rfl, cfl, ?_⟩
    · rw [node, Device.superviseFoot_node_self]
      simp only [Device.goodRecord, FaultSet.union, FaultSet.zip, Device.footFaults, noFaults, Bool.or_false]
      rfl
    · rw [node, Device.superviseFoot_node_ne other]
    · exact (congrArg Supervisor.voltages nsv).trans (d.superviseFoot_voltages l (footReply bs))
    · have shear : flagAt bs 3 = decide (byteAt bs 3 ≠ 0) :=
        Bool.eq_iff_iff.mpr (bne_iff_ne.trans decide_eq_true_iff.symm)
      show FootReply.mk _ (flagAt bs 3) _ = _
      rw [shear]
  · intro e old w sample sheared r new touched
    have contact : new = d.contactAfter l reply := d.filterReply_contact l reply
    clear_value new
    subst contact
    have run : sheared ↔ d.sheared l reply := Iff.rfl
    have window : d.windowAfter l reply = ⟨w.middle, w.newest, sample⟩ := by
      unfold Device.windowAfter sampleOf
      simp only [Window.push]
      rfl
    have unanimous : (d.windowAfter l reply).unanimous = true ↔ w.middle = w.newest ∧ w.newest = sample := by
      rw [window]
      simp [Window.unanimous]
    refine ⟨Device.filterReply_filter_of_fault d, fun sound => ?_, ?_, fun m other => Device.filterReply_filter_ne reply d other,
      fun calm => ?_, Device.filterReply_unreported, Device.filterReply_of_reported,
      fun sound run fresh stands => ⟨fun present => ?_, fun absent => ?_⟩,
      fun sound run fresh away => ?_, fun sound run fresh held => ?_⟩
    · obtain ⟨reported, record⟩ := Device.filterReply_filter_of_sound (l := l) d sound
      have record : e.cfl.get l = _ := record
      rw [record]
      refine ⟨window, rfl, rfl, ?_, rfl, rfl, if_congr unanimous rfl rfl⟩
      rw [window]
      rfl
    · exact (d.filterReply_chatter l reply).trans (if_congr (or_congr Iff.rfl unanimous) rfl rfl)
    · obtain ⟨gpe, mhu, factor⟩ := Device.filterReply_calm calm
      have leg : e.leg l = (d.contactTaken l reply).leg l := congrArg (fun g : GaitEngine => g.legs.get l) gpe
      have state : e.legState l = (d.contactTaken l reply).legState l := congrArg LegRecord.state leg
      have same (f : Factor) : e.factor f = (d.contactTaken l reply).factor f := factor f
      refine ⟨(same .slip).trans (d.contactTaken_slip l reply), fun away stands walks stops others => ?_, fun kept => ?_,
        fun changed => ⟨fun stands => ?_, fun swings absent => ?_, fun swings passes => ?_,
          fun swings present cleared p progress => ⟨fun early => ?_, fun past => ?_⟩,
          fun landing => ⟨fun present => ?_, fun absent => ?_⟩, fun down => ⟨fun present => ?_, fun absent => ?_⟩,
          fun held => ?_⟩⟩
      · have lands : d.landsBy l reply := by
          by_contra stays
          have kept := (Device.contactTaken_stays (away.imp_right .inl) stays).1
          rw [← state, stands] at kept
          rcases away with swings | lands
          · cases kept.trans swings
          · cases kept.trans lands
        rw [show e.mhu = _ from mhu, Device.contactTaken_of_changed lands.1]
        exact Device.contactChange_completes (d := d.contactFormed l reply) away lands.2 walks stops others
      · rw [show e.gpe = _ from gpe, show e.mhu = _ from mhu, Device.contactTaken_of_same kept.symm]
        exact ⟨rfl, rfl⟩
      · obtain ⟨gpe', mhu'⟩ := Device.contactTaken_of_standing (d := d) (reply := reply) stands
        exact ⟨gpe.trans gpe', mhu.trans mhu', (same .unload).trans (Device.contactTaken_unload changed stands)⟩
      · exact leg.trans (Device.contactTaken_clears changed swings absent)
      · exact leg.trans (Device.contactTaken_passes changed swings passes)
      · obtain ⟨leg', scuff⟩ := Device.contactTaken_scuffs changed swings present cleared (by
          rw [show (d.leg l).progress = _ from progress]
          exact early)
        exact ⟨leg.trans leg', (same .scuff).trans scuff⟩
      · obtain ⟨state', base, early⟩ := Device.contactTaken_landsEarly changed swings present cleared (by
          rw [show (d.leg l).progress = _ from progress]
          exact past)
        exact ⟨state.trans state', (congrArg LegRecord.stanceBase leg).trans base, (same .touchdownEarly).trans early⟩
      · have lands := Device.contactTaken_lands (d := d) (reply := reply) (.inr (.inl landing))
          ⟨changed, present, fun swings => by cases landing.symm.trans swings⟩
        exact ⟨state.trans lands.state, (congrArg LegRecord.stanceBase leg).trans lands.base⟩
      · exact leg.trans (Device.contactTaken_waits changed (.inl landing) absent)
      · exact leg.trans (Device.contactTaken_touches changed down present)
      · exact leg.trans (Device.contactTaken_waits changed (.inr down) absent)
      · rw [show e.gpe = _ from gpe, show e.mhu = _ from mhu, Device.contactTaken_of_held held]
        exact ⟨rfl, rfl⟩
    · obtain ⟨gpe', mhu'⟩ := Device.contactTaken_of_standing (d := d) (reply := reply) stands
      have state : (d.contactTaken l reply).legState l = d.legState l :=
        congrArg (fun g : GaitEngine => (g.legs.get l).state) gpe'
      obtain ⟨reported, slip, held⟩ := Device.filterReply_slips sound run fresh (by rwa [state]) present
      exact ⟨reported, slip, Device.heldFor_of_mhu mhu' held⟩
    · exact Device.filterReply_loose sound run fresh fun supports => supports.2 absent
    · intro lands
      have landing : lands ↔ d.landsBy l reply :=
        ⟨fun ⟨present, before, swinging⟩ => ⟨fun same => before (same.symm.trans present), present, swinging⟩,
          fun ⟨changed, present, swinging⟩ => ⟨present, fun before => changed (present.trans before.symm), swinging⟩⟩
      refine ⟨fun h => ?_, fun h => ?_⟩
      · have touched := Device.contactTaken_lands away (landing.mp h)
        obtain ⟨reported, slip, held⟩ := Device.filterReply_slips sound run fresh (.inl touched.state) (by
          rw [h.1]; decide)
        exact ⟨reported, slip, Device.heldFor_of_lands touched held⟩
      · have state := (Device.contactTaken_stays away fun lands => h (landing.mpr lands)).1
        refine Device.filterReply_loose sound run fresh fun supports => ?_
        rw [state] at supports
        rcases away with away | away | away
        all_goals
          rw [show d.legState l = _ from away] at supports
          rcases supports.1 with h | h <;> cases h
    · refine Device.filterReply_loose sound run fresh fun supports => ?_
      rw [Device.contactTaken_of_held held] at supports
      rcases held with held | held
      all_goals
        rcases supports.1 with h | h
        · cases held.symm.trans h
        · cases held.symm.trans h

end Sys2Proof.Machine
end

section
/-!
PROOFS. The composition of the joints and of the lanes (O51).
-/

namespace Sys2Proof.Machine

/-! ## The arithmetic of one joint (R79, R80, R82 to R85) -/

theorem clampAngle_eq (x : Int) : clampAngle x = clampInt (-18000) 18000 x := rfl

theorem stepLimit_eq (ref x : Int) (most : Nat) : stepLimit ref x most =
    if ref + most < x then ref + most else if x < ref - most then ref - most else x := by
  unfold stepLimit
  exact if_congr (by omega) rfl (if_congr (by omega) rfl rfl)

theorem moveToward_eq (start target : Int) (most : Nat) : moveToward start target most =
    if start + most < target then start + most else if target < start - most then start - most else target :=
  stepLimit_eq start target most

theorem roundHalfAway_1024 (x : Int) :
    roundHalfAway x 1024 = if 0 ≤ x then (x + 512) / 1024 else -((-x + 512) / 1024) := by
  unfold roundHalfAway
  split
  · omega
  · omega

theorem stiffnessOf_le {kIn gg gj : Nat} (global : gg ≤ 1024) (joint : gj ≤ 1024) : stiffnessOf kIn gg gj ≤ kIn := by
  unfold stiffnessOf
  refine Nat.div_le_of_le_mul ?_
  calc kIn * gg * gj ≤ kIn * 1024 * 1024 := Nat.mul_le_mul (Nat.mul_le_mul_left kIn global) joint
    _ = 1048576 * kIn := by ring

theorem softLimit_of_within {r : JointRecord} {x : Int} (within : r.lo ≤ x ∧ x ≤ r.hi) :
    softLimit r x = { position := x, raised := none, freeze := false } :=
  if_pos ((r.allows_iff x).mpr within)

theorem softLimit_of_outside {r : JointRecord} {x : Int} (outside : ¬ (r.lo ≤ x ∧ x ≤ r.hi)) : softLimit r x =
    match r.limitMode with
    | .off => { position := x, raised := none, freeze := false }
    | .note => { position := x, raised := some .limitNote, freeze := false }
    | .clamp => { position := clampInt r.lo r.hi x, raised := some .limitClamp, freeze := false }
    | .freeze => { position := clampInt r.lo r.hi x, raised := none, freeze := true } :=
  if_neg fun allows => outside ((r.allows_iff x).mp allows)

/-- What the soft limit raises (R85). -/
theorem softLimit_raised (r : JointRecord) (x : Int) : (softLimit r x).raised.toList =
    if r.lo ≤ x ∧ x ≤ r.hi then [] else match r.limitMode with
      | .note => [.limitNote]
      | .clamp => [.limitClamp]
      | _ => [] := by
  by_cases within : r.lo ≤ x ∧ x ≤ r.hi
  · rw [softLimit_of_within within, if_pos within]
    rfl
  · rw [softLimit_of_outside within, if_neg within]
    cases r.limitMode <;> rfl

theorem softLimit_freeze (r : JointRecord) (x : Int) :
    (softLimit r x).freeze = true ↔ r.limitMode = .freeze ∧ ¬ (r.lo ≤ x ∧ x ≤ r.hi) := by
  by_cases within : r.lo ≤ x ∧ x ≤ r.hi
  · rw [softLimit_of_within within]
    simp [within]
  · rw [softLimit_of_outside within]
    cases r.limitMode <;> simp [within]

theorem softLimit_free {r : JointRecord} (free : r.limitMode = .off ∨ r.limitMode = .note) (x : Int) :
    (softLimit r x).position = x := by
  by_cases within : r.lo ≤ x ∧ x ≤ r.hi
  · rw [softLimit_of_within within]
  · rw [softLimit_of_outside within]
    rcases free with mode | mode
    · rw [mode]
    · rw [mode]

theorem softLimit_bounds {r : JointRecord} (bounds : r.limitMode = .clamp ∨ r.limitMode = .freeze) (order : r.lo ≤ r.hi)
    (x : Int) : (softLimit r x).position = clampInt r.lo r.hi x ∧ r.lo ≤ (softLimit r x).position
      ∧ (softLimit r x).position ≤ r.hi := by
  have held : (softLimit r x).position = clampInt r.lo r.hi x := by
    by_cases within : r.lo ≤ x ∧ x ≤ r.hi
    · rw [softLimit_of_within within]
      unfold clampInt
      rw [if_neg (by omega), if_neg (by omega)]
    · rw [softLimit_of_outside within]
      rcases bounds with mode | mode
      · rw [mode]
      · rw [mode]
  rw [held]
  exact ⟨rfl, (clampInt_mem order x).1, (clampInt_mem order x).2⟩

namespace Device

/-! ## One joint -/

theorem composeJoint_of_known {d : Device} {j : Joint} {last : Int} (known : (d.jointState j).lastPosition = some last) :
    d.composeJoint j = d.composeKnown j last := by
  unfold composeJoint
  rw [known]

theorem composeJoint_of_unknown {d : Device} {j : Joint} (unknown : (d.jointState j).lastPosition = none) :
    d.composeJoint j = { entry := absentEntry, unclamped := (d.jointState j).lastUnclamped, raised := [], freeze := false } := by
  unfold composeJoint
  rw [unknown]

theorem inputStiffness_of_unarmed {d : Device} (down : d.mhu.mode = .unarmed) (j : Joint) : d.inputStiffness j = 0 := by
  unfold inputStiffness
  rw [down]

/-- No factor is raised twice for one joint. -/
theorem composeJoint_raised_nodup (d : Device) (j : Joint) : (d.composeJoint j).raised.Nodup := by
  cases known : (d.jointState j).lastPosition with
  | none =>
    rw [composeJoint_of_unknown known]
    exact List.nodup_nil
  | some last =>
    rw [composeJoint_of_known known]
    have soft (r : JointRecord) (x : Int) :
        (softLimit r x).raised = none ∨ (softLimit r x).raised = some .limitNote
          ∨ (softLimit r x).raised = some .limitClamp := by
      unfold softLimit
      split
      · exact .inl rfl
      · cases r.limitMode <;> simp
    unfold composeKnown
    dsimp only
    rcases soft (d.jointRecord j) _ with raised | raised | raised
    all_goals
      rw [raised]
      split
      · decide
      · decide

/-- The composed position, its factors and its hold request (R84, R85). -/
theorem composeKnown_eq (d : Device) (j : Joint) (last : Int) :
    let jr := d.tbs.jointAt j
    let wanted := clampInt (-18000) 18000 (d.baseTarget j (d.stepReference j last) last + d.correction j)
    let y := stepLimit (d.stepReference j last) wanted jr.stepMax
    d.composeKnown j last = {
      entry := { position := some (softLimit jr y).position
                 stiffness := stiffnessOf (d.inputStiffness j) d.globalGain (d.jointGain j)
                 engage := decide (d.mhu.mode ≠ .unarmed) }
      unclamped := some y
      raised := (if y = wanted then [] else [.stepLimited]) ++ (softLimit jr y).raised.toList
      freeze := (softLimit jr y).freeze } := rfl

/-! ## The counts of a composition (R77, R78, R84, R85, R95) -/

/-- A factor raised in a list counts once for each of its places (R163). -/
theorem raiseAll_factor (gs : List Factor) (d : Device) (f : Factor) : (d.raiseAll gs).factor f
    = if gs.count f = 0 then d.factor f else ⟨true, min ((d.factor f).count + gs.count f) 255⟩ := by
  induction gs generalizing d with
  | nil => rfl
  | cons g gs ih =>
    rw [show d.raiseAll (g :: gs) = (d.raise g).raiseAll gs from rfl, ih]
    by_cases same : g = f
    · subst same
      rw [raise_factor_self, List.count_cons_self, if_neg (Nat.succ_ne_zero _)]
      by_cases none : gs.count g = 0
      · rw [if_pos none, none]
        rfl
      · rw [if_neg none]
        simp only [saturate, countUp, FactorRecord.mk.injEq, true_and]
        omega
    · rw [raise_factor_ne d (Ne.symm same), List.count_cons_of_ne same]

/-- The places of a factor in lists of which each holds it at most once. -/
theorem count_flatMap_of_single {α : Type} (g : α → List Factor) (f : Factor) (p : α → Bool)
    (single : ∀ x, (g x).count f = if p x then 1 else 0) (xs : List α) :
    (xs.flatMap g).count f = (xs.filter p).length := by
  induction xs with
  | nil => rfl
  | cons x xs ih =>
    rw [List.flatMap_cons, List.count_append, ih, single, List.filter_cons]
    split
    · rw [List.length_cons]; omega
    · omega

theorem mismatch_count (d : Device) : (Leg.all.flatMap d.laneFactors).count .targetMismatch
    = (Leg.all.filter d.mismatch).length := by
  refine count_flatMap_of_single _ _ _ (fun l => ?_) Leg.all
  have joints : ((d.composeLeg l).toList.flatMap (·.raised)).count .targetMismatch = 0 := by
    refine List.count_eq_zero.mpr fun mem => ?_
    obtain ⟨c, composed, raised⟩ := List.mem_flatMap.mp mem
    simp only [composeLeg, PerJoint.toList, PerJoint.ofFn, List.mem_cons, List.not_mem_nil, or_false] at composed
    rcases composed with rfl | rfl | rfl
    all_goals exact absurd (composeJoint_raised_subset d _ raised) (by decide)
  unfold laneFactors
  rw [List.count_append, joints]
  cases d.mismatch l <;> rfl

/-- The joints' factors of all lanes are those of the twelve joints. -/
theorem joint_count (d : Device) {f : Factor} (joint : f ≠ .targetMismatch) : (Leg.all.flatMap d.laneFactors).count f
    = (Joint.all.filter fun j => decide (f ∈ (d.composeJoint j).raised)).length := by
  have lane (l : Leg) : (d.laneFactors l).count f
      = ((JointIx.all.map fun i => (⟨l, i⟩ : Joint)).flatMap fun j => (d.composeJoint j).raised).count f := by
    have note : (if d.mismatch l then [Factor.targetMismatch] else []).count f = 0 := by
      refine List.count_eq_zero.mpr fun mem => joint ?_
      split at mem
      · exact List.mem_singleton.mp mem
      · cases mem
    unfold laneFactors
    rw [List.count_append, note, Nat.zero_add]
    rfl
  have lanes (ls : List Leg) : (ls.flatMap d.laneFactors).count f
      = ((ls.flatMap fun l => JointIx.all.map fun i => (⟨l, i⟩ : Joint)).flatMap fun j => (d.composeJoint j).raised).count f := by
    induction ls with
    | nil => rfl
    | cons l ls ih => rw [List.flatMap_cons, List.flatMap_cons, List.flatMap_append, List.count_append, List.count_append,
        lane, ih]
  rw [lanes]
  refine count_flatMap_of_single _ _ _ (fun j => ?_) Joint.all
  by_cases raised : f ∈ (d.composeJoint j).raised
  · rw [decide_eq_true raised, if_pos rfl]
    exact List.count_eq_one_of_mem (d.composeJoint_raised_nodup j) raised
  · rw [decide_eq_false raised, if_neg (by decide)]
    exact List.count_eq_zero.mpr raised

/-- The LIMIT requests count LIMIT_FREEZE once each, and none of the joints' factors (R85). -/
theorem limitRequests_limitFreeze (js : List Joint) (d : Device) : (d.requestAll (js.map .limit)).factor .limitFreeze
    = if js.length = 0 then d.factor .limitFreeze else ⟨true, min ((d.factor .limitFreeze).count + js.length) 255⟩ := by
  induction js generalizing d with
  | nil => rfl
  | cons j js ih =>
    rw [show d.requestAll ((j :: js).map .limit) = (d.request (.limit j)).requestAll (js.map .limit) from rfl, ih,
      request_factor_self (q := .limit j) rfl d, List.length_cons, if_neg (Nat.succ_ne_zero _)]
    by_cases none : js.length = 0
    · rw [if_pos none, none]
      rfl
    · rw [if_neg none]
      simp only [raisedOnce, FactorRecord.mk.injEq, true_and]
      omega

/-! ## What a request reads (R105, R106) -/

/-- Two devices that a push request cannot tell apart. -/
structure HoldTwin (d e : Device) : Prop where
  gpe : e.gpe = d.gpe
  mhu : e.mhu = d.mhu
  tag : e.upp.lastTag = d.upp.lastTag
  low : e.loweringComplete = d.loweringComplete

theorem raise_twin {d e : Device} (t : HoldTwin d e) (f g : Factor) : HoldTwin (d.raise f) (e.raise g) :=
  ⟨t.gpe, t.mhu, t.tag, t.low⟩

theorem noted_twin {d e : Device} (t : HoldTwin d e) (q : PushRequest) : HoldTwin (d.noted q) (e.noted q) := by
  refine ⟨by rw [noted_gpe, noted_gpe, t.gpe], by rw [noted_mhu, noted_mhu, t.mhu], ?_, ?_⟩
  · rw [noted_frame, noted_frame q d]
    exact t.tag
  · rw [noted_loweringComplete, noted_loweringComplete, t.low]

theorem holdRecord_twin {d e : Device} (t : HoldTwin d e) (h : Hold) : e.holdRecord h = d.holdRecord h := by
  unfold holdRecord
  rw [t.gpe, t.mhu, t.tag]

theorem loweringComplete_of_lanes {d e : Device} (lanes : e.lcc = d.lcc) (tables : e.tbs = d.tbs) :
    e.loweringComplete = d.loweringComplete := by
  unfold loweringComplete reached lastPose jointState
  rw [lanes, tables]

theorem pushRecord_twin {d e : Device} (t : HoldTwin d e) (h : Hold) : HoldTwin (d.pushRecord h) (e.pushRecord h) := by
  by_cases hold : d.mhu.mode = .hold
  · have hold' : e.mhu.mode = .hold := by rw [t.mhu]; exact hold
    rw [pushRecord_of_hold hold, pushRecord_of_hold hold']
    refine ⟨t.gpe, ?_, t.tag, t.low⟩
    show ({ e.mhu with stack := e.mhu.stack ++ [e.holdRecord h] } : ModeUnit) = _
    rw [t.mhu, holdRecord_twin t]
  · have hold' : e.mhu.mode ≠ .hold := by rw [t.mhu]; exact hold
    rw [pushRecord_of_not_hold hold, pushRecord_of_not_hold hold']
    refine ⟨?_, ?_, t.tag, t.low⟩
    · exact congrArg (fun g : GaitEngine => { g with legs := PerLeg.ofFn fun l => heldLeg h l (g.legs.get l) }) t.gpe
    · show ({ e.mhu with stack := e.mhu.stack ++ [e.holdRecord h], mode := .hold } : ModeUnit) = _
      rw [t.mhu, holdRecord_twin t]
      rfl

theorem sitDemand_twin {d e : Device} (t : HoldTwin d e) : HoldTwin d.sitDemand e.sitDemand := by
  by_cases down : d.mhu.mode = .unarmed ∨ d.mhu.mode = .safeSit
  · rw [sitDemand_of_down d down, sitDemand_of_down e (by rw [t.mhu]; exact down)]
    exact t
  · have up : d.mhu.mode = .stand ∨ d.mhu.mode = .walk ∨ d.mhu.mode = .hold := by
      cases mode : d.mhu.mode <;> simp_all
    rw [sitDemand_of_up d up, sitDemand_of_up e (by rw [t.mhu]; exact up)]
    refine ⟨?_, ?_, t.tag, t.low⟩
    · exact congrArg (fun g : GaitEngine => { g with waiting := none, phase := 0, legs := .replicate unsetLeg }) t.gpe
    · show ({ e.mhu with mode := .safeSit, sit := some (if e.loweringComplete then .seated else .lowering)
                         stack := [] } : ModeUnit) = _
      rw [t.mhu, t.low]
      rfl

theorem request_twin {d e : Device} (t : HoldTwin d e) (q : PushRequest) : HoldTwin (d.request q) (e.request q) := by
  have noted := noted_twin t q
  by_cases quiet : (d.mhu.mode = .unarmed ∨ d.mhu.mode = .safeSit) ∨ ∃ r ∈ d.mhu.stack, r.hold = q.hold
  · rw [request_of_quiet quiet, request_of_quiet (d := e) (by rw [t.mhu]; exact quiet)]
    exact noted
  · obtain ⟨up, fresh⟩ := not_or.mp quiet
    by_cases room : d.mhu.stack.length < 4
    · rw [request_of_room up fresh room, request_of_room (d := e) (by rw [t.mhu]; exact up) (by rw [t.mhu]; exact fresh)
        (by rw [t.mhu]; exact room)]
      exact pushRecord_twin noted q.hold
    · rw [request_of_full up fresh (not_lt.mp room), request_of_full (d := e) (by rw [t.mhu]; exact up)
        (by rw [t.mhu]; exact fresh) (by rw [t.mhu]; exact not_lt.mp room)]
      have emptied : HoldTwin { d.noted q with mhu := { (d.noted q).mhu with stack := [] } }
          { e.noted q with mhu := { (e.noted q).mhu with stack := [] } } :=
        ⟨noted.gpe, congrArg (fun m : ModeUnit => { m with stack := [] }) noted.mhu, noted.tag, noted.low⟩
      exact sitDemand_twin (raise_twin emptied _ _)

theorem requestAll_twin {d e : Device} (t : HoldTwin d e) (qs : List PushRequest) :
    HoldTwin (d.requestAll qs) (e.requestAll qs) := by
  unfold requestAll
  induction qs generalizing d e with
  | nil => exact t
  | cons q qs ih => exact ih (request_twin t q)

/-! ## The lanes together (R75, R77, R78, R85) -/

theorem wantedKind_eq_some_iff (s : LegState) (k : TargetKind) : wantedKind s = some k ↔
    (s = .stance ∨ s = .liftWait) ∧ k = .stance ∨ s = .swing ∧ k = .touchdown := by
  cases s <;> cases k <;> decide

/-- The stance base or the touchdown target a lane keeps of its segment (R77, R78). -/
theorem keepTargets_eq (d : Device) (l : Leg) : d.keepTargets l (d.leg l) = (match (d.lcc.lanes.get l).segment with
    | none => d.leg l
    | some g =>
      if ((d.leg l).state = .stance ∨ (d.leg l).state = .liftWait) ∧ g.kind = .stance then
        { d.leg l with stanceBase := some g.targets }
      else if (d.leg l).state = .swing ∧ g.kind = .touchdown then { d.leg l with touchdownTarget := some g.targets }
      else d.leg l) := by
  unfold keepTargets segment
  cases (d.lcc.lanes.get l).segment with
  | none => rfl
  | some g =>
    have wanted := wantedKind_eq_some_iff (d.leg l).state g.kind
    cases kind : g.kind with
    | stance =>
      rw [kind] at wanted
      simp only [kind, wanted, and_true, reduceCtorEq, and_false, or_false, if_false]
    | touchdown =>
      rw [kind] at wanted
      simp only [kind, wanted, and_true, reduceCtorEq, and_false, false_or, if_false]

/-- A segment of the wrong kind, by the leg's state (R77, R78). -/
theorem mismatch_eq (d : Device) (l : Leg) : d.mismatch l = (match (d.lcc.lanes.get l).segment with
    | none => false
    | some g => decide (((d.leg l).state = .stance ∨ (d.leg l).state = .liftWait) ∧ g.kind = .touchdown
        ∨ (d.leg l).state = .swing ∧ g.kind = .stance)) := by
  unfold mismatch segment legState
  cases (d.lcc.lanes.get l).segment with
  | none => cases (d.leg l).state <;> rfl
  | some g => cases (d.leg l).state <;> cases kind : g.kind <;> simp [wantedKind, kind]

/-- The device with the bases its lanes keep. -/
def kept (d : Device) : Device := d.mapLegs d.keepTargets

theorem composed_twin (d : Device) : HoldTwin d.kept d.composed := by
  obtain ⟨tbs, gpe, -, -, lcc, mhu, -, -, upp, -⟩ :=
    raiseAll_frame (Leg.all.flatMap d.laneFactors) (recordUnclamped d (d.mapLegs d.keepTargets))
  have low : (recordUnclamped d d.kept).loweringComplete = d.kept.loweringComplete := by
    unfold loweringComplete reached lastPose jointState recordUnclamped
    simp
  exact ⟨gpe, mhu, congrArg UpstreamPort.lastTag upp, (loweringComplete_of_lanes lcc tbs).trans low⟩

theorem compose_twin (d : Device) : d.compose.gpe = (d.kept.requestAll d.limitRequests).gpe
    ∧ d.compose.mhu = (d.kept.requestAll d.limitRequests).mhu := by
  obtain ⟨mhu, gpe⟩ := d.compose_requests
  have twin := requestAll_twin d.composed_twin d.limitRequests
  exact ⟨gpe.trans twin.gpe, mhu.trans twin.mhu⟩

theorem compose_jointState (d : Device) (j : Joint) :
    d.compose.jointState j = { d.jointState j with lastUnclamped := (d.composeJoint j).unclamped } := by
  have lanes : d.compose.lcc = (recordUnclamped d d.kept).lcc := by
    unfold compose kept
    simp [Leg.all]
  unfold jointState
  rw [lanes]
  simp [recordUnclamped, kept]

theorem compose_handed (d : Device) : Raises [.cycleOverrun] (d.composed.requestAll d.limitRequests) d.compose := by
  have seen : d.compose = Leg.all.foldl (fun e l => e.handOff l ((d.composeLeg l).map (·.entry)))
      (d.composed.requestAll d.limitRequests) := rfl
  rw [seen]
  exact Raises.foldl (fun e l => handOff_raises l _ e) Leg.all _

theorem limitRequests_eq (d : Device) :
    d.limitRequests = (Joint.all.filter fun j => (d.composeJoint j).freeze).map .limit := rfl

theorem composed_factor (d : Device) (f : Factor) : d.composed.factor f
    = if (Leg.all.flatMap d.laneFactors).count f = 0 then d.factor f
      else ⟨true, min ((d.factor f).count + (Leg.all.flatMap d.laneFactors).count f) 255⟩ :=
  raiseAll_factor _ (recordUnclamped d d.kept) f

/-- The factors of the joints and of the segments come of the composition alone. -/
theorem compose_factor (d : Device) {f : Factor} (own : f = .targetMismatch ∨ f ∈ jointFactors) :
    d.compose.factor f = d.composed.factor f := by
  have others : f ∉ Factor.limitFreeze :: pushFactors ∧ f ∉ [Factor.cycleOverrun] := by
    rcases own with rfl | own
    · decide
    · revert own
      cases f <;> decide
  rw [d.compose_handed.factor_eq others.2]
  exact (limitRequests_raises _ _).factor_eq others.1

/-- LIMIT_FREEZE comes of the LIMIT requests alone. -/
theorem compose_limitFreeze (d : Device) : d.compose.factor .limitFreeze
    = (let frozen := Joint.all.filter fun j => (d.composeJoint j).freeze
      if frozen.length = 0 then d.factor .limitFreeze
      else ⟨true, min ((d.factor .limitFreeze).count + frozen.length) 255⟩) := by
  have before : d.composed.factor .limitFreeze = d.factor .limitFreeze := by
    refine (raiseAll_raises _ (recordUnclamped d d.kept)).factor_eq fun mem => ?_
    obtain ⟨l, -, raised⟩ := List.mem_flatMap.mp mem
    exact absurd (laneFactors_subset d l raised) (by decide)
  rw [d.compose_handed.factor_eq (by decide), limitRequests_eq, limitRequests_limitFreeze, before]

/-! ## The base target of a joint (R77 to R81) -/

theorem baseTarget_of_standing {d : Device} {j : Joint}
    (stands : (d.leg j.leg).state = .stance ∨ (d.leg j.leg).state = .liftWait) (ref last : Int) :
    d.baseTarget j ref last = d.stanceTarget j last := by
  unfold baseTarget legState
  rcases stands with state | state
  · rw [state]
  · rw [state]

theorem baseTarget_of_swing {d : Device} {j : Joint} (swings : (d.leg j.leg).state = .swing) (ref last : Int) :
    d.baseTarget j ref last = d.swingBase j last := by
  unfold baseTarget legState
  rw [swings]

/-- A leg that moves to a pose of its own moves toward it from the step reference (R80). -/
theorem baseTarget_toward {d : Device} {j : Joint} (ref last : Int) :
    ((d.leg j.leg).state = .landing → d.baseTarget j ref last
      = moveToward ref ((d.tbs.pose.get j.leg).reach.get j.ix) (d.tbs.jointAt j).stepMax)
    ∧ ((d.leg j.leg).state = .setDown → d.baseTarget j ref last
      = moveToward ref ((d.tbs.pose.get j.leg).setDown.get j.ix) (d.tbs.jointAt j).stepMax)
    ∧ ((d.leg j.leg).state = .unset → d.mhu.mode = .safeSit → d.baseTarget j ref last
      = moveToward ref ((d.tbs.pose.get j.leg).sit.get j.ix) (d.tbs.jointAt j).stepMax) := by
  unfold baseTarget legState
  refine ⟨fun state => ?_, fun state => ?_, fun state sits => ?_⟩
  · rw [state]
    rfl
  · rw [state]
    rfl
  · rw [state]
    exact if_pos sits

theorem stanceTarget_of_stance {d : Device} {j : Joint} {g : LegSegment} (seg : (d.lcc.lanes.get j.leg).segment = some g)
    (kind : g.kind = .stance) (last : Int) : d.stanceTarget j last = g.targets.get j.ix := by
  unfold stanceTarget segment
  rw [seg]
  exact if_pos kind

theorem stanceTarget_of_touchdown {d : Device} {j : Joint}
    (other : ∀ g, (d.lcc.lanes.get j.leg).segment = some g → g.kind = .touchdown) (last : Int) :
    d.stanceTarget j last = ((d.leg j.leg).stanceBase.map (·.get j.ix)).getD last := by
  unfold stanceTarget segment
  cases seg : (d.lcc.lanes.get j.leg).segment with
  | none => rfl
  | some g => exact if_neg (by rw [other g seg]; decide)

theorem endTarget_eq (d : Device) (j : Joint) (liftoff : Int) : d.endTarget j liftoff =
    (match (d.lcc.lanes.get j.leg).segment with
      | some g => if g.kind = .touchdown then g.targets.get j.ix
          else ((d.leg j.leg).touchdownTarget.map (·.get j.ix)).getD liftoff
      | none => ((d.leg j.leg).touchdownTarget.map (·.get j.ix)).getD liftoff) := rfl

end Device

/-- Settles O51: the stages of one joint, then the lanes together, whose factors are counted by their places. -/
theorem composedPositionWithinLimits : Obligations.ComposedPositionWithinLimits := by
  refine ⟨fun d j unknown => Device.composeJoint_of_unknown unknown, fun d j last known => ?_, fun d j => ?_, fun d j => ?_,
    fun d j ref last => ?_, fun d => ?_⟩
  · intro jr ref wanted y
    have limited : stepLimit ref wanted jr.stepMax = y := stepLimit_eq ref wanted jr.stepMax
    have composed := d.composeKnown_eq j last
    rw [← Device.composeJoint_of_known known] at composed
    have composed : d.composeJoint j = {
      entry := { position := some (softLimit jr y).position
                 stiffness := stiffnessOf (d.inputStiffness j) d.globalGain (d.jointGain j)
                 engage := decide (d.mhu.mode ≠ .unarmed) }
      unclamped := some y
      raised := (if y = wanted then [] else [.stepLimited]) ++ (softLimit jr y).raised.toList
      freeze := (softLimit jr y).freeze } := by
      rw [← limited]
      exact composed
    clear_value y
    rw [composed]
    refine ⟨_, rfl, rfl, ?_, softLimit_freeze jr y, fun within => ?_, fun free => softLimit_free free y,
      fun bounds order => softLimit_bounds bounds order y, rfl, fun down => ?_, rfl, fun global joint => stiffnessOf_le global joint⟩
    · exact congrArg (fun raised => (if y = wanted then [] else [Factor.stepLimited]) ++ raised) (softLimit_raised jr y)
    · rw [softLimit_of_within within]
    · show stiffnessOf _ _ _ = 0
      rw [Device.inputStiffness_of_unarmed down]
      simp [stiffnessOf]
  · intro jr e sum rounded
    have rounding : roundHalfAway sum 1024 = rounded := roundHalfAway_1024 sum
    rw [← rounding]
    rfl
  · intro c
    refine ⟨fun down => Device.inputStiffness_of_unarmed down j, fun sits => ?_, fun up g seg => ?_, rfl, rfl⟩
    · unfold Device.inputStiffness
      rw [sits]
    · unfold Device.inputStiffness Device.segment
      rw [seg]
      rcases up with mode | mode | mode
      · rw [mode]
        rfl
      · rw [mode]
        rfl
      · rw [mode]
        rfl
  · intro r seg base most toward
    obtain ⟨landing, setDown, sits⟩ := d.baseTarget_toward (j := j) ref last
    refine ⟨fun stands => ?_, fun swings lift s liftoff progress => ?_, fun state => ?_, fun state => ?_, fun state g segment => ?_,
      fun state mode => ?_, fun state mode => ?_⟩
    · have target := Device.baseTarget_of_standing stands ref last
      refine ⟨fun g segment kind => target.trans (Device.stanceTarget_of_stance segment kind last), fun other => ?_⟩
      have kept := target.trans (Device.stanceTarget_of_touchdown other last)
      exact ⟨fun p base => kept.trans (by rw [show (d.leg j.leg).stanceBase = _ from base]; rfl),
        fun base => kept.trans (by rw [show (d.leg j.leg).stanceBase = _ from base]; rfl)⟩
    · intro end_ k
      refine (Device.baseTarget_of_swing swings ref last).trans ?_
      unfold Device.swingBase
      rw [show (d.leg j.leg).liftoff = _ from liftoff, show (d.leg j.leg).progress = _ from progress]
      show swingTarget (lift.get j.ix) (d.endTarget j (lift.get j.ix)) _ s _ _ = _
      rw [Device.endTarget_eq]
      rfl
    · exact (landing state).trans (moveToward_eq _ _ _)
    · exact (setDown state).trans (moveToward_eq _ _ _)
    · show d.baseTarget j ref last = _
      unfold Device.baseTarget Device.legState Device.segment
      rw [show (d.leg j.leg).state = _ from state, show (d.lcc.lanes.get j.leg).segment = _ from segment]
      rfl
    · exact (sits state mode).trans (moveToward_eq _ _ _)
    · show d.baseTarget j ref last = _
      unfold Device.baseTarget Device.legState
      rw [show (d.leg j.leg).state = _ from state]
      exact if_neg (by rw [mode]; decide)
  · intro kept e frozen judged wrong raisedBy
    have bases : d.kept = e := by
      show ({ d with gpe := { d.gpe with legs := .ofFn fun l => d.keepTargets l (d.leg l) } } : Device) = _
      rw [show (fun l => d.keepTargets l (d.leg l)) = kept from funext d.keepTargets_eq]
    have requests : judged = d.kept.requestAll d.limitRequests := by
      rw [bases, Device.limitRequests_eq]
      unfold Device.requestAll
      rw [List.foldl_map]
    have mismatches : (Leg.all.filter d.mismatch).length = wrong.length :=
      congrArg (fun p => (Leg.all.filter p).length) (funext d.mismatch_eq)
    obtain ⟨gpe, mhu⟩ := d.compose_twin
    obtain ⟨tbs, bal, cfl, nsv, -⟩ := d.compose_frame
    rw [← requests] at gpe mhu
    have joint (f : Factor) (own : f ∈ Device.jointFactors) : d.compose.factor f
        = (let n := (Joint.all.filter fun j => decide (f ∈ (d.composeJoint j).raised)).length
          if n = 0 then d.factor f else ⟨true, min ((d.factor f).count + n) 255⟩) := by
      rw [d.compose_factor (.inr own), d.composed_factor, d.joint_count (by rintro rfl; revert own; decide)]
    refine ⟨gpe, mhu, fun f own => ?_, d.compose_jointState, tbs, bal, cfl, nsv⟩
    rcases own with rfl | rfl | rfl | rfl | rfl
    · rw [d.compose_factor (.inl rfl), d.composed_factor, d.mismatch_count, mismatches]
    · exact d.compose_limitFreeze
    · exact joint _ (by decide)
    · exact joint _ (by decide)
    · exact joint _ (by decide)

end Sys2Proof.Machine
end

section
/-!
PROOFS. The selection of a gait and the start of a walk (O52).
-/

namespace Sys2Proof.Machine

namespace Device

/-! ## The change of a gait (R16, R17, R21) -/

theorem selectGait_of_valid {d : Device} {g : Fin 8} (valid : (d.tbs.gaitAt g).valid = true) :
    d.selectGait g = d.adopt g := if_pos valid

theorem selectGait_of_invalid {d : Device} {g : Fin 8} (invalid : (d.tbs.gaitAt g).valid = false) :
    d.selectGait g = d.refuseGait := if_neg (by rw [invalid]; decide)

theorem raisedOnce_congr {d e : Device} {f : Factor} (same : e.factor f = d.factor f) :
    e.raisedOnce f = d.raisedOnce f := by
  unfold raisedOnce
  rw [same]

theorem adopt_leg (d : Device) (g : Fin 8) (l : Leg) : (d.adopt g).leg l = { d.leg l with partnerLatch := true } :=
  setLatches_leg _ l

theorem adopt_factor (d : Device) (g : Fin 8) (f : Factor) :
    (d.adopt g).factor f = if f = .gaitAdopted then d.raisedOnce .gaitAdopted else d.factor f :=
  raise_factor .gaitAdopted f _

theorem refuseGait_factor (d : Device) (f : Factor) :
    d.refuseGait.factor f = if f = .gaitRefused then d.raisedOnce .gaitRefused else d.factor f :=
  raise_factor .gaitRefused f _

/-! ## The gait index and the walk flag of a frame (R15, R17, R102) -/

theorem takeGaitIndex_of_current {d : Device} (stands : d.mhu.mode = .stand) : d.takeGaitIndex d.gpe.current = d := by
  unfold takeGaitIndex
  rw [stands]
  exact if_pos rfl

theorem takeGaitIndex_of_other {d : Device} {g : Fin 8} (stands : d.mhu.mode = .stand) (other : g ≠ d.gpe.current) :
    d.takeGaitIndex g = d.selectGait g := by
  unfold takeGaitIndex
  rw [stands]
  exact if_neg other

theorem takeGaitIndex_of_busy {d : Device} (busy : d.mhu.mode = .walk ∨ d.mhu.mode = .hold) (g : Fin 8) :
    d.takeGaitIndex g = { d with gpe := { d.gpe with waiting := if g = d.gpe.current then none else some g } } := by
  unfold takeGaitIndex
  rcases busy with mode | mode
  · rw [mode]
  · rw [mode]

/-- The device with the walk flag of a frame noted. -/
def flagged (w : Bool) (d : Device) : Device := { d with mhu := { d.mhu with walkFlag := w } }

theorem takeWalkFlag_starts {d : Device} (stands : d.mhu.mode = .stand) (valid : d.gaitEntry.valid = true) :
    d.takeWalkFlag true = ((d.flagged true).setMode .walk).raise .modeChanged :=
  (if_pos ⟨stands, rfl⟩).trans (if_pos valid)

theorem takeWalkFlag_refused {d : Device} (stands : d.mhu.mode = .stand) (invalid : d.gaitEntry.valid = false) :
    d.takeWalkFlag true = (d.flagged true).raise .gaitRefused :=
  (if_pos ⟨stands, rfl⟩).trans (if_neg (Bool.eq_false_iff.mp invalid))

theorem takeWalkFlag_false (d : Device) : d.takeWalkFlag false = d.flagged false :=
  if_neg fun h => Bool.false_ne_true h.2

/-- What the walk flag does in STAND, by whether it starts the walk. -/
theorem takeWalkFlag_of_stand {d : Device} (stands : d.mhu.mode = .stand) (w : Bool) :
    let starts := w = true ∧ d.gaitEntry.valid = true
    (starts → (d.takeWalkFlag w).mhu = { d.mhu with walkFlag := w, mode := .walk }
      ∧ (d.takeWalkFlag w).factor .modeChanged = d.raisedOnce .modeChanged)
    ∧ (¬ starts → (d.takeWalkFlag w).mhu = { d.mhu with walkFlag := w }
      ∧ (d.takeWalkFlag w).factor .modeChanged = d.factor .modeChanged)
    ∧ (w = true → ¬ starts → ((d.takeWalkFlag w).factor .gaitRefused).flag = true)
    ∧ (d.takeWalkFlag w).factor .gaitAdopted = d.factor .gaitAdopted
    ∧ ((d.factor .gaitRefused).flag = true → ((d.takeWalkFlag w).factor .gaitRefused).flag = true) := by
  cases w with
  | false =>
    rw [takeWalkFlag_false]
    exact ⟨fun starts => absurd starts.1 Bool.false_ne_true, fun _ => ⟨rfl, rfl⟩, fun h => absurd h Bool.false_ne_true,
      rfl, id⟩
  | true =>
    cases valid : d.gaitEntry.valid with
    | true =>
      rw [takeWalkFlag_starts stands valid]
      refine ⟨fun _ => ⟨rfl, raise_factor_self _ _⟩, fun h => absurd ⟨rfl, rfl⟩ h, fun _ h => absurd ⟨rfl, rfl⟩ h,
        raise_factor_ne _ (by decide), fun flag => ?_⟩
      rw [raise_factor_ne _ (by decide)]
      exact flag
    | false =>
      rw [takeWalkFlag_refused stands valid]
      have refused : (((d.flagged true).raise .gaitRefused).factor .gaitRefused).flag = true := by
        rw [raise_factor_self]
      exact ⟨fun h => absurd h.2 Bool.false_ne_true, fun _ => ⟨rfl, raise_factor_ne _ (by decide)⟩, fun _ _ => refused,
        raise_factor_ne _ (by decide), fun _ => refused⟩

/-- The gait index of a frame in STAND (R17). -/
theorem takeGaitIndex_of_stand {d : Device} (stands : d.mhu.mode = .stand) (g : Fin 8) :
    let x := d.takeGaitIndex g
    let adopted := g ≠ d.gpe.current ∧ (d.tbs.gaitAt g).valid = true
    (adopted → x = d.adopt g)
    ∧ (¬ adopted → x.gpe.current = d.gpe.current ∧ x.gpe.phase = d.gpe.phase ∧ x.gpe.legs = d.gpe.legs
      ∧ x.factor .gaitAdopted = d.factor .gaitAdopted)
    ∧ (g ≠ d.gpe.current → ¬ adopted → (x.factor .gaitRefused).flag = true)
    ∧ (∀ l, x.legState l = d.legState l) ∧ x.factor .modeChanged = d.factor .modeChanged := by
  by_cases current : g = d.gpe.current
  · subst current
    rw [takeGaitIndex_of_current stands]
    exact ⟨fun h => absurd rfl h.1, fun _ => ⟨rfl, rfl, rfl, rfl⟩, fun h => absurd rfl h, fun _ => rfl, rfl⟩
  · rw [takeGaitIndex_of_other stands current]
    refine ⟨fun h => selectGait_of_valid h.2, fun h => ?_, fun _ h => ?_, fun l => (selectGait_leg g d l).1,
      (selectGait_raises g d).factor_eq (by decide)⟩
    all_goals
      have invalid : (d.tbs.gaitAt g).valid = false := Bool.eq_false_iff.mpr fun valid => h ⟨current, valid⟩
      rw [selectGait_of_invalid invalid]
    · exact ⟨rfl, rfl, rfl, by rw [refuseGait_factor]; rfl⟩
    · rw [refuseGait_factor]
      rfl

end Device

/-- Settles O52: the gait index is judged first, then the walk flag against the gait that it has left current. -/
theorem frameInStandSelectsAndStarts : Obligations.FrameInStandSelectsAndStarts := by
  refine ⟨fun d g w stands => ?_, fun d g w => ⟨fun mode => Device.takeGaitIndex_of_unarmed mode g,
    fun mode => Device.takeGaitIndex_of_safeSit mode g, fun busy => Device.takeGaitIndex_of_busy busy g,
    fun other => Device.takeWalkFlag_of_not_stand other w⟩, fun d => ?_⟩
  · obtain ⟨x, index⟩ : ∃ x, x = d.takeGaitIndex g := ⟨_, rfl⟩
    obtain ⟨taken, kept, refused, states, changed⟩ := Device.takeGaitIndex_of_stand stands g
    obtain ⟨tbs, bal, cfl, lcc, mhu, llc, nsv, upp, -⟩ := Device.takeGaitIndex_frame g d
    rw [← index] at taken kept refused states changed tbs bal cfl lcc mhu llc nsv upp ⊢
    obtain ⟨started, stayed, walkRefused, adoptedAfter, refusedAfter⟩ :=
      Device.takeWalkFlag_of_stand (d := x) (by rw [mhu]; exact stands) w
    obtain ⟨tbs', gpe, bal', cfl', lcc', llc', nsv', upp', -⟩ := Device.takeWalkFlag_frame w x
    intro e adopted starts
    have starts_iff : (w = true ∧ x.gaitEntry.valid = true) ↔ starts := by
      show _ ↔ (w = true ∧ (d.tbs.gaitAt e.gpe.current).valid = true)
      rw [show e.gpe = _ from gpe, ← tbs]
      rfl
    rw [starts_iff] at started stayed walkRefused
    have leg (l : Leg) : e.leg l = x.leg l := Device.leg_of_gpe gpe l
    refine ⟨fun adopt => ?_, fun same => ?_, fun other same => ?_, fun start => ?_, fun stay => ?_, walkRefused,
      fun l => (congrArg LegRecord.state (leg l)).trans (states l), ?_, ?_, tbs'.trans tbs, bal'.trans bal, cfl'.trans cfl,
      lcc'.trans lcc, llc'.trans llc, nsv'.trans nsv, upp'.trans upp⟩
    · have adopted := taken adopt
      rw [show e.gpe = _ from gpe]
      refine ⟨by rw [adopted]; rfl, by rw [adopted]; rfl, fun l => ?_, ?_⟩
      · rw [leg, adopted, Device.adopt_leg]
      · rw [show e.factor .gaitAdopted = _ from adoptedAfter, adopted, Device.adopt_factor]
        rfl
    · obtain ⟨current, phase, legs, factor⟩ := kept same
      rw [show e.gpe = _ from gpe]
      exact ⟨current, phase, legs, adoptedAfter.trans factor⟩
    · exact refusedAfter (refused other same)
    · obtain ⟨modes, factor⟩ := started start
      refine ⟨congrArg ModeUnit.mode modes, factor.trans ?_⟩
      unfold Device.raisedOnce
      rw [changed]
    · obtain ⟨modes, factor⟩ := stayed stay
      exact ⟨(congrArg ModeUnit.mode modes).trans ((congrArg ModeUnit.mode mhu).trans stands), factor.trans changed⟩
    · by_cases start : starts
      · exact congrArg ModeUnit.walkFlag (started start).1
      · exact congrArg ModeUnit.walkFlag (stayed start).1
    · have stack : x.mhu.stack = d.mhu.stack := congrArg ModeUnit.stack mhu
      rw [← stack]
      by_cases start : starts
      · exact (congrArg ModeUnit.stack (started start).1).trans rfl
      · exact (congrArg ModeUnit.stack (stayed start).1).trans rfl
  · intro e
    have changed : e.factor .modeChanged = d.raisedOnce .modeChanged := by
      have entered : ((d.setMode .stand).raise .modeChanged).factor .modeChanged = d.raisedOnce .modeChanged :=
        Device.raise_factor_self .modeChanged (d.setMode .stand)
      show d.enterStand.factor .modeChanged = _
      cases waiting : d.gpe.waiting with
      | none => rw [Device.enterStand_of_none waiting, entered]
      | some g => rw [Device.enterStand_of_some waiting, (Device.selectGait_raises g _).factor_eq (by decide), entered]
    refine ⟨d.enterStand_mhu, changed, d.enterStand_waiting, fun waiting => ?_, fun g waiting => ⟨fun valid => ?_, fun invalid => ?_⟩⟩
    · have entered : e = (d.setMode .stand).raise .modeChanged := Device.enterStand_of_none waiting
      rw [entered]
      exact ⟨rfl, Device.raise_factor_ne _ (by decide), Device.raise_factor_ne _ (by decide)⟩
    · have entered : e = ((d.setMode .stand).raise .modeChanged).adopt g :=
        (Device.enterStand_of_some waiting).trans (Device.selectGait_of_valid valid)
      rw [entered]
      exact ⟨rfl, rfl, fun l => Device.adopt_leg _ g l, (Device.adopt_factor _ g .gaitAdopted).trans
        (Device.raisedOnce_congr (Device.raise_factor_ne _ (by decide))), (Device.adopt_factor _ g .gaitRefused).trans
        (Device.raise_factor_ne _ (by decide))⟩
    · have entered : e = ((d.setMode .stand).raise .modeChanged).refuseGait :=
        (Device.enterStand_of_some waiting).trans (Device.selectGait_of_invalid invalid)
      rw [entered]
      exact ⟨rfl, (Device.refuseGait_factor _ .gaitRefused).trans
        (Device.raisedOnce_congr (Device.raise_factor_ne _ (by decide))), (Device.refuseGait_factor _ .gaitAdopted).trans
        (Device.raise_factor_ne _ (by decide))⟩

end Sys2Proof.Machine
end

section
/-!
PROOFS. The phase step (O53): event points and distances, the advance, the stages, and what the judgements at the
stopping point do.
-/

namespace Sys2Proof.Machine

/-! ## The ring (R10) -/

/-- The way forward on the ring, for phases on it. -/
theorem ringDistance_eq {n a b : Nat} (ha : a < n) (hb : b < n) :
    ringDistance n a b = if a ≤ b then b - a else b + n - a := by
  unfold ringDistance
  rw [Nat.mod_eq_of_lt ha]
  split
  next le =>
    rw [show b + n - a = (b - a) + n from by omega, Nat.add_mod_right]
    exact Nat.mod_eq_of_lt (by omega)
  next above => exact Nat.mod_eq_of_lt (by omega)

/-- The least of a list and a bound: the bound when every entry is above it, and otherwise the least entry. -/
theorem foldl_min_eq_bound {xs : List Nat} {bound : Nat} (above : ∀ x ∈ xs, bound ≤ x) : xs.foldl min bound = bound := by
  induction xs with
  | nil => rfl
  | cons x xs ih =>
    rw [List.foldl_cons, Nat.min_eq_left (above x (by simp))]
    exact ih fun y hy => above y (by simp [hy])

theorem foldl_min_eq_least {xs : List Nat} {bound k : Nat} (mem : k ∈ xs) (within : k ≤ bound)
    (least : ∀ x ∈ xs, k ≤ x) : xs.foldl min bound = k := by
  induction xs generalizing bound with
  | nil => cases mem
  | cons x xs ih =>
    rw [List.foldl_cons]
    have lower : k ≤ min bound x := Nat.le_min.mpr ⟨within, least x (by simp)⟩
    by_cases rest : k ∈ xs
    · exact ih rest lower fun y hy => least y (by simp [hy])
    · have same : x = k := ((List.mem_cons.mp mem).resolve_right rest).symm
      have bound' : min bound x = k := by
        rw [same]
        exact Nat.min_eq_right within
      rw [bound']
      exact foldl_min_eq_bound fun y hy => least y (by simp [hy])

namespace Device

/-! ## Event points and the advance (R9, R10, R14) -/

theorem stopPending_iff (d : Device) : d.stopPending = true ↔ d.mhu.mode = .walk ∧ d.mhu.walkFlag = false := by
  simp [stopPending]

theorem allInStance_iff (d : Device) : d.allInStance = true ↔ ∀ l, d.legState l = .stance := by
  unfold allInStance
  rw [Leg.all_iff]
  simp only [decide_eq_true_eq]

theorem anySwings_iff (d : Device) :
    Leg.all.any (fun l => d.legState l = .swing) = true ↔ ∃ l, d.legState l = .swing := by
  simp only [List.any_eq_true, decide_eq_true_eq, Leg.mem_all, true_and]

theorem derate_iff (d : Device) : d.derate = true ↔ (d.nsv.level1 = .low ∧ d.tbs.deviceConfig.action1 = .derate)
    ∨ (d.nsv.level2 = .low ∧ d.tbs.deviceConfig.action2 = .derate) := by
  simp [derate]

/-- The event point of a leg (R10, R14). -/
theorem eventPoint_eq (d : Device) (l : Leg) : d.eventPoint l = (match d.legState l with
    | .stance => if d.mhu.mode = .walk ∧ d.mhu.walkFlag = false then none else some (d.gaitLeg l).liftPoint
    | .swing => some (((d.gaitLeg l).liftPoint + (d.gaitLeg l).swing) % d.gaitRecord.n)
    | _ => none) := by
  unfold eventPoint
  simp only [stopPending_iff]
  rfl

/-- The distance of a leg's event point, for a master and points on the ring. -/
theorem eventDistance_eq {d : Device} (ring : d.gpe.phase < d.gaitRecord.n) {l : Leg}
    (points : ∀ p, d.eventPoint l = some p → p < d.gaitRecord.n) :
    d.eventDistance l = (d.eventPoint l).bind fun p =>
      if p = d.gpe.phase then none
      else some (if d.gpe.phase < p then p - d.gpe.phase else p + d.gaitRecord.n - d.gpe.phase) := by
  unfold eventDistance
  cases point : d.eventPoint l with
  | none => rfl
  | some p =>
    have distance := ringDistance_eq ring (points p point)
    dsimp only [Option.bind_some]
    have bounds := points p point
    rw [distance]
    rcases lt_trichotomy d.gpe.phase p with before | same | behind
    · rw [if_pos before.le, if_neg (by omega), if_neg (by omega), if_pos before]
    · rw [if_pos same.le, if_pos (by omega), if_pos same.symm]
    · rw [if_neg (not_le.mpr behind), if_neg (by omega), if_neg (by omega), if_neg (by omega)]

theorem eventDistance_range {d : Device} (ring : d.gpe.phase < d.gaitRecord.n) {l : Leg} {k : Nat}
    (distance : d.eventDistance l = some k) : 1 ≤ k ∧ k < d.gaitRecord.n := by
  unfold eventDistance at distance
  cases point : d.eventPoint l with
  | none => rw [point] at distance; cases distance
  | some p =>
    rw [point] at distance
    dsimp only at distance
    split at distance
    · cases distance
    next other =>
      obtain rfl := Option.some.inj distance
      exact ⟨Nat.one_le_iff_ne_zero.mpr other, Nat.mod_lt _ (by omega)⟩

theorem advanceOf_of_stopped {d : Device} (stops : d.stopPending = true) (rest : ¬ ∃ l, d.legState l = .swing)
    (step : Nat) : d.advanceOf step = 0 :=
  if_pos ⟨stops, fun swings => rest (d.anySwings_iff.mp swings)⟩

theorem advanceOf_of_moving {d : Device} (moves : ¬ (d.stopPending = true ∧ ¬ ∃ l, d.legState l = .swing)) (step : Nat) :
    d.advanceOf step = (Leg.all.filterMap d.eventDistance).foldl min step :=
  if_neg fun ⟨stops, rest⟩ => moves ⟨stops, fun swings => rest (d.anySwings_iff.mpr swings)⟩

theorem mem_distances (d : Device) (k : Nat) :
    k ∈ Leg.all.filterMap d.eventDistance ↔ ∃ l, d.eventDistance l = some k := by
  simp [List.mem_filterMap, Leg.mem_all]

/-! ## The stages 1 to 3 (R11, R14, R16, R25, R41) -/

theorem liftPointsUnderfoot_of_stop {d : Device} (stops : d.stopPending = true) : d.liftPointsUnderfoot = d := if_pos stops

theorem liftPointsUnderfoot_of_walk {d : Device} (walks : ¬ d.stopPending = true) : d.liftPointsUnderfoot
    = d.mapLegs fun l r => if r.state = .stance ∧ (d.gaitLeg l).liftPoint = d.gpe.phase then liftWaitRecord r else r :=
  if_neg walks

theorem liftPointsUnderfoot_leg {d : Device} (walks : ¬ d.stopPending = true) (l : Leg) : d.liftPointsUnderfoot.leg l
    = if (d.leg l).state = .stance ∧ (d.gaitLeg l).liftPoint = d.gpe.phase then liftWaitRecord (d.leg l) else d.leg l := by
  rw [liftPointsUnderfoot_of_walk walks]
  exact mapLegs_leg _ d l

theorem liftPointsUnderfoot_frame_eq (d : Device) :
    d.liftPointsUnderfoot = { d with gpe := { d.gpe with legs := d.liftPointsUnderfoot.gpe.legs } } := by
  unfold liftPointsUnderfoot
  split <;> rfl

theorem stageAdoption_of_none {d : Device} (kept : d.gpe.waiting = none ∨ ¬ ∀ l, d.legState l = .stance) :
    d.stageAdoption = d := by
  unfold stageAdoption
  cases waiting : d.gpe.waiting with
  | none => rfl
  | some g =>
    refine if_neg fun all => ?_
    exact (kept.resolve_left (by rw [waiting]; simp)) (d.allInStance_iff.mp all)

theorem stageAdoption_of_some {d : Device} {g : Fin 8} (waiting : d.gpe.waiting = some g)
    (together : ∀ l, d.legState l = .stance) : d.stageAdoption
      = if (d.tbs.gaitAt g).valid then (d.adopt g).liftPointsUnderfoot else d.refuseGait := by
  unfold stageAdoption
  rw [waiting]
  exact if_pos (d.allInStance_iff.mpr together)

theorem stageAdoption_mhu (d : Device) : d.stageAdoption.mhu = d.mhu := by
  unfold stageAdoption
  split
  · rfl
  · split
    · split
      · rw [liftPointsUnderfoot_frame_eq]
        rfl
      · rfl
    · rfl

theorem liftPointsUnderfoot_mhu (d : Device) : d.liftPointsUnderfoot.mhu = d.mhu := by
  rw [liftPointsUnderfoot_frame_eq]

theorem stagePermission_of_walk {d : Device} (walks : ¬ d.stopPending = true) :
    d.stagePermission = Leg.all.foldl (fun d l => d.tryLift l) d := if_neg walks

theorem stagePermission_of_stop {d : Device} (stops : d.stopPending = true) :
    d.stagePermission = d.returnWaiting.completeStop := if_pos stops

theorem completeStop_of_done {d : Device} (stops : d.stopPending = true) (together : ∀ l, d.legState l = .stance) :
    d.completeStop = d.enterStand := by
  unfold completeStop
  rw [stops, d.allInStance_iff.mpr together]
  rfl

theorem completeStop_of_not {d : Device} (open_ : ¬ (d.stopPending = true ∧ ∀ l, d.legState l = .stance)) :
    d.completeStop = d := by
  refine if_neg fun done => open_ ?_
  rw [Bool.and_eq_true] at done
  exact ⟨done.1, d.allInStance_iff.mp done.2⟩

end Device

end Sys2Proof.Machine
end

section
/-!
PROOFS. The judgements of a phase step (O53): a step from WALK with no hold takes at most one hold, after which no leg is
in SWING or LANDING; what each judgement makes of its own leg and of the others.
-/

namespace Sys2Proof.Machine

namespace Device

/-! ## Walking, and held by one hold -/

/-- WALK with no hold on the stack. -/
def walking (d : Device) : Prop := d.mhu.mode = .walk ∧ d.mhu.stack = []

/-- HOLD with no leg in the air on its own. -/
def holding (d : Device) : Prop := d.mhu.mode = .hold ∧ ∀ l, d.legState l ≠ .swing ∧ d.legState l ≠ .landing

/-- A phase step's device: walking, or held by the hold that the step took. -/
def stepping (d : Device) : Prop := d.walking ∨ d.holding

theorem walking_mode {d : Device} (h : d.walking) : d.mhu.mode ≠ .hold := by
  rw [h.1]
  decide

/-- What the judgement of one leg makes of another: its state and progress stand, or a hold sets it down. -/
def LegKept (d e : Device) (l : Leg) : Prop :=
  (e.legState l = d.legState l ∧ (e.leg l).progress = (d.leg l).progress)
  ∨ (d.legState l = .swing ∨ d.legState l = .landing) ∧ e.legState l = .setDown ∧ e.mhu.mode = .hold

/-- What the judgement of a leg makes of it (R26, R33). -/
structure LegJudged (d e : Device) (l : Leg) : Prop where
  stance : d.legState l = .stance → e.legState l = .liftWait ∨ e.legState l = .swing
    ∨ e.legState l = .setDown ∧ e.mhu.mode = .hold
  swing : d.legState l = .swing → (e.legState l = if d.contact l = .present then .stance else .landing)
    ∨ e.legState l = .setDown ∧ e.mhu.mode = .hold
  other : d.legState l ≠ .stance → d.legState l ≠ .swing → LegKept d e l

/-- What every part of a phase step keeps. -/
structure StepKept (d e : Device) : Prop where
  stepping : e.stepping
  hold : d.mhu.mode = .hold → e.mhu.mode = .hold
  phase : e.gpe.phase = d.gpe.phase
  cfl : e.cfl = d.cfl

theorem StepKept.trans {d e f : Device} (first : StepKept d e) (second : StepKept e f) : StepKept d f :=
  ⟨second.stepping, fun h => second.hold (first.hold h), second.phase.trans first.phase, second.cfl.trans first.cfl⟩

theorem LegKept.refl (d : Device) (l : Leg) : LegKept d d l := .inl ⟨rfl, rfl⟩

theorem LegKept.of_leg {d e : Device} {l : Leg} (same : e.leg l = d.leg l) : LegKept d e l :=
  .inl ⟨congrArg LegRecord.state same, congrArg LegRecord.progress same⟩

theorem LegKept.trans {d e f : Device} {l : Leg} (first : LegKept d e l) (second : LegKept e f l)
    (hold : e.mhu.mode = .hold → f.mhu.mode = .hold) : LegKept d f l := by
  rcases first with ⟨state, progress⟩ | ⟨away, down, held⟩
  · rcases second with ⟨state', progress'⟩ | ⟨away', set⟩
    · exact .inl ⟨state'.trans state, progress'.trans progress⟩
    · rw [state] at away'
      exact .inr ⟨away', set⟩
  · rcases second with ⟨state', -⟩ | ⟨away', -⟩
    · exact .inr ⟨away, state'.trans down, hold held⟩
    · rw [down] at away'
      rcases away' with h | h <;> cases h

/-- A hold taken after a leg has been judged sets it down, or leaves it. -/
theorem LegJudged.then_kept {d e f : Device} {l : Leg} (first : LegJudged d e l) (second : LegKept e f l)
    (hold : e.mhu.mode = .hold → f.mhu.mode = .hold) : LegJudged d f l where
  stance h := by
    rcases second with ⟨state, -⟩ | ⟨-, set⟩
    · rw [state]
      exact (first.stance h).imp_right fun h => h.imp_right fun ⟨down, held⟩ => ⟨down, hold held⟩
    · exact .inr (.inr set)
  swing h := by
    rcases second with ⟨state, -⟩ | ⟨-, set⟩
    · rw [state]
      exact (first.swing h).imp_right fun ⟨down, held⟩ => ⟨down, hold held⟩
    · exact .inr set
  other stance swing := (first.other stance swing).trans second hold

/-- A leg that the judgements before its own have left, or set down. -/
theorem LegKept.then_judged {d e f : Device} {l : Leg} (first : LegKept d e l) (second : LegJudged e f l)
    (hold : e.mhu.mode = .hold → f.mhu.mode = .hold) (contact : e.contact l = d.contact l) : LegJudged d f l := by
  rcases first with ⟨state, progress⟩ | ⟨away, down, held⟩
  · refine ⟨fun h => second.stance (state.trans h), fun h => ?_, fun stance swing => ?_⟩
    · rw [← contact]
      exact second.swing (state.trans h)
    · exact LegKept.trans (.inl ⟨state, progress⟩) (second.other (by rwa [state]) (by rwa [state])) hold
  · have kept := second.other (by rw [down]; decide) (by rw [down]; decide)
    have set : f.legState l = .setDown := by
      rcases kept with ⟨state, -⟩ | ⟨-, set, -⟩
      · exact state.trans down
      · exact set
    refine ⟨fun h => ?_, fun _ => .inr ⟨set, hold held⟩, fun _ _ => .inr ⟨away, set, hold held⟩⟩
    rw [h] at away
    rcases away with h | h <;> cases h

/-! ## The hold that a step takes (R106, R139) -/

/-- What a NODE request from WALK does: HOLD, with the legs in the air set down. -/
theorem nodeRequest_of_walking {d : Device} (walks : d.walking) (n : Node) (why : NodeReason) :
    let e := d.request (.node n why)
    e.holding ∧ e.gpe.phase = d.gpe.phase ∧ ∀ l, LegKept d e l := by
  obtain ⟨mode, -, -, phase, -, -, -, converted⟩ := request_pushes (q := .node n why) (d := d)
    (by rw [walks.1]; decide) (by rw [walks.2]; simp) (by rw [walks.2]; decide)
  have legs := (converted (walking_mode walks)).1
  have held (l : Leg) := heldLeg_of_request (.node n why) l (d.leg l)
  intro e
  have leg (l : Leg) : e.leg l = _ := (legs l).trans (held l)
  refine ⟨⟨mode, fun l => ?_⟩, phase, fun l => ?_⟩
  · unfold legState
    rw [leg]
    cases state : (d.leg l).state <;> simp [state]
  · cases state : (d.leg l).state with
    | swing | landing =>
      refine .inr ⟨by unfold legState; simp [state], ?_, mode⟩
      unfold legState
      rw [leg]
      simp [state]
    | stance | liftWait | setDown | hang | unset =>
      refine .of_leg ?_
      rw [leg]
      simp [state]

/-- The judgement of a foot node as its leg enters the air, in a phase step. -/
theorem footEntryJudgement_kept {d : Device} (walks : d.walking) (l : Leg) :
    StepKept d (d.footEntryJudgement l) ∧ ∀ m, LegKept d (d.footEntryJudgement l) m := by
  have still : StepKept d d := ⟨.inl walks, id, rfl, rfl⟩
  have reacted (why : NodeReason) : StepKept d (d.footReaction l why) ∧ ∀ m, LegKept d (d.footReaction l why) m := by
    unfold footReaction
    split
    · obtain ⟨holds, phase, legs⟩ := nodeRequest_of_walking walks ⟨l, .foot⟩ why
      exact ⟨⟨.inr holds, fun _ => holds.1, phase, (request_frame _ d).2.2.1⟩, legs⟩
    · exact ⟨⟨.inl walks, id, rfl, rfl⟩, fun m => .of_leg rfl⟩
  unfold footEntryJudgement
  split
  · exact reacted .lost
  · split
    · exact reacted .fault
    · exact ⟨still, fun m => .refl d m⟩

/-! ## The attempts and the judgements (R26, R29, R33, R34) -/

/-- A change of one leg's record alone, in WALK. -/
theorem modLeg_kept {d e : Device} {l : Leg} {f : LegRecord → LegRecord} (walks : d.walking)
    (gpe : e.gpe = (d.modLeg l f).gpe) (mhu : e.mhu = d.mhu) (cfl : e.cfl = d.cfl) :
    StepKept d e ∧ (∀ m, m ≠ l → LegKept d e m) ∧ e.leg l = f (d.leg l) ∧ e.walking := by
  have walks' : e.walking := by
    unfold walking
    rw [mhu]
    exact walks
  refine ⟨⟨.inl walks', by rw [mhu]; exact id, (congrArg GaitEngine.phase gpe).trans rfl, cfl⟩, fun m other => .of_leg ?_, ?_,
    walks'⟩
  · exact (leg_of_gpe gpe m).trans (modLeg_leg_ne f d other)
  · exact (leg_of_gpe gpe l).trans (modLeg_leg_self l f d)

/-- A leg taken into the air in WALK, and the judgement of its foot node (R29, R33, R139). -/
theorem entryToAir_kept {d e : Device} {l : Leg} {f : LegRecord → LegRecord} (walks : d.walking)
    (gpe : e.gpe = (d.modLeg l f).gpe) (mhu : e.mhu = d.mhu) (cfl : e.cfl = d.cfl) :
    StepKept d (e.footEntryJudgement l) ∧ (∀ m, m ≠ l → LegKept d (e.footEntryJudgement l) m)
    ∧ ((e.footEntryJudgement l).legState l = (f (d.leg l)).state
        ∨ (e.footEntryJudgement l).legState l = .setDown ∧ (e.footEntryJudgement l).mhu.mode = .hold) := by
  obtain ⟨kept, legs, leg, walks'⟩ := modLeg_kept walks gpe mhu cfl
  obtain ⟨judged, legs'⟩ := footEntryJudgement_kept walks' l
  refine ⟨kept.trans judged, fun m other => (legs m other).trans (legs' m) judged.hold, ?_⟩
  rcases legs' l with ⟨state, -⟩ | ⟨-, set⟩
  · exact .inl (state.trans (congrArg LegRecord.state leg))
  · exact .inr set

/-- A permission attempt in a phase step. -/
theorem tryLift_kept {d : Device} (steps : d.stepping) (l : Leg) : StepKept d (d.tryLift l)
    ∧ (∀ m, m ≠ l → LegKept d (d.tryLift l) m)
    ∧ (d.legState l = .liftWait → (d.tryLift l).legState l = .liftWait ∨ (d.tryLift l).legState l = .swing
        ∨ (d.tryLift l).legState l = .setDown ∧ (d.tryLift l).mhu.mode = .hold) := by
  have still {e : Device} (gpe : e.gpe = d.gpe) (mhu : e.mhu = d.mhu) (cfl : e.cfl = d.cfl) : StepKept d e
      ∧ (∀ m, m ≠ l → LegKept d e m)
      ∧ (d.legState l = .liftWait → e.legState l = .liftWait ∨ e.legState l = .swing
          ∨ e.legState l = .setDown ∧ e.mhu.mode = .hold) := by
    have leg (m : Leg) : e.leg m = d.leg m := leg_of_gpe gpe m
    have state (m : Leg) : e.legState m = d.legState m := congrArg LegRecord.state (leg m)
    refine ⟨⟨?_, by rw [mhu]; exact id, by rw [gpe], cfl⟩, fun m _ => .of_leg (leg m), fun h => .inl ((state l).trans h)⟩
    unfold stepping walking holding
    simp only [mhu, state]
    exact steps
  rcases steps with walks | holds
  · by_cases asks : d.mayAskToLift l = true
    · rcases lt_or_ge (d.marginWithout l).value d.gaitRecord.mLift with short | wide
      · rw [tryLift_of_short asks short, askMargin_frame_eq]
        exact still rfl rfl rfl
      · rw [tryLift_of_margin asks wide, askMargin_frame_eq]
        obtain ⟨kept, legs, own⟩ := entryToAir_kept (l := l) (f := liftedLeg (d.contact l) (d.lastPose l))
          (e := modLeg l (liftedLeg (d.contact l) (d.lastPose l)) { d with eeu := (d.askMargin l).2.eeu })
          walks rfl rfl rfl
        exact ⟨kept, legs, fun _ => .inr own⟩
    · rw [tryLift_of_barred asks]
      exact still rfl rfl rfl
  · rw [tryLift_of_not_walk l d (by rw [holds.1]; decide)]
    exact still rfl rfl rfl

/-- The judgement of one leg at the stopping point (R11 stage 6, R33). -/
theorem judgeAtPoint_kept {d : Device} (steps : d.stepping) (l : Leg) : StepKept d (d.judgeAtPoint l)
    ∧ (∀ m, m ≠ l → LegKept d (d.judgeAtPoint l) m) ∧ LegJudged d (d.judgeAtPoint l) l := by
  have still : StepKept d d := ⟨steps, id, rfl, rfl⟩
  unfold judgeAtPoint
  cases state : d.legState l with
  | stance =>
    have waits : StepKept d (d.enterLiftWait l) ∧ (∀ m, m ≠ l → LegKept d (d.enterLiftWait l) m) := by
      have states (m : Leg) : (d.enterLiftWait l).legState m = if m = l then .liftWait else d.legState m := by
        split
        next same => rw [same]; exact congrArg LegRecord.state (modLeg_leg_self l liftWaitRecord d)
        next other => exact congrArg LegRecord.state (modLeg_leg_ne liftWaitRecord d other)
      refine ⟨⟨steps.imp id fun ⟨mode, legs⟩ => ⟨mode, fun m => ?_⟩, id, rfl, rfl⟩,
        fun m other => .of_leg (modLeg_leg_ne _ d other)⟩
      rw [states]
      split
      · decide
      · exact legs m
    have waiting : (d.enterLiftWait l).legState l = .liftWait :=
      congrArg LegRecord.state (modLeg_leg_self l liftWaitRecord d)
    obtain ⟨kept, legs, own⟩ := tryLift_kept waits.1.stepping l
    exact ⟨waits.1.trans kept, fun m other => (waits.2 m other).trans (legs m other) kept.hold,
      fun _ => own waiting, fun h => absurd (state.symm.trans h) (by decide), fun h => absurd state h⟩
  | swing =>
    have walks : d.walking := steps.resolve_right fun holds => (holds.2 l).1 state
    dsimp only
    split
    next present =>
      refine ⟨⟨.inl walks, id, rfl, rfl⟩, fun m other => .inl ⟨by rw [touchDown_legState, if_neg other], ?_⟩,
        fun h => absurd (state.symm.trans h) (by decide), fun _ => .inl ?_, fun _ h => absurd state h⟩
      · rw [touchDown_leg, if_neg other]
        split <;> rfl
      · rw [touchDown_legState, if_pos rfl, if_pos present]
    next absent =>
      obtain ⟨kept, legs, own⟩ := entryToAir_kept (d := d) (l := l) (e := d.modLeg l fun r =>
        { r with state := .landing, landing := 0, progress := none }) walks rfl rfl rfl
      exact ⟨kept, legs, fun h => absurd (state.symm.trans h) (by decide), fun _ => by rw [if_neg absent]; exact own,
        fun _ h => absurd state h⟩
  | liftWait | landing | setDown | hang | unset =>
    exact ⟨still, fun m _ => .refl d m, fun h => absurd (state.symm.trans h) (by decide), fun h => absurd (state.symm.trans h) (by decide),
      fun _ _ => .refl d l⟩

/-- The judgements of several legs, one after the other. -/
theorem judgeAtPoints_kept (ls : List Leg) {d : Device} (steps : d.stepping) (once : ls.Nodup) :
    StepKept d (ls.foldl (fun d l => d.judgeAtPoint l) d)
    ∧ (∀ m, m ∉ ls → LegKept d (ls.foldl (fun d l => d.judgeAtPoint l) d) m)
    ∧ ∀ m, m ∈ ls → LegJudged d (ls.foldl (fun d l => d.judgeAtPoint l) d) m := by
  induction ls generalizing d with
  | nil => exact ⟨⟨steps, id, rfl, rfl⟩, fun m _ => .refl d m, fun m mem => by cases mem⟩
  | cons l ls ih =>
    obtain ⟨absent, once⟩ := List.nodup_cons.mp once
    obtain ⟨kept, legs, own⟩ := judgeAtPoint_kept steps l
    obtain ⟨rest, others, judged⟩ := ih kept.stepping once
    rw [List.foldl_cons]
    refine ⟨kept.trans rest, fun m away => ?_, fun m mem => ?_⟩
    · obtain ⟨other, away⟩ : m ≠ l ∧ m ∉ ls := by simpa using away
      exact (legs m other).trans (others m away) rest.hold
    · by_cases same : m = l
      · subst same
        exact own.then_kept (others m absent) rest.hold
      · refine (legs m same).then_judged (judged m ((List.mem_cons.mp mem).resolve_left same)) rest.hold ?_
        unfold contact
        rw [kept.cfl]

/-- The attempts of several legs, one after the other. -/
theorem tryLifts_kept (ls : List Leg) {d : Device} (steps : d.stepping) :
    StepKept d (ls.foldl (fun d l => d.tryLift l) d) := by
  induction ls generalizing d with
  | nil => exact ⟨steps, id, rfl, rfl⟩
  | cons l ls ih =>
    obtain ⟨kept, -⟩ := tryLift_kept steps l
    exact kept.trans (ih kept.stepping)

end Device

end Sys2Proof.Machine
end

section
/-!
PROOFS. The advance of the master and the phase step as a whole (O53).
-/

namespace Sys2Proof.Machine

namespace Device

/-! ## The advance (R11 stage 5, R13) -/

theorem advanceBy_leg (d : Device) (k : Nat) (l : Leg) : (d.advanceBy k).leg l
    = if (d.leg l).state = .swing then { d.leg l with progress := (d.leg l).progress.map (· + k) } else d.leg l :=
  mapLegs_leg _ d l

theorem advanceBy_legState (d : Device) (k : Nat) (l : Leg) : (d.advanceBy k).legState l = d.legState l := by
  unfold legState
  rw [advanceBy_leg]
  split <;> rfl

theorem stalled_iff (d : Device) :
    d.stalled = true ↔ ∃ l, d.legState l = .liftWait ∨ d.legState l = .landing := by
  unfold stalled
  simp only [List.any_eq_true, Bool.or_eq_true, decide_eq_true_eq, Leg.mem_all, true_and]

/-- The legs judged at the stopping point (R11 stage 6). -/
def stoppingLegs (d : Device) (k : Nat) : List Leg := Leg.all.filter fun l => d.eventDistance l = some k

theorem mem_stoppingLegs (d : Device) (k : Nat) (l : Leg) : l ∈ d.stoppingLegs k ↔ d.eventDistance l = some k := by
  simp [stoppingLegs, Leg.mem_all]

/-- The device once every leg at the stopping point has been judged. -/
def judgedAt (d : Device) (k : Nat) : Device := (d.stoppingLegs k).foldl (fun d l => d.judgeAtPoint l) (d.advanceBy k)

theorem stageAdvance_eq (d : Device) (step : Nat) :
    d.stageAdvance step = (d.judgedAt (d.advanceOf step)).completeStop := rfl

/-- The judgements at the stopping point, seen from the device before the advance. -/
theorem judgedAt_kept {d : Device} (walks : d.walking) (k : Nat) : StepKept (d.advanceBy k) (d.judgedAt k)
    ∧ (∀ l, d.eventDistance l ≠ some k → LegKept (d.advanceBy k) (d.judgedAt k) l)
    ∧ ∀ l, d.eventDistance l = some k → LegJudged (d.advanceBy k) (d.judgedAt k) l := by
  obtain ⟨kept, others, judged⟩ := judgeAtPoints_kept (d.stoppingLegs k) (d := d.advanceBy k) (.inl walks)
    (List.Nodup.filter _ (by decide))
  exact ⟨kept, fun l away => others l fun mem => away ((d.mem_stoppingLegs k l).mp mem),
    fun l at_ => judged l ((d.mem_stoppingLegs k l).mpr at_)⟩

/-- A stop that completes finds every leg in STANCE and leaves STAND; otherwise nothing happens (R41). -/
theorem completeStop_cases (d : Device) : (d.completeStop = d ∧ ¬ (d.stopPending = true ∧ ∀ l, d.legState l = .stance))
    ∨ ((∀ l, d.legState l = .stance) ∧ d.completeStop.mhu.mode = .stand
      ∧ ∀ l, d.completeStop.legState l = .stance) := by
  by_cases done : d.stopPending = true ∧ ∀ l, d.legState l = .stance
  · obtain ⟨stops, together⟩ := done
    have mode : d.completeStop.mhu.mode = .stand := by
      rw [completeStop_of_done stops together, enterStand_mhu]
    exact .inr ⟨together, mode, fun l => (d.completeStop_leg l).1.trans (together l)⟩
  · exact .inl ⟨completeStop_of_not done, done⟩

/-! ## The phase step (R9 to R14) -/

/-- The device of a phase step after its stages 1 to 3. -/
def permitted (d : Device) : Device := d.stageAdoption.liftPointsUnderfoot.stagePermission

theorem stepInWalk_of_walk {d : Device} (walk : d.mhu.mode = .walk) (step : Nat) : d.stepInWalk step =
    if d.permitted.mhu.mode ≠ .walk then d.permitted
    else if d.permitted.stalled then d.permitted
    else d.permitted.stageAdvance (d.permitted.effectiveStep step) := if_pos walk

theorem underfoot_mhu (d : Device) : d.stageAdoption.liftPointsUnderfoot.mhu = d.mhu := by
  rw [liftPointsUnderfoot_mhu, stageAdoption_mhu]

/-- Stages 1 to 3 leave WALK only with no hold on the stack. -/
theorem permitted_walking {d : Device} (walks : d.walking) (walk : d.permitted.mhu.mode = .walk) : d.permitted.walking := by
  obtain ⟨x, underfoot⟩ : ∃ x, x = d.stageAdoption.liftPointsUnderfoot := ⟨_, rfl⟩
  have walks' : x.walking := by
    rw [underfoot]
    unfold walking
    rw [underfoot_mhu]
    exact walks
  unfold permitted at walk ⊢
  rw [← underfoot] at walk ⊢
  by_cases stops : x.stopPending = true
  · rw [stagePermission_of_stop stops] at walk ⊢
    rcases x.returnWaiting.completeStop_cases with ⟨same, -⟩ | ⟨-, mode, -⟩
    · rw [same]
      exact walks'
    · rw [mode] at walk
      cases walk
  · rw [stagePermission_of_walk stops] at walk ⊢
    refine (tryLifts_kept Leg.all (d := x) (.inl walks')).stepping.resolve_right fun holds => ?_
    rw [holds.1] at walk
    cases walk

/-- A stop pending through the stages 1 to 3 leaves a leg out of STANCE, or is complete. -/
theorem permitted_of_stop {d : Device} (stops : d.stopPending = true) (walk : d.permitted.mhu.mode = .walk) :
    ∃ l, d.permitted.legState l ≠ .stance := by
  obtain ⟨x, underfoot⟩ : ∃ x, x = d.stageAdoption.liftPointsUnderfoot := ⟨_, rfl⟩
  have stops' : x.stopPending = true := by
    rw [stopPending_iff, underfoot, underfoot_mhu]
    exact d.stopPending_iff.mp stops
  unfold permitted at walk ⊢
  rw [← underfoot, stagePermission_of_stop stops'] at walk ⊢
  rcases x.returnWaiting.completeStop_cases with ⟨same, standing⟩ | ⟨-, mode, -⟩
  · rw [same]
    exact not_forall.mp fun together => standing ⟨stops', together⟩
  · rw [mode] at walk
    cases walk

/-- With a stop pending a step in WALK that leaves WALK leaves a leg out of STANCE (R41). -/
theorem stepInWalk_unfinished {d : Device} (step : Nat) (walk : d.mhu.mode = .walk)
    (walks : (d.stepInWalk step).mhu.mode = .walk) (stops : (d.stepInWalk step).mhu.walkFlag = false) :
    ∃ l, (d.stepInWalk step).legState l ≠ .stance := by
  have flag : d.mhu.walkFlag = false := (stepInWalk_keeps step d).1.symm.trans stops
  have pending := d.stopPending_iff.mpr ⟨walk, flag⟩
  rw [stepInWalk_of_walk walk] at walks stops ⊢
  split at walks
  next away => exact absurd walks away
  next stays =>
    rw [if_neg stays] at stops ⊢
    split at walks
    next stalls =>
      rw [if_pos stalls]
      exact permitted_of_stop pending (not_not.mp stays)
    next moves =>
      rw [if_neg moves] at stops ⊢
      rw [stageAdvance_eq] at walks stops ⊢
      rcases (d.permitted.judgedAt _).completeStop_cases with ⟨same, standing⟩ | ⟨-, mode, -⟩
      · rw [same] at walks stops ⊢
        exact not_forall.mp fun together => standing ⟨(stopPending_iff _).mpr ⟨walks, stops⟩, together⟩
      · rw [mode] at walks
        cases walks

/-- The advance of a phase step and what it leaves of every leg (R10, R11, R13, R26, R33). -/
theorem stageAdvance_moves {d : Device} (walks : d.walking) (step : Nat) :
    let e := d.stageAdvance step
    let k := d.advanceOf step
    (e.gpe.phase = (d.gpe.phase + k) % d.gaitRecord.n ∨ e.mhu.mode = .stand)
    ∧ (∀ l, d.legState l = .swing → e.legState l = .swing → (e.leg l).progress = (d.leg l).progress.map (· + k))
    ∧ (∀ l, d.eventDistance l = some k →
        (d.legState l = .stance → e.legState l = .liftWait ∨ e.legState l = .swing
          ∨ (e.legState l = .setDown ∧ e.mhu.mode = .hold))
        ∧ (d.legState l = .swing → (e.legState l = if d.contact l = .present then .stance else .landing)
          ∨ (e.legState l = .setDown ∧ e.mhu.mode = .hold)))
    ∧ (∀ l, d.eventDistance l ≠ some k → d.legState l ≠ .landing → e.legState l = d.legState l
        ∨ (d.legState l = .swing ∧ e.legState l = .setDown ∧ e.mhu.mode = .hold)) := by
  intro e k
  obtain ⟨kept, others, judged⟩ := judgedAt_kept walks k
  have ended : e = (d.judgedAt k).completeStop := rfl
  clear_value e
  obtain ⟨y, judgedY⟩ : ∃ y, y = d.judgedAt k := ⟨_, rfl⟩
  rw [← judgedY] at kept others judged ended
  have states (l : Leg) : e.legState l = y.legState l := by
    rw [ended]
    exact (y.completeStop_leg l).1
  have held (hold : y.mhu.mode = .hold) : e.mhu.mode = .hold := by
    have same : y.completeStop = y := completeStop_of_not fun done => by
      have walk := (y.stopPending_iff.mp done.1).1
      rw [hold] at walk
      cases walk
    rw [ended, same]
    exact hold
  refine ⟨?_, fun l swings aloft => ?_, fun l at_ => ⟨fun stands => ?_, fun swings => ?_⟩, fun l away airborne => ?_⟩
  · rcases y.completeStop_cases with ⟨same, -⟩ | ⟨-, mode, -⟩
    · rw [ended, same]
      exact .inl kept.phase
    · rw [ended]
      exact .inr mode
  · have aloft : y.legState l = .swing := (states l).symm.trans aloft
    have same : e = y := by
      rw [ended]
      exact completeStop_of_away (l := l) (by rw [aloft]; decide)
    have unjudged : d.eventDistance l ≠ some k := fun at_ => by
      rcases (judged l at_).swing ((d.advanceBy_legState k l).trans swings) with state | ⟨down, -⟩
      · rw [aloft] at state
        split at state
        · cases state
        · cases state
      · cases aloft.symm.trans down
    rcases others l unjudged with ⟨-, progress⟩ | ⟨-, down, -⟩
    · rw [same, progress, advanceBy_leg]
      exact (congrArg LegRecord.progress (if_pos swings)).trans rfl
    · cases aloft.symm.trans down
  · rw [states]
    exact ((judged l at_).stance ((d.advanceBy_legState k l).trans stands)).imp_right fun h =>
      h.imp_right fun ⟨down, hold⟩ => ⟨down, held hold⟩
  · rw [states]
    exact ((judged l at_).swing ((d.advanceBy_legState k l).trans swings)).imp_right fun ⟨down, hold⟩ => ⟨down, held hold⟩
  · rw [states]
    rcases others l away with ⟨state, -⟩ | ⟨aloft, down, hold⟩
    · exact .inl (state.trans (d.advanceBy_legState k l))
    · rw [advanceBy_legState] at aloft
      exact .inr ⟨aloft.resolve_right airborne, down, held hold⟩

/-- A gait adopted at stage 1, with the lift points that are then underfoot (R16). -/
theorem adopted_underfoot (d : Device) (g : Fin 8) (all : ∀ l, d.legState l = .stance) :
    let a := (d.adopt g).liftPointsUnderfoot
    a.gpe = { (d.adopt g).gpe with legs := a.gpe.legs } ∧ a.mhu = d.mhu
    ∧ a.factor .gaitAdopted = d.raisedOnce .gaitAdopted
    ∧ ∀ l, a.leg l = if ¬ d.stopPending = true
          ∧ ((d.tbs.gaitAt g).record.legs.get l).liftPoint = (d.tbs.gaitAt g).record.e
        then { d.leg l with partnerLatch := true, state := .liftWait, wait := 0 }
        else { d.leg l with partnerLatch := true } := by
  have factor : (d.adopt g).liftPointsUnderfoot.factor .gaitAdopted = d.raisedOnce .gaitAdopted := by
    rw [liftPointsUnderfoot_frame_eq]
    exact d.adopt_factor g .gaitAdopted
  refine ⟨?_, (d.adopt g).liftPointsUnderfoot_mhu, factor, fun l => ?_⟩
  · rw [liftPointsUnderfoot_frame_eq]
  · by_cases stops : d.stopPending = true
    · rw [liftPointsUnderfoot_of_stop (d := d.adopt g) stops, if_neg fun h => h.1 stops, adopt_leg]
    · rw [liftPointsUnderfoot_leg (d := d.adopt g) stops, adopt_leg]
      refine if_congr ?_ rfl rfl
      exact ⟨fun h => ⟨stops, h.2⟩, fun h => ⟨all l, h.2⟩⟩

end Device

/-- Settles O53: the ring arithmetic of the advance, the stages, and the judgements of one phase step. -/
theorem advanceSkipsNoEventPoint : Obligations.AdvanceSkipsNoEventPoint := by
  refine ⟨fun d step => ?_, fun d => ?_, fun d step walk empty => ?_⟩
  · intro stop swings n point dist
    have stop_iff : d.stopPending = true ↔ stop := d.stopPending_iff
    have points (l : Leg) : d.eventPoint l = point l := d.eventPoint_eq l
    refine ⟨rfl, d.derate_iff, points, fun stops rest => Device.advanceOf_of_stopped (stop_iff.mpr stops) rest step,
      fun ring onRing => ?_⟩
    have distance (l : Leg) : d.eventDistance l = dist l := by
      show _ = (point l).bind _
      rw [← points]
      exact Device.eventDistance_eq ring fun p at_ => onRing l p ((points l).symm.trans at_)
    refine ⟨fun l => ⟨distance l, fun k at_ => Device.eventDistance_range ring ((distance l).trans at_)⟩, fun moves => ?_⟩
    have advance := Device.advanceOf_of_moving (d := d) (by rw [stop_iff]; exact moves) step
    refine ⟨fun beyond => ?_, fun l k at_ within least => ?_⟩
    · rw [advance]
      refine foldl_min_eq_bound fun k mem => ?_
      obtain ⟨l, at_⟩ := (d.mem_distances k).mp mem
      exact (beyond l k ((distance l).symm.trans at_)).le
    · rw [advance]
      refine foldl_min_eq_least ((d.mem_distances k).mpr ⟨l, (distance l).trans at_⟩) within fun i mem => ?_
      obtain ⟨m, at_⟩ := (d.mem_distances i).mp mem
      exact least m i ((distance m).symm.trans at_)
  · intro stop together a u r
    have stop_iff : d.stopPending = true ↔ stop := d.stopPending_iff
    have returned : r = d.returnWaiting := rfl
    have returnedStop : r.stopPending = true ↔ stop := stop_iff
    refine ⟨Device.stageAdoption_of_none, fun g waiting all => ?_, fun stops => Device.liftPointsUnderfoot_of_stop (stop_iff.mpr stops),
      fun moves => ⟨d.liftPointsUnderfoot_frame_eq, Device.liftPointsUnderfoot_leg (by rwa [stop_iff])⟩,
      fun moves => Device.stagePermission_of_walk (by rwa [stop_iff]), fun stops standing => ?_, fun stops away => ?_,
      fun stops all => Device.completeStop_of_done (stop_iff.mpr stops) all,
      fun open_ => Device.completeStop_of_not (by rwa [stop_iff]), fun step other => Device.stepInWalk_of_not_walk other step⟩
    · have adoption := Device.stageAdoption_of_some waiting all
      refine ⟨fun valid => ?_, fun invalid => ?_⟩
      · have adopted : a = (d.adopt g).liftPointsUnderfoot := adoption.trans (if_pos valid)
        obtain ⟨gpe, mhu, factor, legs⟩ := d.adopted_underfoot g all
        rw [← adopted] at gpe mhu factor legs
        simp only [stop_iff] at legs
        rw [gpe]
        exact ⟨rfl, rfl, rfl, factor, mhu, legs⟩
      · have refused : a = d.refuseGait := adoption.trans (if_neg (by rw [invalid]; decide))
        rw [refused]
        exact ⟨rfl, d.refuseGait_factor .gaitRefused, rfl⟩
    · rw [Device.stagePermission_of_stop (stop_iff.mpr stops), ← returned]
      exact Device.completeStop_of_done (returnedStop.mpr stops) standing
    · rw [Device.stagePermission_of_stop (stop_iff.mpr stops), ← returned]
      exact Device.completeStop_of_not fun done => away.elim fun l other => other (done.2 l)
  · intro b e k waits
    have before : b = d.permitted := rfl
    have stepped : e = _ := Device.stepInWalk_of_walk walk step
    have waits_iff : b.stalled = true ↔ waits := b.stalled_iff
    refine ⟨Device.stepInWalk_unfinished step walk, fun stays => ?_, fun walks moves => ?_⟩
    · rw [stepped, ← before]
      by_cases away : b.mhu.mode = .walk
      · rw [if_neg (not_not.mpr away), if_pos (waits_iff.mpr (stays.resolve_left (not_not.mpr away)))]
      · rw [if_pos away]
    · have walks' : b.walking := Device.permitted_walking ⟨walk, empty⟩ walks
      have moved : e = b.stageAdvance (b.effectiveStep step) := by
        rw [stepped, ← before, if_neg (not_not.mpr walks), if_neg (by rwa [waits_iff])]
      obtain ⟨phase, progress, judged, others⟩ := Device.stageAdvance_moves walks' (b.effectiveStep step)
      rw [← moved] at phase progress judged others
      exact ⟨phase, progress, judged, fun l away => others l away fun lands => moves ⟨l, .inr lands⟩⟩

end Sys2Proof.Machine
end

section
/-!
PROOFS of the families of modes, holds, legs and the master phase (chapters 1, 2 and 6). What an operation can do to the
mode, the hold stack, the leg states and the engine is one of a dozen moves; every operation is shown to be made of them,
and the invariants of O56 and O57 are proved of the moves.
-/

namespace Sys2Proof.Machine

namespace Device

/-- The part stands, walks or holds. -/
def up (d : Device) : Prop := d.mhu.mode = .stand ∨ d.mhu.mode = .walk ∨ d.mhu.mode = .hold

/-- What an operation can do to the mode, the hold stack, the legs and the engine; nothing else of the device is read by
the invariants of the modes but the tables, which no move writes. -/
inductive Moves : Device → Device → Prop
  | quiet {d e : Device} (mhu : e.mhu = d.mhu) (gpe : e.gpe = d.gpe) (tbs : e.tbs = d.tbs) : Moves d e
  | trans {a b c : Device} (first : Moves a b) (second : Moves b c) : Moves a c
  /-- Frames since silence and the walk flag are written (R102, R104, R110). -/
  | count (d : Device) {n : Nat} (w : Bool) (bound : d.mhu.framesSinceSilence ≤ 2 → n ≤ 2) :
      Moves d { d with mhu := { d.mhu with framesSinceSilence := n, walkFlag := w } }
  /-- The lowering is complete (R101). -/
  | seat (d : Device) (mode : d.mhu.mode = .safeSit) : Moves d { d with mhu := { d.mhu with sit := some .seated } }
  /-- The part is taken to SAFE_SIT (R100). -/
  | sit (d : Device) (x : SitState) (mode : d.up) :
      Moves d (unsetLegs { d with mhu := { d.mhu with mode := .safeSit, sit := some x, stack := [] } })
  /-- A record is placed on a stack with room (R105). -/
  | push (d : Device) (h : Hold) (mode : d.up) (fresh : ∀ r ∈ d.mhu.stack, r.hold ≠ h)
      (room : d.mhu.stack.length < 4) : Moves d (d.pushRecord h)
  /-- A record leaves the stack, and others stay (R111). -/
  | pop (d : Device) (left : d.mhu.stack.dropLast ≠ []) :
      Moves d { d with mhu := { d.mhu with stack := d.mhu.stack.dropLast } }
  /-- Legs change within their mode. -/
  | legs (d : Device) (legs : PerLeg LegRecord)
      (fit : ∀ l, stateFits d.mhu.mode (d.legState l) = true → stateFits d.mhu.mode (legs.get l).state = true) :
      Moves d { d with gpe := { d.gpe with legs := legs } }
  /-- A valid gait is adopted (R16, R17). -/
  | adopt (d : Device) (g : Fin 8) (valid : (d.tbs.gaitAt g).valid = true)
      (mode : d.mhu.mode = .stand ∨ d.mhu.mode = .walk) : Moves d (d.adopt g)
  /-- A pending gait index ends (R15, R16). -/
  | unpend (d : Device) : Moves d { d with gpe := { d.gpe with waiting := none } }
  /-- A pending gait index is named (R15). -/
  | pend (d : Device) (g : Fin 8) (other : g ≠ d.gpe.current) (mode : d.mhu.mode = .walk ∨ d.mhu.mode = .hold) :
      Moves d { d with gpe := { d.gpe with waiting := some g } }
  /-- A gait index becomes current in UNARMED (R17). -/
  | index (d : Device) (g : Fin 8) (mode : d.mhu.mode = .unarmed) :
      Moves d { d with gpe := { d.gpe with current := g } }
  /-- STAND is entered, no hold left and no index pending, every leg in STANCE (R41, R112). -/
  | stand (d : Device) (legs : PerLeg LegRecord) (stack : List HoldRecord)
      (mode : d.mhu.mode = .walk ∨ d.mhu.mode = .hold)
      (empty : stack = [] ∨ (d.mhu.mode = .walk ∧ stack = d.mhu.stack))
      (fit : ∀ l, stateFits d.mhu.mode (d.legState l) = true → (legs.get l).state = .stance) :
      Moves d { d with mhu := { d.mhu with mode := .stand, stack := stack },
                       gpe := { d.gpe with waiting := none, legs := legs } }
  /-- A walk starts over a valid current record (R102). -/
  | start (d : Device) (mode : d.mhu.mode = .stand) (valid : d.gaitEntry.valid = true) : Moves d (d.setMode .walk)
  /-- A walk that a hold has broken off goes on, from a phase on the ring (R113). -/
  | resume (d : Device) (r : HoldRecord) (phase : Nat) (legs : PerLeg LegRecord) (mode : d.mhu.mode = .hold)
      (mem : r ∈ d.mhu.stack) (walked : r.modeAtPush = .walk) (known : phase = r.phase ∨ phase = d.gaitRecord.e)
      (fit : ∀ l, stateFits .hold (d.legState l) = true → stateFits .walk (legs.get l).state = true) :
      Moves d { d with mhu := { d.mhu with mode := .walk, stack := [] },
                       gpe := { d.gpe with phase := phase, legs := legs } }
  /-- The master advances (R11 stage 5). -/
  | advance (d : Device) (k : Nat) (mode : d.mhu.mode = .walk) :
      Moves d { d with gpe := { d.gpe with phase := (d.gpe.phase + k) % d.gaitRecord.n } }

/-! ## The hold stack and the mode (R96, R101, R112) -/

theorem holdsCoherent_iff (d : Device) : d.holdsCoherent = true ↔
    d.mhu.stack.length ≤ 4 ∧ (d.mhu.stack.map HoldRecord.hold).Nodup ∧ (d.mhu.mode = .hold ↔ d.mhu.stack ≠ [])
    ∧ (d.mhu.sit.isSome = true ↔ d.mhu.mode = .safeSit) ∧ d.mhu.framesSinceSilence ≤ 2
    ∧ stackModes d.mhu.stack = true := by
  have stack : (decide (d.mhu.mode = .hold) == !d.mhu.stack.isEmpty) = true
      ↔ (d.mhu.mode = .hold ↔ d.mhu.stack ≠ []) := by
    cases d.mhu.stack <;> simp
  have sit : (d.mhu.sit.isSome == decide (d.mhu.mode = .safeSit)) = true
      ↔ (d.mhu.sit.isSome = true ↔ d.mhu.mode = .safeSit) := by
    rw [beq_iff_eq, Bool.eq_iff_iff, decide_eq_true_eq]
  simp only [holdsCoherent, Bool.and_eq_true, decide_eq_true_eq, stack, sit, and_assoc]

theorem stack_eq_nil {d : Device} (h : d.holdsCoherent = true) (mode : d.mhu.mode ≠ .hold) : d.mhu.stack = [] := by
  obtain ⟨_, _, hold, _⟩ := (holdsCoherent_iff d).mp h
  by_contra full
  exact mode (hold.mpr full)

/-- The Mode and Hold Unit alone decides. -/
theorem holdsCoherent_congr {d e : Device} (mhu : e.mhu = d.mhu) : e.holdsCoherent = d.holdsCoherent := by
  unfold holdsCoherent
  rw [mhu]

/-- With no hold and no sit sub-state every mode but HOLD and SAFE_SIT is coherent. -/
theorem holdsCoherent_of_empty {d : Device} (stack : d.mhu.stack = []) (mode : d.mhu.mode ≠ .hold)
    (sit : d.mhu.sit.isSome = true ↔ d.mhu.mode = .safeSit) (frames : d.mhu.framesSinceSilence ≤ 2) :
    d.holdsCoherent = true := by
  rw [holdsCoherent_iff, stack]
  exact ⟨by simp, by simp, by simpa using mode, sit, frames, rfl⟩

theorem stackModes_append {rs : List HoldRecord} {r : HoldRecord} (h : stackModes rs = true)
    (bottom : rs = [] → r.modeAtPush = .stand ∨ r.modeAtPush = .walk) (above : rs ≠ [] → r.modeAtPush = .hold) :
    stackModes (rs ++ [r]) = true := by
  cases rs with
  | nil => simpa [stackModes] using bottom rfl
  | cons q qs =>
    simp only [stackModes, Bool.and_eq_true, List.all_eq_true, decide_eq_true_eq] at h
    simp only [List.cons_append, stackModes, Bool.and_eq_true, List.all_eq_true, decide_eq_true_eq]
    refine ⟨h.1, fun x hx => ?_⟩
    rcases List.mem_append.mp hx with old | new
    · exact h.2 x old
    · rw [List.mem_singleton.mp new]
      exact above (by simp)

theorem stackModes_dropLast {rs : List HoldRecord} (h : stackModes rs = true) : stackModes rs.dropLast = true := by
  match rs, h with
  | [], _ => rfl
  | [_], _ => rfl
  | r :: q :: qs, h =>
    simp only [stackModes, Bool.and_eq_true, List.all_eq_true] at h
    simp only [List.dropLast_cons_cons, stackModes, Bool.and_eq_true, List.all_eq_true]
    exact ⟨h.1, fun x hx => h.2 x (List.dropLast_subset _ hx)⟩

/-- A record pushed on a coherent stack with room leaves it coherent (R105, R112). -/
theorem pushRecord_holdsCoherent {h : Hold} {d : Device} (coherent : d.holdsCoherent = true) (mode : d.up)
    (fresh : ∀ r ∈ d.mhu.stack, r.hold ≠ h) (room : d.mhu.stack.length < 4) : (d.pushRecord h).holdsCoherent = true := by
  obtain ⟨_, nodup, hold, sit, frames, modes⟩ := (holdsCoherent_iff d).mp coherent
  rw [holdsCoherent_iff, pushRecord_stack, pushRecord_mode, pushRecord_sit, (pushRecord_keeps h d).2.1]
  refine ⟨by simpa using room, ?_, by simp, ?_, frames, stackModes_append modes ?_ hold.mpr⟩
  · rw [List.map_append, List.nodup_append]
    refine ⟨nodup, by simp, fun x hx y hy => ?_⟩
    obtain ⟨r, mem, rfl⟩ := List.mem_map.mp hx
    rw [List.mem_singleton.mp hy]
    exact fresh r mem
  · rw [sit]
    rcases mode with m | m | m <;> simp [m]
  · intro empty
    rcases mode with m | m | m
    · exact .inl m
    · exact .inr m
    · exact absurd empty (hold.mp m)

/-- The stack with which STAND is entered holds nothing. -/
theorem standing_stack {d : Device} (coherent : d.holdsCoherent = true) {stack : List HoldRecord}
    (empty : stack = [] ∨ (d.mhu.mode = .walk ∧ stack = d.mhu.stack)) : stack = [] := by
  rcases empty with empty | ⟨mode, rfl⟩
  · exact empty
  · exact stack_eq_nil coherent (by simp [mode])

theorem Moves.holdsCoherent {d e : Device} (moved : Moves d e) (h : d.holdsCoherent = true) : e.holdsCoherent = true := by
  induction moved with
  | quiet mhu _ _ => rwa [holdsCoherent_congr mhu]
  | trans _ _ first second => exact second (first h)
  | count d w bound =>
    obtain ⟨len, nodup, hold, sit, frames, modes⟩ := (holdsCoherent_iff d).mp h
    exact (holdsCoherent_iff _).mpr ⟨len, nodup, hold, sit, bound frames, modes⟩
  | seat d mode =>
    obtain ⟨len, nodup, hold, _, frames, modes⟩ := (holdsCoherent_iff d).mp h
    exact (holdsCoherent_iff _).mpr ⟨len, nodup, hold, by simp [mode], frames, modes⟩
  | sit d x _ =>
    obtain ⟨_, _, _, _, frames, _⟩ := (holdsCoherent_iff d).mp h
    exact holdsCoherent_of_empty rfl (by simp) (by simp) frames
  | push d hold mode fresh room => exact pushRecord_holdsCoherent h mode fresh room
  | pop d left =>
    obtain ⟨len, nodup, hold, sit, frames, modes⟩ := (holdsCoherent_iff d).mp h
    refine (holdsCoherent_iff _).mpr ⟨?_, ?_, ?_, sit, frames, stackModes_dropLast modes⟩
    · show d.mhu.stack.dropLast.length ≤ 4
      simp only [List.length_dropLast]
      omega
    · exact nodup.sublist ((List.dropLast_sublist _).map _)
    · refine ⟨fun _ => left, fun _ => hold.mpr fun empty => left ?_⟩
      simp [empty]
  | legs _ _ _ => exact h
  | adopt d g _ _ => rwa [holdsCoherent_congr (adopt_frame g d).2.2.2.2.1]
  | unpend _ => exact h
  | pend _ _ _ _ => exact h
  | index _ _ _ => exact h
  | advance _ _ _ => exact h
  | stand d _ _ mode empty _ =>
    obtain ⟨_, _, _, sit, frames, _⟩ := (holdsCoherent_iff d).mp h
    refine holdsCoherent_of_empty (standing_stack h empty) (by simp) ?_ frames
    rcases mode with m | m <;> simp [sit, m]
  | start d mode _ =>
    have empty := stack_eq_nil h (by rw [mode]; simp)
    obtain ⟨_, _, _, sit, frames, _⟩ := (holdsCoherent_iff d).mp h
    exact holdsCoherent_of_empty empty (by simp) (by simp [sit, mode]) frames
  | resume d _ _ _ mode _ _ _ _ =>
    obtain ⟨_, _, _, sit, frames, _⟩ := (holdsCoherent_iff d).mp h
    exact holdsCoherent_of_empty rfl (by simp) (by simp [sit, mode]) frames

/-! ## The leg states of a mode (R22) -/

theorem legsFitMode_iff (d : Device) : d.legsFitMode = true ↔ ∀ l, stateFits d.mhu.mode (d.legState l) = true :=
  Leg.all_iff _

theorem heldLeg_state (h : Hold) (l : Leg) (r : LegRecord) : (heldLeg h l r).state =
    match r.state with
    | .swing => .setDown
    | .landing => if h = .noGround l then .hang else .setDown
    | s => s := by
  unfold heldLeg
  split <;> simp_all

/-- The conversion of a push takes every state of STAND or WALK to one of HOLD (R106). -/
theorem heldLeg_fits {m : Mode} (mode : m = .stand ∨ m = .walk) (h : Hold) (l : Leg) {r : LegRecord}
    (fits : stateFits m r.state = true) : stateFits .hold (heldLeg h l r).state = true := by
  rw [heldLeg_state]
  rcases mode with rfl | rfl <;> cases state : r.state <;> simp [stateFits, state] at fits ⊢
  by_cases near : h = .noGround l <;> simp [near]

theorem pushRecord_fits {h : Hold} {d : Device} (mode : d.up) (fits : d.legsFitMode = true) :
    (d.pushRecord h).legsFitMode = true := by
  rw [legsFitMode_iff] at fits ⊢
  intro l
  rw [pushRecord_mode, legState, pushRecord_leg]
  have fit := fits l
  rcases mode with m | m | m <;> rw [m] at fit ⊢
  · exact heldLeg_fits (.inl rfl) h l fit
  · exact heldLeg_fits (.inr rfl) h l fit
  · exact fit

theorem stateFits_unset_of_down {m : Mode} (h : m = .unarmed ∨ m = .safeSit) : stateFits m .unset = true := by
  rcases h with rfl | rfl <;> rfl

theorem Moves.legsFitMode {d e : Device} (moved : Moves d e) (h : d.legsFitMode = true) : e.legsFitMode = true := by
  induction moved with
  | quiet mhu gpe _ =>
    unfold Device.legsFitMode legState leg at h ⊢
    rwa [mhu, gpe]
  | trans _ _ first second => exact second (first h)
  | count _ _ _ => exact h
  | seat _ _ => exact h
  | sit d x _ => exact (legsFitMode_iff _).mpr fun l => by simp [legState, stateFits, unsetLeg]
  | push d hold mode _ _ => exact pushRecord_fits mode h
  | pop _ _ => exact h
  | legs d legs fit => exact (legsFitMode_iff _).mpr fun l => fit l ((legsFitMode_iff d).mp h l)
  | adopt d g _ _ =>
    refine (legsFitMode_iff _).mpr fun l => ?_
    have same : (d.adopt g).legState l = d.legState l := by simp [legState, Device.adopt, leg, setLatches, mapLegs]
    rw [same, (adopt_frame g d).2.2.2.2.1]
    exact (legsFitMode_iff d).mp h l
  | unpend _ => exact h
  | pend _ _ _ _ => exact h
  | index _ _ _ => exact h
  | advance _ _ _ => exact h
  | stand d legs _ _ _ fit =>
    refine (legsFitMode_iff _).mpr fun l => ?_
    show stateFits .stand (legs.get l).state = true
    rw [fit l ((legsFitMode_iff d).mp h l)]
    rfl
  | start d mode _ =>
    refine (legsFitMode_iff _).mpr fun l => ?_
    have stands := (legsFitMode_iff d).mp h l
    rw [mode] at stands
    show stateFits .walk (d.legState l) = true
    rw [show d.legState l = .stance by simpa [stateFits] using stands]
    rfl
  | resume d r phase legs mode _ _ _ fit =>
    refine (legsFitMode_iff _).mpr fun l => fit l ?_
    rw [← mode]
    exact (legsFitMode_iff d).mp h l

/-! ## The pending gait and the master phase (R7, R8) -/

theorem gaitCoherent_iff (d : Device) : d.gaitCoherent = true ↔
    d.gpe.waiting ≠ some d.gpe.current
    ∧ (d.mhu.mode = .walk ∨ d.mhu.mode = .hold ∨ d.gpe.waiting = none) ∧ (d.up ∨ d.gpe.phase = 0) := by
  simp [gaitCoherent, up, and_assoc, or_assoc]

theorem phaseOnRing_iff (d : Device) : d.phaseOnRing = true ↔
    (∀ g, (d.tbs.gaitAt g).valid = true → (d.tbs.gaitAt g).record.isValid = true)
    ∧ (d.mhu.mode = .unarmed ∨ d.mhu.mode = .safeSit ∨ d.gpe.phase < d.gaitRecord.n)
    ∧ (∀ r ∈ d.mhu.stack, r.phase < d.gaitRecord.n)
    ∧ (d.mhu.mode = .walk ∨ (∃ r ∈ d.mhu.stack, r.modeAtPush = .walk) → d.gaitEntry.valid = true) := by
  have table : d.tbs.gait.toList.all (fun g => !g.valid || g.record.isValid) = true
      ↔ ∀ g, (d.tbs.gaitAt g).valid = true → (d.tbs.gaitAt g).record.isValid = true := by
    simp only [List.all_eq_true, Vector.mem_toList_iff, Vector.mem_iff_getElem]
    constructor
    · intro h g valid
      have entry := h (d.tbs.gaitAt g) ⟨g.val, g.isLt, rfl⟩
      rw [valid] at entry
      simpa using entry
    · rintro h _ ⟨i, hi, rfl⟩
      have entry := h ⟨i, hi⟩
      change (d.tbs.gait[i]).valid = true → (d.tbs.gait[i]).record.isValid = true at entry
      cases valid : (d.tbs.gait[i]).valid
      · rfl
      · simpa using entry valid
  have walking : (!d.walkUnderWay || d.gaitEntry.valid) = true
      ↔ (d.mhu.mode = .walk ∨ (∃ r ∈ d.mhu.stack, r.modeAtPush = .walk) → d.gaitEntry.valid = true) := by
    have way : d.walkUnderWay = true ↔ d.mhu.mode = .walk ∨ ∃ r ∈ d.mhu.stack, r.modeAtPush = .walk := by
      simp [walkUnderWay]
    rw [← way]
    cases d.walkUnderWay <;> simp
  simp only [phaseOnRing, Bool.and_eq_true, table, walking, Bool.or_eq_true, decide_eq_true_eq, List.all_eq_true,
    and_assoc, or_assoc]

/-- The engine, the modes and the gait table decide. -/
theorem ring_congr {d e : Device} (mhu : e.mhu = d.mhu) (gpe : e.gpe = d.gpe) (gait : e.tbs.gait = d.tbs.gait) :
    e.gaitCoherent = d.gaitCoherent ∧ e.phaseOnRing = d.phaseOnRing := by
  unfold gaitCoherent phaseOnRing walkUnderWay gaitRecord gaitEntry TableStore.gaitAt
  rw [mhu, gpe, gait]
  exact ⟨rfl, rfl⟩

/-- What the two invariants say together of a device whose stack is empty. -/
theorem ring_of_empty {d : Device} (stack : d.mhu.stack = [])
    (earned : ∀ g, (d.tbs.gaitAt g).valid = true → (d.tbs.gaitAt g).record.isValid = true)
    (waiting : d.gpe.waiting = none) (phase : d.up ∨ d.gpe.phase = 0)
    (ring : d.up → d.gpe.phase < d.gaitRecord.n) (walk : d.mhu.mode = .walk → d.gaitEntry.valid = true) :
    d.gaitCoherent = true ∧ d.phaseOnRing = true := by
  refine ⟨(gaitCoherent_iff d).mpr ⟨by simp [waiting], .inr (.inr waiting), phase⟩, (phaseOnRing_iff d).mpr ⟨earned, ?_, ?_, ?_⟩⟩
  · cases mode : d.mhu.mode
    · exact .inl rfl
    · exact .inr (.inr (ring (.inl mode)))
    · exact .inr (.inr (ring (.inr (.inl mode))))
    · exact .inr (.inr (ring (.inr (.inr mode))))
    · exact .inr (.inl rfl)
  · simp [stack]
  · simpa [stack] using walk

/-- The invariants on which the master phase rests. -/
structure OnRing (d : Device) : Prop where
  holds : d.holdsCoherent = true
  gait : d.gaitCoherent = true
  ring : d.phaseOnRing = true

theorem OnRing.earned {d : Device} (h : OnRing d) (g : Fin 8) (valid : (d.tbs.gaitAt g).valid = true) :
    (d.tbs.gaitAt g).record.isValid = true := ((phaseOnRing_iff d).mp h.ring).1 g valid

theorem OnRing.phase_lt {d : Device} (h : OnRing d) (mode : d.up) : d.gpe.phase < d.gaitRecord.n := by
  obtain ⟨_, on, _, _⟩ := (phaseOnRing_iff d).mp h.ring
  rcases mode with m | m | m <;> simpa [m] using on

theorem OnRing.record_lt {d : Device} (h : OnRing d) {r : HoldRecord} (mem : r ∈ d.mhu.stack) :
    r.phase < d.gaitRecord.n := ((phaseOnRing_iff d).mp h.ring).2.2.1 r mem

/-- A valid record has its E on its ring (R4). -/
theorem e_lt_n_of_isValid {r : GaitRecord} (h : r.isValid = true) : r.e < r.n := ((GaitRecord.isValid_iff r).mp h).1

/-- A push keeps the master phase, and the record takes it (R103, R105). -/
theorem pushRecord_ring {h : Hold} {d : Device} (on : OnRing d) (mode : d.up) :
    (d.pushRecord h).gaitCoherent = true ∧ (d.pushRecord h).phaseOnRing = true := by
  obtain ⟨other, _, _⟩ := (gaitCoherent_iff d).mp on.gait
  obtain ⟨earned, _, records, walk⟩ := (phaseOnRing_iff d).mp on.ring
  have entry : (d.pushRecord h).gaitEntry = d.gaitEntry := by
    unfold gaitEntry
    rw [(pushRecord_frame h d).1, pushRecord_current]
  constructor
  · rw [gaitCoherent_iff, pushRecord_waiting, pushRecord_current, pushRecord_mode, up, pushRecord_mode]
    exact ⟨other, .inr (.inl rfl), .inl (.inr (.inr rfl))⟩
  · rw [phaseOnRing_iff, pushRecord_mode, pushRecord_stack, pushRecord_phase, (pushRecord_frame h d).1, gaitRecord, entry]
    refine ⟨earned, .inr (.inr (on.phase_lt mode)), fun r mem => ?_, fun walked => walk ?_⟩
    · rcases List.mem_append.mp mem with old | new
      · exact records r old
      · rw [List.mem_singleton.mp new]
        exact on.phase_lt mode
    · rcases walked with never | ⟨r, mem, walked⟩
      · cases never
      · rcases List.mem_append.mp mem with old | new
        · exact .inr ⟨r, old, walked⟩
        · rw [List.mem_singleton.mp new] at walked
          exact .inl walked

theorem adopt_ring {g : Fin 8} {d : Device} (on : OnRing d) (valid : (d.tbs.gaitAt g).valid = true)
    (mode : d.mhu.mode = .stand ∨ d.mhu.mode = .walk) :
    (d.adopt g).gaitCoherent = true ∧ (d.adopt g).phaseOnRing = true := by
  have mhu := (adopt_frame g d).2.2.2.2.1
  have empty : d.mhu.stack = [] := stack_eq_nil on.holds (by rcases mode with m | m <;> simp [m])
  refine ring_of_empty (by rw [mhu, empty]) (by rw [(adopt_frame g d).1]; exact on.earned) rfl (.inl ?_) (fun _ => ?_)
    fun _ => valid
  · unfold up
    rw [mhu]
    exact mode.imp_right .inl
  · exact e_lt_n_of_isValid (on.earned g valid)

theorem Moves.onRing {d e : Device} (moved : Moves d e) (h : OnRing d) : OnRing e := by
  induction moved with
  | quiet mhu gpe tbs =>
    obtain ⟨sameGait, sameRing⟩ := ring_congr mhu gpe (congrArg TableStore.gait tbs)
    exact ⟨by rw [holdsCoherent_congr mhu, h.holds], by rw [sameGait, h.gait], by rw [sameRing, h.ring]⟩
  | trans _ _ first second => exact second (first h)
  | count d w bound => exact ⟨(Moves.count d w bound).holdsCoherent h.holds, h.gait, h.ring⟩
  | seat d mode => exact ⟨(Moves.seat d mode).holdsCoherent h.holds, h.gait, h.ring⟩
  | sit d x mode =>
    obtain ⟨gait, ring⟩ := ring_of_empty
      (d := unsetLegs { d with mhu := { d.mhu with mode := .safeSit, sit := some x, stack := [] } })
      rfl h.earned rfl (.inr rfl) (fun never => by simp [up] at never) (fun never => by simp at never)
    exact ⟨(Moves.sit d x mode).holdsCoherent h.holds, gait, ring⟩
  | push d hold mode fresh room =>
    obtain ⟨gait, ring⟩ := pushRecord_ring (h := hold) h mode
    exact ⟨(Moves.push d hold mode fresh room).holdsCoherent h.holds, gait, ring⟩
  | pop d left =>
    obtain ⟨earned, phase, records, walk⟩ := (phaseOnRing_iff d).mp h.ring
    refine ⟨(Moves.pop d left).holdsCoherent h.holds, h.gait, (phaseOnRing_iff _).mpr ⟨earned, phase, ?_, ?_⟩⟩
    · exact fun r mem => records r (List.dropLast_subset _ mem)
    · exact fun walked => walk (walked.imp_right fun ⟨r, mem, w⟩ => ⟨r, List.dropLast_subset _ mem, w⟩)
  | legs _ _ _ => exact ⟨h.holds, h.gait, h.ring⟩
  | adopt d g valid mode =>
    obtain ⟨gait, ring⟩ := adopt_ring h valid mode
    exact ⟨(Moves.adopt d g valid mode).holdsCoherent h.holds, gait, ring⟩
  | unpend d =>
    obtain ⟨_, _, phase⟩ := (gaitCoherent_iff d).mp h.gait
    exact ⟨h.holds, (gaitCoherent_iff _).mpr ⟨by simp, .inr (.inr rfl), phase⟩, h.ring⟩
  | pend d g other mode =>
    obtain ⟨_, _, phase⟩ := (gaitCoherent_iff d).mp h.gait
    exact ⟨h.holds, (gaitCoherent_iff _).mpr ⟨by simpa using other, mode.imp_right .inl, phase⟩, h.ring⟩
  | index d g mode =>
    have empty := stack_eq_nil h.holds (by rw [mode]; simp)
    obtain ⟨_, waiting, phase⟩ := (gaitCoherent_iff d).mp h.gait
    have zero : d.gpe.phase = 0 := by simpa [up, mode] using phase
    have none_waits : d.gpe.waiting = none := by simpa [mode] using waiting
    obtain ⟨gait, ring⟩ := ring_of_empty (d := { d with gpe := { d.gpe with current := g } }) empty h.earned none_waits
      (.inr zero) (fun never => by simp [up, mode] at never) (fun never => by simp [mode] at never)
    exact ⟨h.holds, gait, ring⟩
  | stand d legs stack mode empty fit =>
    have wasUp : d.up := .inr mode
    obtain ⟨gait, ring⟩ := ring_of_empty
      (d := { d with mhu := { d.mhu with mode := .stand, stack := stack },
                     gpe := { d.gpe with waiting := none, legs := legs } })
      (standing_stack h.holds empty) h.earned rfl (.inl (.inl rfl)) (fun _ => h.phase_lt wasUp) (fun never => by simp at never)
    exact ⟨(Moves.stand d legs stack mode empty fit).holdsCoherent h.holds, gait, ring⟩
  | start d mode valid =>
    have empty := stack_eq_nil h.holds (by rw [mode]; simp)
    obtain ⟨_, waiting, _⟩ := (gaitCoherent_iff d).mp h.gait
    have none_waits : d.gpe.waiting = none := by simpa [mode] using waiting
    obtain ⟨gait, ring⟩ := ring_of_empty (d := d.setMode .walk) empty h.earned none_waits (.inl (.inr (.inl rfl)))
      (fun _ => h.phase_lt (.inl mode)) (fun _ => valid)
    exact ⟨(Moves.start d mode valid).holdsCoherent h.holds, gait, ring⟩
  | resume d r phase legs mode mem walked known fit =>
    obtain ⟨other, _, _⟩ := (gaitCoherent_iff d).mp h.gait
    obtain ⟨earned, _, records, walk⟩ := (phaseOnRing_iff d).mp h.ring
    have valid : d.gaitEntry.valid = true := walk (.inr ⟨r, mem, walked⟩)
    have on : phase < d.gaitRecord.n := by
      rcases known with rfl | rfl
      · exact records r mem
      · exact e_lt_n_of_isValid (earned _ valid)
    refine ⟨(Moves.resume d r phase legs mode mem walked known fit).holdsCoherent h.holds, ?_, ?_⟩
    · exact (gaitCoherent_iff _).mpr ⟨other, .inl rfl, .inl (.inr (.inl rfl))⟩
    · exact (phaseOnRing_iff _).mpr ⟨earned, .inr (.inr on), by simp, fun _ => valid⟩
  | advance d k mode =>
    obtain ⟨other, waiting, _⟩ := (gaitCoherent_iff d).mp h.gait
    obtain ⟨earned, _, records, walk⟩ := (phaseOnRing_iff d).mp h.ring
    have on := h.phase_lt (.inr (.inl mode))
    refine ⟨h.holds, (gaitCoherent_iff _).mpr ⟨other, waiting, .inl (.inr (.inl mode))⟩, ?_⟩
    exact (phaseOnRing_iff _).mpr ⟨earned, .inr (.inr (Nat.mod_lt _ (by omega))), records, walk⟩

end Device

end Sys2Proof.Machine
end

section
/-!
PROOFS of the families of modes, holds, legs and the master phase (chapters 1, 2 and 6). The operations that the blocks
share and those of the engine are made of the moves.
-/

namespace Sys2Proof.Machine

namespace Device

/-! ## The moves as they are put together -/

namespace Moves

theorem refl (d : Device) : Moves d d := .quiet rfl rfl rfl

/-- An operation that starts from a state with the same modes, engine and tables. -/
theorem of_quiet {d e f : Device} (h : Moves e f) (mhu : e.mhu = d.mhu) (gpe : e.gpe = d.gpe)
    (tbs : e.tbs = d.tbs) : Moves d f := (Moves.quiet mhu gpe tbs).trans h

theorem then_quiet {d e f : Device} (h : Moves d e) (mhu : f.mhu = e.mhu) (gpe : f.gpe = e.gpe)
    (tbs : f.tbs = e.tbs) : Moves d f := h.trans (.quiet mhu gpe tbs)

theorem then_raise {d e : Device} (h : Moves d e) (f : Factor) : Moves d (e.raise f) := h.then_quiet rfl rfl rfl

theorem foldl {α : Type} {op : Device → α → Device} (h : ∀ d x, Moves d (op d x)) (xs : List α) (d : Device) :
    Moves d (xs.foldl op d) := by
  induction xs generalizing d with
  | nil => exact .refl d
  | cons x xs ih => exact (h d x).trans (ih _)

end Moves

theorem raise_moves (f : Factor) (d : Device) : Moves d (d.raise f) := .quiet rfl rfl rfl

theorem raiseIf_moves (b : Bool) (f : Factor) (d : Device) : Moves d (d.raiseIf b f) := by
  unfold raiseIf
  split
  · exact raise_moves f d
  · exact .refl d

theorem raiseAll_moves (fs : List Factor) (d : Device) : Moves d (d.raiseAll fs) :=
  Moves.foldl (fun d f => raise_moves f d) fs d

theorem up_or_down (d : Device) : d.up ∨ (d.mhu.mode = .unarmed ∨ d.mhu.mode = .safeSit) := by
  unfold up
  cases d.mhu.mode <;> simp

theorem not_down_of_up {d : Device} (h : d.up) : ¬ (d.mhu.mode = .unarmed ∨ d.mhu.mode = .safeSit) := by
  rcases h with h | h | h <;> simp [h]

/-! ## Leg records (R22) -/

theorem modLeg_moves (l : Leg) (f : LegRecord → LegRecord) {d : Device}
    (fit : stateFits d.mhu.mode (d.legState l) = true → stateFits d.mhu.mode (f (d.leg l)).state = true) :
    Moves d (d.modLeg l f) := by
  refine .legs d _ fun m fits => ?_
  change stateFits _ ((d.modLeg l f).leg m).state = true
  rw [modLeg_leg]
  split
  next same => exact fit (same ▸ fits)
  next => exact fits

/-- A change of a leg's counters and latches. -/
theorem modLeg_moves_of_state (l : Leg) (f : LegRecord → LegRecord) (same : ∀ r, (f r).state = r.state) (d : Device) :
    Moves d (d.modLeg l f) := modLeg_moves l f fun fits => by rwa [same]

theorem mapLegs_moves (f : Leg → LegRecord → LegRecord) {d : Device}
    (fit : ∀ l, stateFits d.mhu.mode (d.legState l) = true → stateFits d.mhu.mode (f l (d.leg l)).state = true) :
    Moves d (d.mapLegs f) := by
  refine .legs d _ fun l fits => ?_
  change stateFits _ ((d.mapLegs f).leg l).state = true
  rw [mapLegs_leg]
  exact fit l fits

theorem stateFits_stance {m : Mode} {s : LegState} (fits : stateFits m s = true) (set : s ≠ .unset) :
    stateFits m .stance = true := by
  cases m
  · exact absurd (of_decide_eq_true fits) set
  · rfl
  · rfl
  · rfl
  · exact absurd (of_decide_eq_true fits) set

theorem stateFits_landing {m : Mode} (fits : stateFits m .swing = true) : stateFits m .landing = true := by
  cases m <;> simp [stateFits] at fits ⊢

theorem stateFits_liftWait {m : Mode} (fits : stateFits m .stance = true) (moving : m ≠ .stand) :
    stateFits m .liftWait = true := by
  cases m <;> simp [stateFits] at fits moving ⊢

theorem touchDown_moves {l : Leg} {d : Device} (set : d.legState l ≠ .unset) : Moves d (d.touchDown l) := by
  refine mapLegs_moves _ fun m fits => ?_
  split
  next same => exact stateFits_stance fits (same ▸ set)
  next => split <;> exact fits

theorem enterLiftWait_moves {l : Leg} {d : Device} (moving : d.mhu.mode ≠ .stand) (stands : d.legState l = .stance) :
    Moves d (d.enterLiftWait l) :=
  modLeg_moves l _ fun fits => stateFits_liftWait (stands ▸ fits) moving

/-! ## Hold requests and the sit demand (R100, R104 to R106) -/

/-- The sit is demanded with the modes as they are but for a stack already emptied (R105). -/
theorem sitDemand_moves_of_stack {d e : Device} (up : d.up) {stack : List HoldRecord}
    (mhu : e.mhu = { d.mhu with stack := stack }) (gpe : e.gpe = d.gpe) (tbs : e.tbs = d.tbs) :
    Moves d e.sitDemand := by
  have upE : e.up := by
    unfold Device.up
    rwa [mhu]
  rw [sitDemand_of_up e upE]
  refine (Moves.sit d (if e.loweringComplete then .seated else .lowering) up).then_quiet ?_ ?_ tbs
  · show ({ e.mhu with mode := _, sit := _, stack := _ } : ModeUnit) = _
    rw [mhu]
    rfl
  · show ({ e.gpe with waiting := _, phase := _, legs := _ } : GaitEngine) = _
    rw [gpe]
    rfl

theorem sitDemand_moves (d : Device) : Moves d d.sitDemand := by
  rcases d.up_or_down with up | down
  · exact sitDemand_moves_of_stack up (stack := d.mhu.stack) rfl rfl rfl
  · rw [sitDemand_of_down d down]
    exact .refl d

theorem judgePush_moves (h : Hold) (d : Device) : Moves d (d.judgePush h) := by
  rcases d.up_or_down with up | down
  · cases fresh : d.mhu.stack.any (fun r => r.hold = h)
    · rcases Nat.lt_or_ge d.mhu.stack.length 4 with room | full
      · rw [judgePush_of_room h d (not_down_of_up up) fresh room]
        exact .push d h up (by simpa using fresh) room
      · rw [judgePush_of_full h d (not_down_of_up up) fresh full]
        exact sitDemand_moves_of_stack up (stack := []) rfl rfl rfl
    · rw [judgePush_of_same h d fresh]
      exact .refl d
  · rw [judgePush_of_down h d down]
    exact .refl d

theorem noteSilence_moves (q : PushRequest) (d : Device) : Moves d (d.noteSilence q) := by
  unfold noteSilence
  split
  · exact .count d d.mhu.walkFlag (fun _ => Nat.zero_le 2)
  · exact .refl d

theorem request_moves (q : PushRequest) (d : Device) : Moves d (d.request q) := by
  unfold request
  refine Moves.trans ?_ ((noteSilence_moves q _).trans (judgePush_moves q.hold _))
  split
  · exact raise_moves _ d
  · exact .refl d

theorem sitDemand_not_stand {d : Device} (away : d.mhu.mode ≠ .stand) : d.sitDemand.mhu.mode ≠ .stand := by
  rcases d.up_or_down with up | down
  · rw [sitDemand_of_up d up]
    simp
  · rwa [sitDemand_of_down d down]

/-- No request takes the part to STAND. -/
theorem judgePush_not_stand {d : Device} (h : Hold) (away : d.mhu.mode ≠ .stand) :
    (d.judgePush h).mhu.mode ≠ .stand := by
  unfold judgePush
  split
  · exact away
  · split
    · exact away
    · split
      · exact sitDemand_not_stand away
      · simp [pushRecord_mode]

theorem request_not_stand {d : Device} (q : PushRequest) (away : d.mhu.mode ≠ .stand) :
    (d.request q).mhu.mode ≠ .stand := by
  refine judgePush_not_stand _ ?_
  have noted (e : Device) : (e.noteSilence q).mhu.mode = e.mhu.mode := by
    unfold noteSilence
    split <;> rfl
  rw [noted]
  split <;> exact away

/-! ## Gaits (R16, R17, R41) -/

theorem refuseGait_moves (d : Device) : Moves d d.refuseGait := (Moves.unpend d).then_raise _

theorem selectGait_moves (g : Fin 8) {d : Device} (mode : d.mhu.mode = .stand ∨ d.mhu.mode = .walk) :
    Moves d (d.selectGait g) := by
  unfold selectGait
  split
  next valid => exact .adopt d g valid mode
  next => exact refuseGait_moves d

/-- STAND is entered from `e`, whose legs have come to STANCE from those of `d` (R41, R112). -/
theorem enterStand_moves {d e : Device} (mode : d.mhu.mode = .walk ∨ d.mhu.mode = .hold) {stack : List HoldRecord}
    (empty : stack = [] ∨ (d.mhu.mode = .walk ∧ stack = d.mhu.stack)) (mhu : e.mhu = { d.mhu with stack := stack })
    {legs : PerLeg LegRecord} (gpe : e.gpe = { d.gpe with legs := legs }) (tbs : e.tbs = d.tbs)
    (fit : ∀ l, stateFits d.mhu.mode (d.legState l) = true → (legs.get l).state = .stance) : Moves d e.enterStand := by
  have stood := Moves.stand d legs stack mode empty fit
  have entered : ((e.setMode .stand).raise .modeChanged).mhu = { d.mhu with mode := .stand, stack := stack } := by
    show ({ e.mhu with mode := .stand } : ModeUnit) = _
    rw [mhu]
  rw [enterStand_eq]
  split
  next g _ =>
    obtain ⟨s, unpended⟩ : ∃ s : Device, s =
        { (e.setMode .stand).raise .modeChanged with gpe := { e.gpe with waiting := none } } := ⟨_, rfl⟩
    have same : ((e.setMode .stand).raise .modeChanged).selectGait g = s.selectGait g := unpended ▸ rfl
    have mode : s.mhu.mode = .stand := by
      rw [unpended]
      exact congrArg ModeUnit.mode entered
    have gpeS : s.gpe = { d.gpe with waiting := none, legs := legs } := by
      rw [unpended]
      show ({ e.gpe with waiting := none } : GaitEngine) = _
      rw [gpe]
    rw [same]
    exact (stood.then_quiet (by rw [unpended]; exact entered) gpeS (by rw [unpended]; exact tbs)).trans
      (selectGait_moves g (.inl mode))
  next idle =>
    refine stood.then_quiet entered ?_ tbs
    show e.gpe = _
    rw [gpe] at idle ⊢
    rw [← idle]

end Device

end Sys2Proof.Machine
end

section
/-!
PROOFS of the families of modes, holds, legs and the master phase (chapters 1, 2 and 6). The engine's own work is made
of the moves: the counters, the phase step and its stages, and what an accepted frame names.
-/

namespace Sys2Proof.Machine

namespace Device

/-! ## The end of a stop (R41) -/

theorem completeStop_moves (d : Device) : Moves d d.completeStop := by
  unfold completeStop
  split
  next done =>
    obtain ⟨stops, together⟩ := Bool.and_eq_true_iff.mp done
    have walks := ((stopPending_iff d).mp stops).1
    exact enterStand_moves (.inl walks) (.inr ⟨walks, rfl⟩) rfl (legs := d.gpe.legs) rfl rfl
      fun l _ => (allInStance_iff d).mp together l
  next => exact .refl d

/-! ## The judgements of nodes (R137, R139) -/

theorem driveReaction_moves (n : Node) (why : NodeReason) (d : Device) : Moves d (d.driveReaction n why) := by
  unfold driveReaction
  split
  · exact request_moves _ d
  · exact raise_moves _ d

theorem footReaction_moves (l : Leg) (why : NodeReason) (d : Device) : Moves d (d.footReaction l why) := by
  unfold footReaction
  split
  · exact request_moves _ d
  · exact raise_moves _ d

theorem footReaction_not_stand {d : Device} (l : Leg) (why : NodeReason) (away : d.mhu.mode ≠ .stand) :
    (d.footReaction l why).mhu.mode ≠ .stand := by
  unfold footReaction
  split
  · exact request_not_stand _ away
  · exact away

theorem footEntryJudgement_moves (l : Leg) (d : Device) : Moves d (d.footEntryJudgement l) := by
  unfold footEntryJudgement
  split
  · exact footReaction_moves l .lost d
  · split
    · exact footReaction_moves l .fault d
    · exact .refl d

theorem footEntryJudgement_not_stand {d : Device} (l : Leg) (away : d.mhu.mode ≠ .stand) :
    (d.footEntryJudgement l).mhu.mode ≠ .stand := by
  unfold footEntryJudgement
  split
  · exact footReaction_not_stand l .lost away
  · split
    · exact footReaction_not_stand l .fault away
    · exact away

/-! ## The counter update (R24) -/

theorem countWait_moves (l : Leg) (d : Device) : Moves d (d.countWait l) :=
  (modLeg_moves_of_state l _ (by intro r; rfl) d).trans (raiseIf_moves _ _ _)

theorem countClear_moves (l : Leg) (d : Device) : Moves d (d.countClear l) := by
  have counted (n : Nat) : Moves d (d.modLeg l fun r => { r with clear := n }) :=
    modLeg_moves_of_state l _ (by intro r; rfl) d
  unfold countClear
  split
  · exact .refl d
  · dsimp only
    split
    · exact (counted _).trans (request_moves _ _)
    · exact counted _

theorem countLanding_moves (l : Leg) (d : Device) : Moves d (d.countLanding l) := by
  have counted (n : Nat) : Moves d (d.modLeg l fun r => { r with landing := n }) :=
    modLeg_moves_of_state l _ (by intro r; rfl) d
  unfold countLanding
  dsimp only
  split
  · exact (counted _).trans (request_moves _ _)
  · exact counted _

theorem judgeSetDown_moves {l : Leg} {d : Device} (set : d.legState l ≠ .unset) : Moves d (d.judgeSetDown l) := by
  unfold judgeSetDown
  split
  · exact touchDown_moves set
  · exact .refl d

theorem updateCounter_moves (l : Leg) (d : Device) : Moves d (d.updateCounter l) := by
  unfold updateCounter
  split
  · exact countWait_moves l d
  · exact countClear_moves l d
  · exact countLanding_moves l d
  next lowers => exact judgeSetDown_moves (by simp [lowers])
  all_goals exact .refl d

theorem updateCounters_moves (d : Device) : Moves d d.updateCounters :=
  Moves.foldl (fun d l => updateCounter_moves l d) Leg.all d

/-! ## Lifting and landing (R26 to R33) -/

theorem askMargin_moves (l : Leg) (d : Device) : Moves d (d.askMargin l).2 := raiseIf_moves _ _ d

theorem grantLift_moves (l : Leg) {d : Device} (walks : d.mhu.mode = .walk) : Moves d (d.grantLift l) := by
  refine Moves.trans (modLeg_moves l _ fun _ => ?_) (footEntryJudgement_moves l _)
  rw [walks]
  rfl

theorem tryLift_moves (l : Leg) (d : Device) : Moves d (d.tryLift l) := by
  unfold tryLift
  split
  next may =>
    have walks : (d.askMargin l).2.mhu.mode = .walk := by
      rw [askMargin_frame_eq]
      simp only [mayAskToLift, Bool.and_eq_true, decide_eq_true_eq] at may
      exact may.1.1.1.1.2
    split
    · exact (askMargin_moves l d).trans (grantLift_moves l walks)
    · exact askMargin_moves l d
  next => exact .refl d

theorem tryLift_not_stand {d : Device} (l : Leg) (away : d.mhu.mode ≠ .stand) : (d.tryLift l).mhu.mode ≠ .stand := by
  have asked : (d.askMargin l).2.mhu.mode ≠ .stand := by
    rwa [askMargin_frame_eq]
  unfold tryLift
  split
  · split
    · exact footEntryJudgement_not_stand l asked
    · exact asked
  · exact away

theorem enterLanding_moves {l : Leg} {d : Device} (swings : d.legState l = .swing) : Moves d (d.enterLanding l) :=
  Moves.trans (modLeg_moves l _ fun fits => stateFits_landing (swings ▸ fits)) (footEntryJudgement_moves l _)

theorem judgeAtPoint_moves (l : Leg) {d : Device} (away : d.mhu.mode ≠ .stand) : Moves d (d.judgeAtPoint l) := by
  unfold judgeAtPoint
  split
  next stands => exact (enterLiftWait_moves away stands).trans (tryLift_moves l _)
  next swings =>
    split
    · exact touchDown_moves (by simp [swings])
    · exact enterLanding_moves swings
  next => exact .refl d

theorem judgeAtPoint_not_stand {d : Device} (l : Leg) (away : d.mhu.mode ≠ .stand) :
    (d.judgeAtPoint l).mhu.mode ≠ .stand := by
  unfold judgeAtPoint
  split
  · exact tryLift_not_stand l away
  · split
    · exact away
    · exact footEntryJudgement_not_stand l away
  · exact away

theorem judgeAtPoints_moves (ls : List Leg) {d : Device} (away : d.mhu.mode ≠ .stand) :
    Moves d (ls.foldl (fun d l => d.judgeAtPoint l) d) := by
  induction ls generalizing d with
  | nil => exact .refl d
  | cons l ls ih => exact (judgeAtPoint_moves l away).trans (ih (judgeAtPoint_not_stand l away))

/-! ## The phase step (R9 to R14, R16) -/

theorem liftPointsUnderfoot_moves {d : Device} (walks : d.mhu.mode = .walk) : Moves d d.liftPointsUnderfoot := by
  unfold liftPointsUnderfoot
  split
  · exact .refl d
  · refine mapLegs_moves _ fun l fits => ?_
    split
    · rw [walks]
      rfl
    · exact fits

theorem stageAdoption_moves {d : Device} (walks : d.mhu.mode = .walk) : Moves d d.stageAdoption := by
  unfold stageAdoption
  split
  · exact .refl d
  · split
    · split
      next g _ _ valid => exact (Moves.adopt d g valid (.inr walks)).trans (liftPointsUnderfoot_moves walks)
      next => exact refuseGait_moves d
    · exact .refl d

theorem returnWaiting_moves (d : Device) : Moves d d.returnWaiting := by
  refine mapLegs_moves _ fun l fits => ?_
  split
  next waits => exact stateFits_stance fits (by simp [legState, waits])
  next => exact fits

theorem stagePermission_moves (d : Device) : Moves d d.stagePermission := by
  unfold stagePermission
  split
  · exact (returnWaiting_moves d).trans (completeStop_moves _)
  · exact Moves.foldl (fun d l => tryLift_moves l d) Leg.all d

theorem advanceBy_moves (k : Nat) {d : Device} (walks : d.mhu.mode = .walk) : Moves d (d.advanceBy k) := by
  have progressed : Moves d
      (d.mapLegs fun _ r => if r.state = .swing then { r with progress := r.progress.map (· + k) } else r) := by
    refine mapLegs_moves _ fun l fits => ?_
    split <;> exact fits
  exact progressed.trans (.advance _ k walks)

theorem stageAdvance_madeOfMoves (step : Nat) {d : Device} (walks : d.mhu.mode = .walk) : Moves d (d.stageAdvance step) := by
  have away : (d.advanceBy (d.advanceOf step)).mhu.mode ≠ .stand := by
    rw [show (d.advanceBy (d.advanceOf step)).mhu = d.mhu from rfl, walks]
    simp
  exact ((advanceBy_moves _ walks).trans (judgeAtPoints_moves _ away)).trans (completeStop_moves _)

theorem stepInWalk_moves (step : Nat) (d : Device) : Moves d (d.stepInWalk step) := by
  unfold stepInWalk
  split
  next walks =>
    have adopted : d.stageAdoption.mhu.mode = .walk := by rw [stageAdoption_mhu, walks]
    have staged : Moves d d.stageAdoption.liftPointsUnderfoot.stagePermission :=
      ((stageAdoption_moves walks).trans (liftPointsUnderfoot_moves adopted)).trans (stagePermission_moves _)
    unfold phaseStep
    dsimp only
    split
    · exact staged
    next stays =>
      split
      · exact staged
      · exact staged.trans (stageAdvance_madeOfMoves _ (not_not.mp stays))
  next => exact .refl d

/-! ## The gait index and the walk flag of a frame (R15, R17, R102) -/

/-- A gait index named in WALK or HOLD: none pends when it is the current one (R15). -/
theorem nameGait_moves (g : Fin 8) {d : Device} (mode : d.mhu.mode = .walk ∨ d.mhu.mode = .hold) :
    Moves d { d with gpe := { d.gpe with waiting := if g = d.gpe.current then none else some g } } := by
  by_cases same : g = d.gpe.current
  · rw [if_pos same]
    exact .unpend d
  · rw [if_neg same]
    exact .pend d g same mode

theorem takeGaitIndex_moves (g : Fin 8) (d : Device) : Moves d (d.takeGaitIndex g) := by
  unfold takeGaitIndex
  split
  next mode => exact .index d g mode
  next mode =>
    split
    · exact .refl d
    · exact selectGait_moves g (.inl mode)
  next mode => exact nameGait_moves g (.inl mode)
  next mode => exact nameGait_moves g (.inr mode)
  next => exact .refl d

theorem takeWalkFlag_moves (w : Bool) (d : Device) : Moves d (d.takeWalkFlag w) := by
  have flagged : Moves d { d with mhu := { d.mhu with walkFlag := w } } := .count d w id
  unfold takeWalkFlag
  dsimp only
  split
  next starts =>
    split
    next valid => exact (flagged.trans (.start _ starts.1 valid)).then_raise _
    next => exact flagged.then_raise _
  next => exact flagged

theorem takeFrame_moves (c : CycleContent) (d : Device) : Moves d (d.takeFrame c) := by
  have tagged : Moves d (d.takeTag c.tag) := Moves.of_quiet (raiseIf_moves _ _ _) rfl rfl rfl
  have counted : Moves (d.takeTag c.tag).restartSilence ((d.takeTag c.tag).restartSilence).countFrame := by
    refine .count _ _ fun _ => ?_
    unfold countUp
    omega
  unfold takeFrame
  refine Moves.trans ?_ (takeWalkFlag_moves _ _)
  refine Moves.trans ?_ (takeGaitIndex_moves _ _)
  have counts := (tagged.then_quiet (f := (d.takeTag c.tag).restartSilence) rfl rfl rfl).trans counted
  exact counts.then_quiet rfl rfl rfl

end Device

end Sys2Proof.Machine
end

section
/-!
PROOFS of the families of modes, holds, legs and the master phase (chapters 1, 2 and 6). The operations of the filters,
the supervisor, the links and the cycles are made of the moves, and so is a RESUME.
-/

namespace Sys2Proof.Machine

namespace Device

/-! ## Contact changes (R31 to R40) and the filters (R43 to R54) -/

theorem swingContact_moves (l : Leg) (c : Contact) {d : Device} (swings : d.legState l = .swing) :
    Moves d (d.swingContact l c) := by
  unfold swingContact
  split
  · exact modLeg_moves_of_state l _ (by intro r; rfl) d
  · exact .refl d
  · split
    · split
      · exact (touchDown_moves (by simp [swings])).then_raise _
      · exact raise_moves _ d
    · exact .refl d

theorem contactChange_moves (l : Leg) (c : Contact) (d : Device) : Moves d (d.contactChange l c) := by
  unfold contactChange
  split
  · split
    · exact raise_moves _ d
    · exact .refl d
  · split
    · exact raise_moves _ d
    · exact .refl d
  next swings => exact (swingContact_moves l c swings).trans (completeStop_moves _)
  next lands =>
    split
    · exact (touchDown_moves (by simp [lands])).trans (completeStop_moves _)
    · exact .refl d
  next lowers =>
    split
    · exact touchDown_moves (by simp [lowers])
    · exact .refl d
  · exact .refl d
  · exact .refl d

theorem formContact_moves (l : Leg) (c : Contact) (d : Device) : Moves d (d.formContact l c) := by
  unfold formContact
  dsimp only
  split
  · exact .quiet rfl rfl rfl
  · exact (contactChange_moves l c _).of_quiet rfl rfl rfl

theorem takeSample_moves (l : Leg) (load : Nat) (d : Device) : Moves d (d.takeSample l load) :=
  (raiseIf_moves _ _ _).of_quiet rfl rfl rfl

theorem judgeSlip_moves (l : Leg) (d : Device) : Moves d (d.judgeSlip l) := by
  unfold judgeSlip
  dsimp only
  split
  · exact .quiet rfl rfl rfl
  · split
    · exact .refl d
    · split
      · exact (request_moves (.slip l) _).of_quiet rfl rfl rfl
      · exact .refl d

theorem filterReply_moves (l : Leg) (reply : FootReply) (d : Device) : Moves d (d.filterReply l reply) := by
  unfold filterReply
  split
  · exact (formContact_moves l _ _).of_quiet rfl rfl rfl
  · dsimp only
    refine Moves.trans ?_ (judgeSlip_moves l _)
    refine Moves.then_quiet (Moves.trans ?_ (formContact_moves l _ _)) rfl rfl rfl
    exact (takeSample_moves l _ _).of_quiet rfl rfl rfl

/-! ## The supply and the supervisor (R135 to R144) -/

theorem supplyAction_moves (a : SupplyAction) (d : Device) : Moves d (d.supplyAction a) := by
  cases a with
  | flag => exact raise_moves _ d
  | derate => exact raise_moves _ d
  | sit => exact (raise_moves _ d).trans (sitDemand_moves _)

theorem judgeLevel1_moves (d : Device) : Moves d d.judgeLevel1 := by
  unfold judgeLevel1
  dsimp only
  split
  · exact (supplyAction_moves _ _).of_quiet rfl rfl rfl
  · exact .quiet rfl rfl rfl

theorem judgeLevel2_moves (d : Device) : Moves d d.judgeLevel2 := by
  unfold judgeLevel2
  dsimp only
  split
  · exact (supplyAction_moves _ _).of_quiet rfl rfl rfl
  · exact .quiet rfl rfl rfl

theorem formEstimate_moves (d : Device) : Moves d d.formEstimate :=
  Moves.trans ((judgeLevel1_moves { d with nsv := { d.nsv with estimate := d.leastReport } }).of_quiet rfl rfl rfl)
    (judgeLevel2_moves _)

theorem transactionEnded_moves (l : Leg) (d : Device) : Moves d (d.transactionEnded l) :=
  (formEstimate_moves _).of_quiet rfl rfl rfl

theorem reactToDrive_moves (n : Node) (s : FaultSet) (d : Device) : Moves d (d.reactToDrive n s) := by
  unfold reactToDrive
  dsimp only
  split
  · exact (raiseIf_moves _ _ d).trans (driveReaction_moves n .fault _)
  · exact raiseIf_moves _ _ d

theorem superviseDrive_moves (j : Joint) (reply : DriveReply) (d : Device) : Moves d (d.superviseDrive j reply) := by
  unfold superviseDrive
  dsimp only
  refine Moves.trans ?_ (formEstimate_moves _)
  exact (reactToDrive_moves _ _ _).of_quiet rfl rfl rfl

theorem superviseFoot_moves (l : Leg) (reply : FootReply) (d : Device) : Moves d (d.superviseFoot l reply) := by
  have taken : Moves d ((d.goodOutcome ⟨l, .foot⟩).takeFaults ⟨l, .foot⟩ (footFaults reply)) := .quiet rfl rfl rfl
  have reacted (e : Device) (b : Bool) : Moves e (if b then e.footReaction l .fault else e) := by
    split
    · exact footReaction_moves l .fault e
    · exact .refl e
  unfold superviseFoot
  dsimp only
  split
  · exact taken.trans (reacted _ _)
  · exact (taken.trans (reacted _ _)).trans (formEstimate_moves _)

theorem loseNode_moves (n : Node) (d : Device) : Moves d (d.loseNode n) := by
  have reacted (e : Device) (b : Bool) : Moves e (if b then e else e.driveReaction n .lost) := by
    split
    · exact .refl e
    · exact driveReaction_moves n .lost e
  unfold loseNode
  dsimp only
  split
  · refine Moves.trans ?_ (formContact_moves _ _ _)
    refine Moves.trans ?_ (formEstimate_moves _)
    exact (footReaction_moves _ .lost _).of_quiet rfl rfl rfl
  · refine Moves.trans ?_ (formEstimate_moves _)
    exact (reacted _ _).of_quiet rfl rfl rfl

theorem missedOutcome_moves (n : Node) (d : Device) : Moves d (d.missedOutcome n) := by
  unfold missedOutcome
  split
  · exact loseNode_moves n d
  · exact .quiet rfl rfl rfl

/-! ## The links (R101, R121 to R129) -/

theorem lineFree_moves (l : Leg) (d : Device) : Moves d (d.lineFree l) := by
  unfold lineFree
  split <;> exact .quiet rfl rfl rfl

theorem handOff_moves (l : Leg) (c : LimbCommand) (d : Device) : Moves d (d.handOff l c) := by
  unfold handOff
  split
  · exact .quiet rfl rfl rfl
  · exact (raiseIf_moves _ _ _).of_quiet rfl rfl rfl

theorem judgeLowering_moves (d : Device) : Moves d d.judgeLowering := by
  unfold judgeLowering
  split
  next done => exact (Moves.seat d done.1).then_raise _
  next => exact .refl d

theorem commandDelivered_moves (l : Leg) (c : LimbCommand) (d : Device) : Moves d (d.commandDelivered l c) :=
  (judgeLowering_moves _).of_quiet rfl rfl rfl

theorem frameAbandoned_moves (l : Leg) (d : Device) : Moves d (d.frameAbandoned l) :=
  (transactionEnded_moves l _).of_quiet rfl rfl rfl

theorem readBackBit_moves (l : Leg) (t : Nat) (r : Sample3) (d : Device) : Moves d (d.readBackBit l t r) := by
  unfold readBackBit
  split
  · exact .refl d
  · exact .quiet rfl rfl rfl

theorem countSlot_moves (l : Leg) (x : Slot) (j : SlotJudgement) (d : Device) : Moves d (d.countSlot l x j) := by
  unfold countSlot
  split <;> exact .quiet rfl rfl rfl

theorem takePosition_moves (j : Joint) (x : Int) (d : Device) : Moves d (d.takePosition j x) := .quiet rfl rfl rfl

theorem handOn_moves (l : Leg) (x : Slot) (j : SlotJudgement) (bs : List Byte) (d : Device) :
    Moves d (d.handOn l x j bs) := by
  unfold handOn
  split
  · split
    · refine Moves.trans ?_ (takePosition_moves _ _ _)
      exact (superviseDrive_moves _ _ _).of_quiet rfl rfl rfl
    · exact (superviseFoot_moves l _ d).trans (filterReply_moves l _ _)
  · exact missedOutcome_moves _ d

theorem closeSlot_moves (l : Leg) (x : Slot) (carried : Carried) (d : Device) : Moves d (d.closeSlot l x carried) := by
  unfold closeSlot
  dsimp only
  split
  · exact .quiet rfl rfl rfl
  · refine Moves.trans ?_ (lineFree_moves l _)
    exact (transactionEnded_moves l _).of_quiet rfl rfl rfl

theorem endSlot_moves (l : Leg) (x : Slot) (cs : List RxChar) (carried : Carried) (d : Device) :
    Moves d (d.endSlot l x cs carried) := by
  unfold endSlot
  dsimp only
  refine Moves.trans ?_ (closeSlot_moves l x carried _)
  refine Moves.trans ?_ (handOn_moves l x _ _ _)
  exact (countSlot_moves l x _ _).of_quiet rfl rfl rfl

/-! ## The cycles (R67, R71, R75, R150 to R154) -/

theorem computeMargins_moves (d : Device) : Moves d d.computeMargins := (raiseAll_moves _ _).of_quiet rfl rfl rfl

theorem braceCheck_moves (d : Device) : Moves d d.braceCheck := by
  unfold braceCheck
  split
  · exact request_moves .margin d
  · exact .refl d

/-- A leg keeps its state when the composer has it keep its targets (R77, R78). -/
theorem keepTargets_state (d : Device) (l : Leg) (r : LegRecord) : (d.keepTargets l r).state = r.state := by
  unfold keepTargets
  split
  · rfl
  · split
    · split <;> rfl
    · rfl

theorem compose_moves (d : Device) : Moves d d.compose := by
  unfold compose
  dsimp only
  refine Moves.trans ?_ (Moves.foldl (fun e l => handOff_moves l _ e) Leg.all _)
  refine Moves.trans ?_ (Moves.foldl (fun e q => request_moves q e) _ _)
  refine Moves.trans ?_ (raiseAll_moves _ _)
  refine Moves.then_quiet (mapLegs_moves d.keepTargets fun l fits => ?_) rfl rfl rfl
  rwa [keepTargets_state]

theorem pump_moves (d : Device) : Moves d d.pump := by
  rw [pump_eq_withPort]
  exact .quiet rfl rfl rfl

theorem finishCycle_moves (cause : CycleCause) (d : Device) : Moves d (d.finishCycle cause) := by
  unfold finishCycle
  refine Moves.trans ?_ (pump_moves _)
  exact (((computeMargins_moves d).trans (braceCheck_moves _)).trans (compose_moves _)).then_quiet rfl rfl rfl

theorem acceptFrame_moves (c : CycleContent) (d : Device) : Moves d (d.acceptFrame c) :=
  (((takeFrame_moves c d).trans (updateCounters_moves _)).trans (stepInWalk_moves _ _)).trans (finishCycle_moves _ _)

theorem cycleFrame_moves (c : CycleContent) (d : Device) : Moves d (d.cycleFrame c) := by
  unfold cycleFrame
  split
  · exact .refl d
  · split
    · exact .quiet rfl rfl rfl
    · exact acceptFrame_moves c d

theorem localCycle_moves (d : Device) : Moves d d.localCycle := by
  have counted : Moves d d.startLocalTimer.updateCounters := (updateCounters_moves _).of_quiet rfl rfl rfl
  exact (counted.then_quiet (f := d.startLocalTimer.updateCounters.ageBody) rfl rfl rfl).trans (finishCycle_moves _ _)

theorem silenceExpiry_moves (d : Device) : Moves d d.silenceExpiry := by
  have requested : Moves d (request .linkSilent { d with upp := { d.upp with silenceTimer := none } }) :=
    (request_moves .linkSilent _).of_quiet rfl rfl rfl
  exact requested.then_quiet rfl rfl rfl

/-! ## RESUME (R111 to R113) -/

theorem stateFits_hold_iff (s : LegState) : stateFits .hold s = true ↔ held s := by
  simp [stateFits, held, or_assoc]

theorem popTouchDown_moves (h : Hold) (d : Device) : Moves d (d.popTouchDown h) := by
  rcases d.popTouchDown_cases h with ⟨l, landing, eq⟩ | ⟨-, eq⟩
  · rw [eq]
    exact touchDown_moves (by simp [landing.2])
  · rw [eq]
    exact .refl d

/-- A leg of HOLD is in a state of HOLD still when a pop has brought one leg down (R111). -/
theorem popTouchDown_held (h : Hold) {d : Device} {l : Leg} (was : held (d.legState l)) :
    held ((d.popTouchDown h).legState l) := by
  rcases d.popTouchDown_cases h with ⟨m, -, eq⟩ | ⟨-, eq⟩
  · rw [eq, touchDown_legState]
    split
    · exact .inl rfl
    · exact was
  · rwa [eq]

/-- What the last pop of a hold has left when the part leaves HOLD (R111, R112): `p` differs from `d` in the stack, now
empty, and in a leg it may have brought down. -/
structure Unheld (d p : Device) : Prop where
  mhu : p.mhu = { d.mhu with stack := [] }
  gpe : p.gpe = { d.gpe with legs := p.gpe.legs }
  tbs : p.tbs = d.tbs
  legs : ∀ l, held (d.legState l) → held (p.legState l)

theorem unheld_of_last {d : Device} {top : HoldRecord} (stack : d.mhu.stack = [top]) :
    Unheld d (d.unstacked.popTouchDown top.hold) where
  mhu := by
    rw [popTouchDown_mhu]
    show ({ d.mhu with stack := d.mhu.stack.dropLast } : ModeUnit) = _
    rw [stack]
    rfl
  gpe := (popTouchDown_gpe top.hold d.unstacked).trans rfl
  tbs := (popTouchDown_frame top.hold d.unstacked).1
  legs := fun _ was => popTouchDown_held top.hold (d := d.unstacked) was

theorem Unheld.gaitRecord {d p : Device} (h : Unheld d p) : p.gaitRecord = d.gaitRecord := by
  unfold Device.gaitRecord gaitEntry
  rw [h.tbs, h.gpe]

/-- The part leaves HOLD for STAND (R112). -/
theorem Unheld.stand_moves {d p : Device} (h : Unheld d p) (hold : d.mhu.mode = .hold) :
    Moves d p.releaseLegs.enterStand := by
  refine enterStand_moves (.inr hold) (.inl rfl) (by rw [releaseLegs_mhu, h.mhu]) (legs := p.releaseLegs.gpe.legs) ?_
    (by rw [(releaseLegs_frame p).1, h.tbs]) fun l fits => ?_
  · rw [releaseLegs_gpe, h.gpe]
  · rw [hold] at fits
    exact releaseLegs_legState l (h.legs l ((stateFits_hold_iff _).mp fits))

theorem groundedAtPush_fits {r : HoldRecord} (grounded : groundedAtPush r = true) (l : Leg) :
    stateFits .walk (r.legStates.get l) = true := by
  simp only [groundedAtPush, PerLeg.toList, List.all_cons, List.all_nil, Bool.and_true, Bool.and_eq_true,
    Bool.or_eq_true, decide_eq_true_eq] at grounded
  obtain ⟨fl, fr, rl, rr⟩ := grounded
  have known : r.legStates.get l = .stance ∨ r.legStates.get l = .liftWait := by
    cases l
    exacts [fl, fr, rl, rr]
  rcases known with state | state <;> simp [state, stateFits]

/-- The part leaves HOLD for WALK, restored or started afresh (R113). -/
theorem Unheld.walk_moves {d p : Device} (h : Unheld d p) (hold : d.mhu.mode = .hold) {r : HoldRecord}
    (mem : r ∈ d.mhu.stack) (walked : r.modeAtPush = .walk) :
    Moves d (((if groundedAtPush r then p.restoreWalk r else p.freshStart).setMode .walk).raise .modeChanged) := by
  have entered {e : Device} (mhu : e.mhu = p.mhu) :
      (e.setMode .walk).mhu = { d.mhu with mode := .walk, stack := [] } := by
    show ({ e.mhu with mode := .walk } : ModeUnit) = _
    rw [mhu, h.mhu]
  split
  next grounded =>
    have resumed := Moves.resume d r r.phase (p.restoreWalk r).gpe.legs hold mem walked (.inl rfl) fun l _ => by
      show stateFits .walk ((p.restoreWalk r).legState l) = true
      rw [restoreWalk_legState]
      exact groundedAtPush_fits grounded l
    refine (resumed.then_quiet (f := (p.restoreWalk r).setMode .walk) (entered rfl) ?_ ?_).then_raise _
    · show ({ p.gpe with phase := r.phase, legs := (p.restoreWalk r).gpe.legs } : GaitEngine) = _
      rw [h.gpe]
    · exact h.tbs
  next =>
    have resumed := Moves.resume d r d.gaitRecord.e p.freshStart.gpe.legs hold mem walked (.inr rfl) fun l fits => by
      rw [stateFits_hold_iff] at fits
      show stateFits .walk (p.freshStart.leg l).state = true
      rw [freshStart_leg]
      show stateFits .walk (p.releaseLegs.legState l) = true
      rw [releaseLegs_legState l (h.legs l fits)]
      rfl
    refine (resumed.then_quiet (f := p.freshStart.setMode .walk) (entered (releaseLegs_mhu p)) ?_ ?_).then_raise _
    · show ({ p.releaseLegs.gpe with phase := p.releaseLegs.gaitRecord.e, legs := p.freshStart.gpe.legs } : GaitEngine)
        = _
      rw [releaseLegs_gaitRecord, h.gaitRecord, releaseLegs_gpe, h.gpe]
    · show p.releaseLegs.tbs = _
      rw [(releaseLegs_frame p).1, h.tbs]

theorem popRecord_moves {d : Device} (hold : d.mhu.mode = .hold) {below : List HoldRecord} {top : HoldRecord}
    (stack : d.mhu.stack = below ++ [top]) : Moves d (d.popRecord top) := by
  by_cases more : below = []
  · have last : d.mhu.stack = [top] := by rw [stack, more, List.nil_append]
    have unheld := unheld_of_last last
    rw [popRecord_of_last last]
    by_cases walk : top.modeAtPush = .walk ∧ (d.unstacked.popTouchDown top.hold).mhu.walkFlag = true
    · rw [leaveHold_of_walk walk]
      exact unheld.walk_moves hold (by simp [last]) walk.1
    · rw [leaveHold_of_stand walk]
      exact unheld.stand_moves hold
  · rw [popRecord_of_more stack more]
    have left : d.mhu.stack.dropLast ≠ [] := by rwa [stack, List.dropLast_concat]
    exact ((Moves.pop d left).then_raise .holdResumed).trans (popTouchDown_moves top.hold d.unstacked)

end Device

end Sys2Proof.Machine
end

section
/-!
PROOFS of the families of modes, holds, legs and the master phase (chapters 1, 2 and 6): O56 and O57. A step is made of
the moves but for a reset, ARM, DISARM and a table write, and of those the invariants are proved one by one.
-/

namespace Sys2Proof.Machine

namespace Device

/-! ## What a predicate of the modes must survive -/

/-- ARM finds no obstacle only where the current gait record and the three tables are valid (R98). -/
theorem flags_of_no_obstacle {d : Device} (none : d.armObstacle = none) :
    d.gaitEntry.valid = true ∧ d.tbs.jointValid = true ∧ d.tbs.poseValid = true ∧ d.tbs.liftValid = true := by
  unfold armObstacle at none
  split at none
  · cases none
  · split at none
    · cases none
    · cases gait : d.gaitEntry.valid <;> cases joint : d.tbs.jointValid <;> cases pose : d.tbs.poseValid <;>
        cases lift : d.tbs.liftValid <;> simp [gait, joint, pose, lift] at none ⊢

/-- A predicate that the moves, the resets, ARM, DISARM and the table writes keep, and that has the hold stack
coherent. -/
structure MoveInvariant (P : Device → Prop) : Prop where
  coherent : ∀ {d}, P d → d.holdsCoherent = true
  moves : ∀ {d e}, Moves d e → P d → P e
  reset : ∀ {d e}, P d → e.mhu = modeAtReset → e.gpe = engineAtReset → e.tbs = d.tbs ∨ e.tbs = tablesAtPowerUp → P e
  judged : ∀ {d}, P d → d.mhu.mode = .unarmed → P d.armJudgements
  armed : ∀ {d}, P d → d.mhu.mode = .unarmed → d.armObstacle = none → P d.enterArmed
  disarmed : ∀ {d}, P d → P d.disarmed
  write : ∀ {d} (t : TableId) (r : EntryRange) (data : List Byte), P d → d.writeBarred t r = false →
    P (d.writeTable t r data).2

/-- A predicate that reads the modes, the engine and the gait table alone is kept by the writes of the other tables. -/
theorem writeTable_keeps {P : Device → Prop}
    (tables : ∀ {d e}, P d → e.mhu = d.mhu → e.gpe = d.gpe → e.tbs.gait = d.tbs.gait → P e)
    (t : TableId) (r : EntryRange) (data : List Byte) {d : Device} (h : P d)
    (gait : t = .gait → P (d.writeGait r data).2) : P (d.writeTable t r data).2 := by
  cases t with
  | gait => exact gait rfl
  | joint =>
    show P (writeJoint r data d).2
    unfold writeJoint
    dsimp only
    split
    · split
      · exact h
      · exact tables h rfl rfl rfl
    · exact tables h rfl rfl rfl
  | pose =>
    show P (writePose r data d).2
    unfold writePose
    dsimp only
    split
    · split
      · exact h
      · exact tables h rfl rfl rfl
    · exact tables h rfl rfl rfl
  | liftProfile =>
    show P (writeLiftProfile r data d).2
    unfold writeLiftProfile
    dsimp only
    split
    · split
      · exact h
      · exact tables h rfl rfl rfl
    · exact tables h rfl rfl rfl
  | linkConfig => exact tables h rfl rfl rfl
  | deviceConfig => exact tables h rfl rfl rfl

namespace MoveInvariant

variable {P : Device → Prop}

theorem quiet (inv : MoveInvariant P) {d e : Device} (h : P d) (mhu : e.mhu = d.mhu) (gpe : e.gpe = d.gpe)
    (tbs : e.tbs = d.tbs) : P e := inv.moves (.quiet mhu gpe tbs) h

theorem arm (inv : MoveInvariant P) {d : Device} (h : P d) : P d.arm.2 := by
  by_cases mode : d.mhu.mode = .unarmed
  · have judged := inv.judged h mode
    cases found : d.armJudgements.armObstacle with
    | some obstacle =>
      rw [arm_of_obstacle mode found]
      exact judged
    | none =>
      rw [arm_of_fit mode found]
      exact inv.armed judged mode found
  · unfold Device.arm
    rw [if_pos mode]
    exact h

theorem disarm (inv : MoveInvariant P) {d : Device} (h : P d) : P d.disarm.2 := by
  unfold Device.disarm
  split
  · exact h
  · exact inv.disarmed h

theorem resume (inv : MoveInvariant P) {d : Device} (h : P d) : P d.resume.2 := by
  unfold Device.resume
  split
  · exact h
  next top found =>
    split
    · obtain ⟨below, stack⟩ := List.getLast?_eq_some_iff.mp found
      obtain ⟨_, _, hold, _⟩ := (holdsCoherent_iff d).mp (inv.coherent h)
      exact inv.moves (popRecord_moves (hold.mpr (by simp [stack])) stack) h
    · exact h

theorem controlAct (inv : MoveInvariant P) {act : Device → Answer × Device} (control : ControlAct act) {d : Device}
    (h : P d) : P (act d).2 := by
  cases control with
  | arm => exact inv.arm h
  | disarm => exact inv.disarm h
  | hold =>
    unfold hostHold
    split
    · exact h
    · exact inv.moves (request_moves .host d) h
  | resume => exact inv.resume h
  | sit =>
    unfold hostSit
    split
    · exact h
    · exact inv.moves (sitDemand_moves d) h
  | restart => exact inv.quiet h rfl rfl rfl
  | clearFaults => exact inv.quiet h rfl rfl rfl
  | ident => exact h

theorem clearFactors (inv : MoveInvariant P) (p : Factor → Bool) {d : Device} (h : P d) : P (d.clearFactors p) :=
  inv.quiet h (by simp) (by simp) (by simp)

theorem requestAct (inv : MoveInvariant P) {act : Device → Answer × Device} (request : RequestAct act) {d : Device}
    (h : P d) : P (act d).2 := by
  cases request with
  | tableWrite rest =>
    rcases tableWrite_device rest d with same | ⟨t, r, data, _, allowed, written⟩
    · rwa [same]
    · rw [written]
      exact inv.write t r data h allowed
  | tableRead rest => rwa [tableRead_device]
  | readState rest =>
    show P (readState rest d).2
    unfold readState readSections
    split
    · split
      · exact h
      · dsimp only
        split
        · exact inv.clearFactors _ h
        · exact h
    · exact h
  | clearNamed rest =>
    show P (clearNamed rest d).2
    unfold clearNamed
    split
    · exact h
    · exact inv.clearFactors _ h
  | malformed body =>
    show P (useEchoes body d)
    unfold useEchoes
    split
    · exact inv.quiet h rfl rfl rfl
    · exact h
  | control rest control => exact plainControl_keeps (inv.controlAct control) h

/-- No operation of a command breaks such a predicate. -/
theorem stepped (inv : MoveInvariant P) {d e : Device} (stepped : Stepped d e) (h : P d) : P e := by
  cases stepped with
  | same => exact h
  | beginReset cause => exact inv.reset h rfl rfl (.inr rfl)
  | endReset cause => exact inv.quiet h rfl rfl rfl
  | restartReset => exact inv.reset h rfl rfl (.inl rfl)
  | cycleFrame c => exact inv.moves (cycleFrame_moves c d) h
  | formDrop => exact inv.quiet h rfl rfl rfl
  | crcDrop => exact inv.quiet h rfl rfl rfl
  | request kind tag act => exact manage_keeps (fun _ _ h => inv.quiet h rfl rfl rfl) (inv.requestAct act) h
  | transmitted _ => exact inv.moves ((pump_moves _).of_quiet (d := d) rfl rfl rfl) h
  | silence _ => exact inv.moves (silenceExpiry_moves d) h
  | localCycle _ => exact inv.moves (localCycle_moves d) h
  | preambleEnd l _ => exact inv.moves (lineFree_moves l d) h
  | breakEnd l _ _ => exact inv.quiet h rfl rfl rfl
  | delivered l c _ _ => exact inv.moves (commandDelivered_moves l c d) h
  | readBack l bitTime samples _ _ => exact inv.moves (readBackBit_moves l bitTime samples d) h
  | abandoned l _ => exact inv.moves (frameAbandoned_moves l d) h
  | slotEnd l x heard cs _ => exact inv.moves (endSlot_moves l x cs _ d) h

end MoveInvariant

/-! ## The hold stack and the leg states (R22, R96, R112) -/

theorem holdsCoherent_unarmed {d e : Device} (h : d.holdsCoherent = true) (mode : e.mhu.mode = .unarmed)
    (sit : e.mhu.sit = none) (stack : e.mhu.stack = []) (frames : e.mhu.framesSinceSilence = d.mhu.framesSinceSilence) :
    e.holdsCoherent = true := by
  obtain ⟨_, _, _, _, bound, _⟩ := (holdsCoherent_iff d).mp h
  exact holdsCoherent_of_empty stack (by simp [mode]) (by simp [mode, sit]) (frames ▸ bound)

theorem holdsCoherent_reset {e : Device} (mhu : e.mhu = modeAtReset) : e.holdsCoherent = true := by
  unfold holdsCoherent
  rw [mhu]
  decide

/-- Armed, the part stands without a hold (R98). -/
theorem holdsCoherent_enterArmed {d : Device} (h : d.holdsCoherent = true) (mode : d.mhu.mode = .unarmed) :
    d.enterArmed.holdsCoherent = true := by
  obtain ⟨_, _, _, sit, bound, _⟩ := (holdsCoherent_iff d).mp h
  have stack : d.mhu.stack = [] := stack_eq_nil h (by simp [mode])
  have mhu : d.enterArmed.mhu = { d.mhu with mode := .stand } := rfl
  refine holdsCoherent_of_empty (by rw [mhu]; exact stack) (by simp [mhu]) ?_ (by rw [mhu]; exact bound)
  rw [mhu]
  simp [sit, mode]

theorem writeGait_mhu (r : EntryRange) (data : List Byte) (d : Device) : (d.writeGait r data).2.mhu = d.mhu := by
  rw [writeGait_eq]

/-- The Mode and Hold Unit through a step (R96). -/
theorem holds_moveInvariant : MoveInvariant fun d => d.holdsCoherent = true where
  coherent := id
  moves := Moves.holdsCoherent
  reset := fun _ mhu _ _ => holdsCoherent_reset mhu
  judged := fun h _ => h
  armed := fun h mode _ => holdsCoherent_enterArmed h mode
  disarmed := fun h => holdsCoherent_unarmed h rfl rfl rfl rfl
  write := fun t r data h _ => writeTable_keeps (P := fun d => d.holdsCoherent = true)
    (fun h mhu _ _ => (holdsCoherent_congr mhu).trans h) t r data h
    fun _ => (holdsCoherent_congr (writeGait_mhu r data _)).trans h

theorem legsFitMode_unarmed {e : Device} (mode : e.mhu.mode = .unarmed) (legs : e.gpe.legs = .replicate unsetLeg) :
    e.legsFitMode = true := by
  refine (legsFitMode_iff e).mpr fun l => ?_
  rw [mode, legState, leg, legs, PerLeg.get_replicate]
  rfl

theorem legsFitMode_enterArmed (d : Device) : d.enterArmed.legsFitMode = true := by
  refine (legsFitMode_iff _).mpr fun l => ?_
  have stands : d.enterArmed.legState l = .stance := by
    show ((d.setMode .stand).mapLegs _ |>.leg l).state = _
    rw [mapLegs_leg]
    rfl
  rw [stands]
  rfl

theorem legsFitMode_congr {d e : Device} (h : d.legsFitMode = true) (mhu : e.mhu = d.mhu) (gpe : e.gpe = d.gpe)
    (_gait : e.tbs.gait = d.tbs.gait) : e.legsFitMode = true := by
  unfold legsFitMode legState leg at h ⊢
  rwa [mhu, gpe]

theorem writeGait_legsFitMode (r : EntryRange) (data : List Byte) (d : Device) :
    (d.writeGait r data).2.legsFitMode = d.legsFitMode := by
  rw [writeGait_eq]
  rfl

/-- The hold stack and the leg states through a step (R22, R96). -/
theorem legs_moveInvariant : MoveInvariant fun d => d.holdsCoherent = true ∧ d.legsFitMode = true where
  coherent := And.left
  moves := fun moved h => ⟨moved.holdsCoherent h.1, moved.legsFitMode h.2⟩
  reset := fun _ mhu gpe _ => ⟨holdsCoherent_reset mhu, legsFitMode_unarmed (by rw [mhu]; rfl) (by rw [gpe]; rfl)⟩
  judged := fun h _ => h
  armed := fun h mode _ => ⟨holdsCoherent_enterArmed h.1 mode, legsFitMode_enterArmed _⟩
  disarmed := fun h => ⟨holds_moveInvariant.disarmed h.1, legsFitMode_unarmed rfl rfl⟩
  write := fun t r data h allowed => ⟨holds_moveInvariant.write t r data h.1 allowed,
    writeTable_keeps (P := fun d => d.legsFitMode = true) legsFitMode_congr t r data h.2
      fun _ => (writeGait_legsFitMode r data _).trans h.2⟩

/-! ## The master phase (R5, R7, R8, R18) -/

/-- The invariants of the master phase of a part that neither stands nor walks nor holds. -/
theorem onRing_of_down {e : Device} (holds : e.holdsCoherent = true)
    (mode : e.mhu.mode = .unarmed ∨ e.mhu.mode = .safeSit)
    (earned : ∀ g, (e.tbs.gaitAt g).valid = true → (e.tbs.gaitAt g).record.isValid = true)
    (waiting : e.gpe.waiting = none) (phase : e.gpe.phase = 0) : OnRing e := by
  have down : ¬ e.up := fun up => not_down_of_up up mode
  have stack : e.mhu.stack = [] := stack_eq_nil holds fun hold => down (.inr (.inr hold))
  obtain ⟨gait, ring⟩ := ring_of_empty stack earned waiting (.inr phase) (fun up => absurd up down)
    fun walk => absurd (.inr (.inl walk)) down
  exact ⟨holds, gait, ring⟩

/-- In UNARMED and SAFE_SIT no gait pends and the master phase is 0. -/
theorem OnRing.rest_of_down {d : Device} (h : OnRing d) (mode : d.mhu.mode = .unarmed ∨ d.mhu.mode = .safeSit) :
    d.gpe.waiting = none ∧ d.gpe.phase = 0 := by
  obtain ⟨_, waiting, phase⟩ := (gaitCoherent_iff d).mp h.gait
  have down : ¬ d.up := fun up => not_down_of_up up mode
  refine ⟨?_, phase.resolve_left down⟩
  rcases waiting with walk | hold | none
  · exact absurd (.inr (.inl walk)) down
  · exact absurd (.inr (.inr hold)) down
  · exact none

/-- After power-up no gait record is valid (R6). -/
theorem tablesAtPowerUp_earned (g : Fin 8) (valid : (tablesAtPowerUp.gaitAt g).valid = true) :
    (tablesAtPowerUp.gaitAt g).record.isValid = true := by
  rw [show tablesAtPowerUp.gaitAt g = zeroGaitEntry from Vector.getElem_replicate g.isLt] at valid
  cases valid

theorem reset_onRing {d e : Device} (h : OnRing d) (mhu : e.mhu = modeAtReset) (gpe : e.gpe = engineAtReset)
    (tbs : e.tbs = d.tbs ∨ e.tbs = tablesAtPowerUp) : OnRing e := by
  refine onRing_of_down (holdsCoherent_reset mhu) (.inl (by rw [mhu]; rfl)) ?_ (by rw [gpe]; rfl) (by rw [gpe]; rfl)
  rcases tbs with kept | cleared
  · rw [kept]
    exact h.earned
  · rw [cleared]
    exact tablesAtPowerUp_earned

/-- The judgement of the gait records earns every flag it sets (R5, R98). -/
theorem armJudgements_onRing {d : Device} (h : OnRing d) (mode : d.mhu.mode = .unarmed) : OnRing d.armJudgements := by
  obtain ⟨waiting, phase⟩ := h.rest_of_down (.inl mode)
  refine onRing_of_down h.holds (.inl mode) (fun g valid => ?_) waiting phase
  rw [armJudgements_gaitAt] at valid ⊢
  exact valid

/-- At ARM the master phase becomes the E of the current record, which is valid (R8, R98). -/
theorem enterArmed_onRing {d : Device} (h : OnRing d) (mode : d.mhu.mode = .unarmed) (ready : d.armObstacle = none) :
    OnRing d.enterArmed := by
  have valid := (flags_of_no_obstacle ready).1
  have holds := holdsCoherent_enterArmed h.holds mode
  have stack : d.mhu.stack = [] := stack_eq_nil h.holds (by simp [mode])
  obtain ⟨gait, ring⟩ := ring_of_empty (d := d.enterArmed) stack h.earned
    (h.rest_of_down (.inl mode)).1 (.inl (.inl rfl)) (fun _ => e_lt_n_of_isValid (h.earned _ valid))
    (fun walk => by cases walk)
  exact ⟨holds, gait, ring⟩

theorem disarmed_onRing {d : Device} (h : OnRing d) : OnRing d.disarmed :=
  onRing_of_down (holds_moveInvariant.disarmed h.holds) (.inl rfl) h.earned rfl rfl

/-- Every flag a gait write sets is earned (R5). -/
theorem writeGaits_earned {d : Device} (h : OnRing d) (r : EntryRange) (data : List Byte) (g : Fin 8)
    (valid : ((d.tbs.writeGaits r data d.gaitJudge).gaitAt g).valid = true) :
    ((d.tbs.writeGaits r data d.gaitJudge).gaitAt g).record.isValid = true := by
  rw [TableStore.writeGaits_gaitAt] at valid ⊢
  split at valid
  next covered =>
    rw [if_pos covered]
    rw [gaitJudge_eq] at valid
    exact (Bool.and_eq_true_iff.mp valid).2
  next kept =>
    rw [if_neg kept]
    exact h.earned g valid

/-- A stored record has a ring (R3). -/
theorem gaitOfBytes_n_pos (bs : List Byte) : 0 < (gaitOfBytes bs).n := by
  obtain ⟨n, _⟩ := gaitOfBytes_fields (r := gaitOfBytes bs) rfl
  omega

theorem onRing_congr {d e : Device} (h : OnRing d) (mhu : e.mhu = d.mhu) (gpe : e.gpe = d.gpe)
    (gait : e.tbs.gait = d.tbs.gait) : OnRing e := by
  obtain ⟨sameGait, sameRing⟩ := ring_congr mhu gpe gait
  exact ⟨by rw [holdsCoherent_congr mhu, h.holds], by rw [sameGait, h.gait], by rw [sameRing, h.ring]⟩

/-- A gait write while a walk is not under way, or of other records than the current one (R18, R157). -/
theorem writeGait_onRing {d : Device} (r : EntryRange) (data : List Byte) (h : OnRing d)
    (allowed : d.writeBarred .gait r = false) : OnRing (d.writeGait r data).2 := by
  have holds := holds_moveInvariant.write .gait r data h.holds allowed
  change (d.writeGait r data).2.holdsCoherent = true at holds
  obtain ⟨t, stored⟩ : ∃ t, t = d.tbs.writeGaits r data d.gaitJudge := ⟨_, rfl⟩
  have earned : ∀ g, (t.gaitAt g).valid = true → (t.gaitAt g).record.isValid = true := by
    rw [stored]
    exact writeGaits_earned h r data
  obtain ⟨other, waiting, phase⟩ := (gaitCoherent_iff d).mp h.gait
  obtain ⟨_, on, records, walk⟩ := (phaseOnRing_iff d).mp h.ring
  rw [writeGait_eq] at holds ⊢
  rw [← stored] at holds ⊢
  by_cases covers : r.covers d.gpe.current = true
  case neg =>
    have current : t.gaitAt d.gpe.current = d.gaitEntry := by
      rw [stored, TableStore.writeGaits_gaitAt, if_neg covers]
      rfl
    rw [if_neg fun c => covers c.2] at holds ⊢
    refine ⟨holds, h.gait, (phaseOnRing_iff _).mpr ⟨earned, ?_, ?_, ?_⟩⟩
    · show _ ∨ _ ∨ d.gpe.phase < (t.gaitAt d.gpe.current).record.n
      rwa [current]
    · show ∀ r ∈ d.mhu.stack, r.phase < (t.gaitAt d.gpe.current).record.n
      rwa [current]
    · show _ → (t.gaitAt d.gpe.current).valid = true
      rwa [current]
  case pos =>
    have still : d.mhu.mode ≠ .walk ∧ d.mhu.mode ≠ .hold := by
      simpa [writeBarred, covers] using allowed
    have stack : d.mhu.stack = [] := stack_eq_nil h.holds still.2
    by_cases stands : d.mhu.mode = .stand
    · have record : t.gaitAt d.gpe.current = ⟨gaitOfBytes (entryBytesAt .gait r data d.gpe.current),
          d.gaitJudge (gaitOfBytes (entryBytesAt .gait r data d.gpe.current))⟩ := by
        rw [stored, TableStore.writeGaits_gaitAt, if_pos covers]
      have none_waits : d.gpe.waiting = none := (waiting.resolve_left still.1).resolve_left still.2
      rw [if_pos ⟨stands, covers⟩] at holds ⊢
      have on : (if (t.gaitAt d.gpe.current).valid then (t.gaitAt d.gpe.current).record.e else 0)
          < (t.gaitAt d.gpe.current).record.n := by
        split
        next valid => exact e_lt_n_of_isValid (earned _ valid)
        next =>
          rw [record]
          exact gaitOfBytes_n_pos _
      obtain ⟨gait, ring⟩ := ring_of_empty (d := { d with
        tbs := t
        gpe := { d.gpe with phase := if (t.gaitAt d.gpe.current).valid then (t.gaitAt d.gpe.current).record.e else 0 } })
        stack earned none_waits (.inl (.inl stands)) (fun _ => on) (fun walks => absurd walks still.1)
      exact ⟨holds, gait, ring⟩
    · have down : d.mhu.mode = .unarmed ∨ d.mhu.mode = .safeSit := by
        rcases d.up_or_down with (up | up | up) | down
        exacts [absurd up stands, absurd up still.1, absurd up still.2, down]
      rw [if_neg (fun c => stands c.1)] at holds ⊢
      obtain ⟨none_waits, zero⟩ := h.rest_of_down down
      exact onRing_of_down holds down earned none_waits zero

/-- The master phase through a step (R7, R8). -/
theorem onRing_moveInvariant : MoveInvariant OnRing where
  coherent := OnRing.holds
  moves := Moves.onRing
  reset := reset_onRing
  judged := armJudgements_onRing
  armed := enterArmed_onRing
  disarmed := disarmed_onRing
  write := fun t r data h allowed => writeTable_keeps onRing_congr t r data h
    fun gait => writeGait_onRing r data h (gait ▸ allowed)

end Device

/-- Settles O56: what an operation does to the modes, the stack and the legs is made of moves that keep both
invariants. -/
theorem stepKeepsHoldStackAndLegStates : Obligations.StepKeepsHoldStackAndLegStates := by
  intro s t stepped holds
  have taken := step_eq_next stepped
  exact ⟨Device.holds_moveInvariant.stepped taken holds,
    fun legs => (Device.legs_moveInvariant.stepped taken ⟨holds, legs⟩).2⟩

/-- Settles O57: the moves keep the master phase on the ring of the current record, and the writes that could change
that record are barred while a walk is under way. -/
theorem stepKeepsMasterPhaseOnRing : Obligations.StepKeepsMasterPhaseOnRing := by
  intro s t stepped holds gait ring
  have kept := Device.onRing_moveInvariant.stepped (step_eq_next stepped) ⟨holds, gait, ring⟩
  exact ⟨kept.gait, kept.ring⟩

end Sys2Proof.Machine
end

section
/-!
PROOFS of the family of the tables (chapter 5): O60. No move writes a table or takes the part out of UNARMED, so the
flags and the poses are what ARM and the writes have made them.
-/

namespace Sys2Proof.Machine

namespace Device

theorem tablesCoherent_iff (d : Device) : d.tablesCoherent = true ↔
    d.tbs.jointValid = d.tbs.firstInvalidJoint.isNone ∧ d.tbs.liftValid = (peakBreak d.tbs.liftProfile).isNone
    ∧ (d.tbs.poseValid = true → d.tbs.firstInvalidPose = none)
    ∧ (d.mhu.mode ≠ .unarmed → d.tbs.jointValid = true ∧ d.tbs.poseValid = true ∧ d.tbs.liftValid = true) := by
  have earned : (!d.tbs.poseValid || d.tbs.firstInvalidPose.isNone) = true
      ↔ (d.tbs.poseValid = true → d.tbs.firstInvalidPose = none) := by
    cases d.tbs.poseValid <;> simp
  have armed : (d.mhu.mode = .unarmed ∨ d.tbs.jointValid = true ∧ d.tbs.poseValid = true ∧ d.tbs.liftValid = true)
      ↔ (d.mhu.mode ≠ .unarmed → d.tbs.jointValid = true ∧ d.tbs.poseValid = true ∧ d.tbs.liftValid = true) :=
    Decidable.or_iff_not_imp_left
  simp only [tablesCoherent, Bool.and_eq_true, Bool.or_eq_true (decide _), decide_eq_true_eq, beq_iff_eq, earned, and_assoc,
    armed]

/-- A part that is armed is armed still, or one with the same tables was so before. -/
theorem tablesCoherent_of_same {d e : Device} (h : d.tablesCoherent = true) (tbs : e.tbs = d.tbs)
    (armed : e.mhu.mode ≠ .unarmed → d.mhu.mode ≠ .unarmed) : e.tablesCoherent = true := by
  rw [tablesCoherent_iff] at h ⊢
  rw [tbs]
  obtain ⟨joint, lift, pose, flags⟩ := h
  exact ⟨joint, lift, pose, fun up => flags (armed up)⟩

/-! ## The moves (R96, R98) -/

theorem adopt_mhu (g : Fin 8) (d : Device) : (d.adopt g).mhu = d.mhu := rfl

theorem Moves.tbs {d e : Device} (moved : Moves d e) : e.tbs = d.tbs := by
  induction moved with
  | quiet _ _ tbs => exact tbs
  | trans _ _ first second => exact second.trans first
  | push d h _ _ _ => exact (pushRecord_frame h d).1
  | _ => rfl

/-- No move arms the part. -/
theorem Moves.unarmed {d e : Device} (moved : Moves d e) (h : d.mhu.mode = .unarmed) : e.mhu.mode = .unarmed := by
  have down {d : Device} (h : d.mhu.mode = .unarmed) (up : d.up) : False := not_down_of_up up (.inl h)
  induction moved with
  | quiet mhu _ _ => rwa [mhu]
  | trans _ _ first second => exact second (first h)
  | count _ _ _ => exact h
  | seat _ _ => exact h
  | sit _ _ up => exact (down h up).elim
  | push _ _ up _ _ => exact (down h up).elim
  | pop _ _ => exact h
  | legs _ _ _ => exact h
  | adopt _ _ _ _ => exact h
  | unpend _ => exact h
  | pend _ _ _ _ => exact h
  | index _ _ _ => exact h
  | stand _ _ _ mode _ _ => exact (down h (.inr mode)).elim
  | start _ mode _ => exact (down h (.inl mode)).elim
  | resume _ _ _ _ mode _ _ _ _ => exact (down h (.inr (.inr mode))).elim
  | advance _ _ _ => exact h

/-! ## ARM and the writes (R89 to R92, R98) -/

theorem armJudgements_tablesCoherent {d : Device} (h : d.tablesCoherent = true) (mode : d.mhu.mode = .unarmed) :
    d.armJudgements.tablesCoherent = true := by
  obtain ⟨joint, _, _, _⟩ := (tablesCoherent_iff d).mp h
  refine (tablesCoherent_iff _).mpr ⟨joint, rfl, fun valid => ?_, fun armed => absurd mode armed⟩
  exact Option.isNone_iff_eq_none.mp valid

theorem enterArmed_tablesCoherent {d : Device} (h : d.tablesCoherent = true) (ready : d.armObstacle = none) :
    d.enterArmed.tablesCoherent = true := by
  obtain ⟨joint, lift, pose, _⟩ := (tablesCoherent_iff d).mp h
  exact (tablesCoherent_iff _).mpr ⟨joint, lift, pose, fun _ => (flags_of_no_obstacle ready).2⟩

/-- A write while unarmed leaves the pose flag clear; the two other flags are judged. -/
theorem tablesCoherent_unarmed {e : Device} (mode : e.mhu.mode = .unarmed) (pose : e.tbs.poseValid = false)
    (joint : e.tbs.jointValid = e.tbs.firstInvalidJoint.isNone)
    (lift : e.tbs.liftValid = (peakBreak e.tbs.liftProfile).isNone) : e.tablesCoherent = true :=
  (tablesCoherent_iff e).mpr
    ⟨joint, lift, fun valid => absurd (pose.symm.trans valid) Bool.false_ne_true, fun armed => absurd mode armed⟩

/-- A pose record lies within the limits of its leg when each joint allows its three angles (R91). -/
theorem poseRecord_isValid_iff_allows (p : PoseRecord) (limits : PerJoint JointRecord) : p.isValid limits = true ↔
    ∀ i, (limits.get i).allows (p.setDown.get i) = true ∧ (limits.get i).allows (p.reach.get i) = true
      ∧ (limits.get i).allows (p.sit.get i) = true := by
  simp only [PoseRecord.isValid, poseWithin, Bool.and_eq_true]
  constructor
  · rintro ⟨⟨⟨⟨s1, s2⟩, s3⟩, ⟨⟨r1, r2⟩, r3⟩⟩, ⟨⟨t1, t2⟩, t3⟩⟩ i
    cases i
    exacts [⟨s1, r1, t1⟩, ⟨s2, r2, t2⟩, ⟨s3, r3, t3⟩]
  · intro h
    obtain ⟨s1, r1, t1⟩ := h .ha
    obtain ⟨s2, r2, t2⟩ := h .hf
    obtain ⟨s3, r3, t3⟩ := h .kn
    exact ⟨⟨⟨⟨s1, s2⟩, s3⟩, ⟨⟨r1, r2⟩, r3⟩⟩, ⟨⟨t1, t2⟩, t3⟩⟩

theorem firstInvalidPose_eq_none_iff (t : TableStore) : t.firstInvalidPose = none ↔
    ∀ j : Joint, (t.jointAt j).allows ((t.pose.get j.leg).setDown.get j.ix) = true
      ∧ (t.jointAt j).allows ((t.pose.get j.leg).reach.get j.ix) = true
      ∧ (t.jointAt j).allows ((t.pose.get j.leg).sit.get j.ix) = true := by
  rw [TableStore.firstInvalidPose, find?_eq_none_iff_forall Leg.mem_all]
  simp only [Bool.not_eq_true', Bool.not_eq_false, poseRecord_isValid_iff_allows]
  exact ⟨fun h j => h j.leg j.ix, fun h l i => h ⟨l, i⟩⟩

/-- A joint write that excludes no angle of the poses leaves them all within their limits (R90). -/
theorem firstInvalidPose_of_not_excluded {t : TableStore} (fit : t.firstInvalidPose = none) {r : EntryRange}
    {data : List Byte} (allowed : excludedJoint (t.writeJoints r data) r = none) :
    (t.writeJoints r data).firstInvalidPose = none := by
  rw [firstInvalidPose_eq_none_iff] at fit ⊢
  intro j
  by_cases covered : r.first ≤ j.number ∧ j.number < r.first + r.count
  · have inside := ((excludedJoint_iff _ r).1.mp allowed) j
    have within : ¬ poseOutside (t.writeJoints r data) j := fun outside => inside ⟨covered.1, covered.2, outside⟩
    rw [poseOutside_iff, Bool.not_eq_false] at within
    simp only [Bool.and_eq_true] at within
    obtain ⟨⟨setDown, reach⟩, sit⟩ := within
    exact ⟨setDown, reach, sit⟩
  · rw [TableStore.writeJoints_jointAt, if_neg covered]
    exact fit j

/-- A stored joint record is valid: its bounds are parted and its step is at least 1 as it is clamped (R89). -/
theorem jointOfBytes_isValid (bs : List Byte) : (jointOfBytes bs).isValid = true := by
  rw [JointRecord.isValid_iff, jointOfBytes_hi, jointOfBytes_stepMax]
  omega

theorem writeJoints_jointValid_of_valid {t : TableStore} (valid : t.firstInvalidJoint.isNone = true) (r : EntryRange)
    (data : List Byte) : (t.writeJoints r data).jointValid = true := by
  rw [TableStore.firstInvalidJoint_isNone_iff] at valid
  rw [TableStore.writeJoints_jointValid]
  intro j
  rw [TableStore.writeJoints_jointAt]
  split
  · exact jointOfBytes_isValid _
  · exact valid j

theorem writeJoint_tablesCoherent (r : EntryRange) (data : List Byte) {d : Device} (h : d.tablesCoherent = true) :
    (d.writeJoint r data).2.tablesCoherent = true := by
  obtain ⟨joint, lift, pose, flags⟩ := (tablesCoherent_iff d).mp h
  by_cases mode : d.mhu.mode = .unarmed
  · rw [writeJoint_of_unarmed r data mode]
    exact tablesCoherent_unarmed mode rfl rfl lift
  · rw [writeJoint_of_armed r data mode]
    cases allowed : excludedJoint (d.tbs.writeJoints r data) r with
    | some j => exact h
    | none =>
      obtain ⟨jointValid, poseValid, liftValid⟩ := flags mode
      refine (tablesCoherent_iff _).mpr ⟨rfl, lift, fun _ => ?_, fun _ => ⟨?_, poseValid, liftValid⟩⟩
      · exact firstInvalidPose_of_not_excluded (pose poseValid) allowed
      · exact writeJoints_jointValid_of_valid (joint ▸ jointValid) r data

/-- The joint table and the lift profile are no part of a pose write (R91). -/
theorem writePose_tablesCoherent (r : EntryRange) (data : List Byte) {d : Device} (h : d.tablesCoherent = true) :
    (d.writePose r data).2.tablesCoherent = true := by
  obtain ⟨joint, lift, _, flags⟩ := (tablesCoherent_iff d).mp h
  by_cases mode : d.mhu.mode = .unarmed
  · rw [writePose_of_unarmed r data mode]
    exact tablesCoherent_unarmed mode rfl joint lift
  · rw [writePose_of_armed r data mode]
    cases fit : (d.tbs.writePoses r data).firstInvalidPose with
    | some l => exact h
    | none => exact (tablesCoherent_iff _).mpr ⟨joint, lift, fun _ => fit, fun _ => flags mode⟩

/-- A profile taken into the store with its flag judged (R92). -/
theorem setProfile_tablesCoherent {d : Device} (h : d.tablesCoherent = true) {t : TableStore} {lp : Vector Nat 15}
    {valid : Bool} (stored : t = { d.tbs with liftProfile := lp, liftValid := valid })
    (judged : t.liftValid = true ↔ peakBreak t.liftProfile = none)
    (armed : d.mhu.mode ≠ .unarmed → peakBreak t.liftProfile = none) : (d.setTables t).tablesCoherent = true := by
  obtain ⟨joint, _, pose, flags⟩ := (tablesCoherent_iff d).mp h
  have lift : t.liftValid = (peakBreak t.liftProfile).isNone :=
    Bool.eq_iff_iff.mpr (judged.trans Option.isNone_iff_eq_none.symm)
  refine (tablesCoherent_iff _).mpr ⟨?_, lift, ?_, fun up => ?_⟩
  · exact stored ▸ joint
  · exact stored ▸ pose
  · obtain ⟨jointValid, poseValid, _⟩ := flags up
    exact ⟨stored ▸ jointValid, stored ▸ poseValid, judged.mpr (armed up)⟩

theorem writeLiftProfile_tablesCoherent (r : EntryRange) (data : List Byte) {d : Device} (h : d.tablesCoherent = true) :
    (d.writeLiftProfile r data).2.tablesCoherent = true := by
  have kept (armed : d.mhu.mode ≠ .unarmed → peakBreak (d.tbs.writeProfile r data).liftProfile = none) :
      (d.setTables (d.tbs.writeProfile r data)).tablesCoherent = true :=
    setProfile_tablesCoherent h (d.tbs.writeProfile_frame r data) (d.tbs.writeProfile_liftValid r data) armed
  cases broken : peakBreak (d.tbs.writeProfile r data).liftProfile with
  | none =>
    rw [writeLiftProfile_done r data (.inr broken)]
    exact kept fun _ => broken
  | some k =>
    by_cases mode : d.mhu.mode = .unarmed
    · rw [writeLiftProfile_done r data (.inl mode)]
      exact kept fun armed => absurd mode armed
    · rw [writeLiftProfile_refused r data mode broken]
      exact h

theorem writeGait_tablesCoherent (r : EntryRange) (data : List Byte) {d : Device} (h : d.tablesCoherent = true) :
    (d.writeGait r data).2.tablesCoherent = true := by
  rw [writeGait_eq]
  exact h

theorem writeTable_tablesCoherent (t : TableId) (r : EntryRange) (data : List Byte) {d : Device}
    (h : d.tablesCoherent = true) : (d.writeTable t r data).2.tablesCoherent = true := by
  cases t with
  | gait => exact writeGait_tablesCoherent r data h
  | joint => exact writeJoint_tablesCoherent r data h
  | pose => exact writePose_tablesCoherent r data h
  | liftProfile => exact writeLiftProfile_tablesCoherent r data h
  | linkConfig => exact h
  | deviceConfig => exact h

/-- After power-up no pose is valid, and the default profile has its single peak (R91, R92). -/
theorem tablesAtPowerUp_coherent {e : Device} (mhu : e.mhu = modeAtReset) (tbs : e.tbs = tablesAtPowerUp) :
    e.tablesCoherent = true := by
  refine tablesCoherent_unarmed (by rw [mhu]; rfl) (by rw [tbs]; rfl) ?_ ?_
  · rw [tbs]
    decide
  · rw [tbs]
    decide

/-- The tables through a step, with the hold stack, on which a RESUME rests (R89 to R92, R98). -/
theorem tables_moveInvariant : MoveInvariant fun d => d.holdsCoherent = true ∧ d.tablesCoherent = true where
  coherent := And.left
  moves := fun moved h => ⟨moved.holdsCoherent h.1, tablesCoherent_of_same h.2 moved.tbs fun up down => up (moved.unarmed down)⟩
  reset := fun h mhu gpe tbs => ⟨holdsCoherent_reset mhu, tbs.elim
    (fun kept => tablesCoherent_of_same h.2 kept fun up => absurd (by rw [mhu]; rfl) up)
    (tablesAtPowerUp_coherent mhu)⟩
  judged := fun h mode => ⟨h.1, armJudgements_tablesCoherent h.2 mode⟩
  armed := fun h mode ready => ⟨holdsCoherent_enterArmed h.1 mode, enterArmed_tablesCoherent h.2 ready⟩
  disarmed := fun h => ⟨holds_moveInvariant.disarmed h.1, tablesCoherent_of_same h.2 rfl fun up => absurd rfl up⟩
  write := fun t r data h allowed => ⟨holds_moveInvariant.write t r data h.1 allowed,
    writeTable_tablesCoherent t r data h.2⟩

end Device

/-- Settles O60: no move writes a table or arms the part; ARM goes on only with every flag earned, and the writes of an
armed part that would leave a pose outside its limits are refused. -/
theorem stepKeepsPosesWithinLimits : Obligations.StepKeepsPosesWithinLimits := by
  intro s t stepped holds tables
  exact (Device.tables_moveInvariant.stepped (step_eq_next stepped) ⟨holds, tables⟩).2

end Sys2Proof.Machine
end

section
/-!
PROOFS of the family of the sensors (chapters 3, 4 and 8): O58. What the steps of the part write of the margins, of the
Contact Filters and of the Node Supervisor, and what a predicate of the three must survive.
-/

namespace Sys2Proof.Machine

namespace Device

/-- A table write is one of the tables, of the master phase (R18) and of ALERT (R168), and of nothing else. -/
theorem writeTable_frame (t : TableId) (r : EntryRange) (data : List Byte) (d : Device) : ∃ tables phase alert,
    (d.writeTable t r data).2
      = { d with tbs := tables, gpe := { d.gpe with phase := phase }, eeu := { d.eeu with alert := alert } } := by
  have kept : ∃ tables phase alert, d
      = { d with tbs := tables, gpe := { d.gpe with phase := phase }, eeu := { d.eeu with alert := alert } } :=
    ⟨_, _, _, rfl⟩
  have stored (new : TableStore) : ∃ tables phase alert, d.setTables new
      = { d with tbs := tables, gpe := { d.gpe with phase := phase }, eeu := { d.eeu with alert := alert } } :=
    ⟨_, _, _, rfl⟩
  cases t with
  | gait => exact ⟨_, _, _, congrArg Prod.snd (d.writeGait_eq r data)⟩
  | joint =>
    unfold writeTable writeJoint
    dsimp only
    split
    · split
      · exact kept
      · exact stored _
    · exact stored _
  | pose =>
    unfold writeTable writePose
    dsimp only
    split
    · split
      · exact kept
      · exact stored _
    · exact stored _
  | liftProfile =>
    unfold writeTable writeLiftProfile
    dsimp only
    split
    · split
      · exact kept
      · exact stored _
    · exact stored _
  | linkConfig => exact stored _
  | deviceConfig => exact ⟨_, _, _, rfl⟩

/-- The margins, the filters and the supervisor stand. -/
structure Unsensed (d e : Device) : Prop where
  current : e.bal.current = d.bal.current
  prospective : e.bal.prospective = d.bal.prospective
  cfl : e.cfl = d.cfl
  nsv : e.nsv = d.nsv

theorem Unsensed.of_blocks {d e : Device} (bal : e.bal = d.bal) (cfl : e.cfl = d.cfl) (nsv : e.nsv = d.nsv) :
    Unsensed d e := ⟨by rw [bal], by rw [bal], cfl, nsv⟩

/-- A predicate of the margins, the filters and the supervisor that a reset, the margins of a cycle, the clearings, the
end of a transaction and the hand-on of a slot's outcome keep. -/
structure SenseInvariant (P : Device → Prop) : Prop where
  reads : ∀ {d e}, P d → Unsensed d e → P e
  reset : ∀ {e : Device}, e.bal = balanceAtReset → e.cfl = .replicate filterAtReset → e.nsv = supervisorAtReset → P e
  margins : ∀ {d}, P d → P d.computeMargins
  clear : ∀ (p : Factor → Bool) {d}, P d → P (d.clearFactors p)
  latches : ∀ {d}, P d → P d.clearLatches
  transaction : ∀ (l : Leg) {d}, P d → P (d.transactionEnded l)
  handOn : ∀ (l : Leg) (x : Slot) (j : SlotJudgement) (bs : List Byte) {d}, P d → P (d.handOn l x j bs)

namespace SenseInvariant

variable {P : Device → Prop}

theorem of_blocks (inv : SenseInvariant P) {d e : Device} (h : P d) (bal : e.bal = d.bal) (cfl : e.cfl = d.cfl)
    (nsv : e.nsv = d.nsv) : P e := inv.reads h (.of_blocks bal cfl nsv)

theorem finishCycle (inv : SenseInvariant P) (cause : CycleCause) {d : Device} (h : P d) : P (d.finishCycle cause) := by
  refine inv.of_blocks (inv.margins h) ?_ ?_ ?_
  · unfold Device.finishCycle postStatus
    simp
  · unfold Device.finishCycle postStatus
    simp
  · unfold Device.finishCycle postStatus
    simp

theorem acceptFrame (inv : SenseInvariant P) (c : CycleContent) {d : Device} (h : P d) : P (d.acceptFrame c) := by
  obtain ⟨bal, _, _, _, cfl, _, nsv, _⟩ := takeFrame_blocks c d
  have taken : P (d.takeFrame c) := inv.reads h ⟨by rw [bal], by rw [bal], cfl, nsv⟩
  exact inv.finishCycle .atFrame (inv.of_blocks taken (by simp) (by simp) (by simp))

theorem cycleFrame (inv : SenseInvariant P) (c : CycleContent) {d : Device} (h : P d) : P (d.cycleFrame c) := by
  unfold Device.cycleFrame
  split
  · exact h
  · split
    · exact inv.of_blocks h rfl rfl rfl
    · exact inv.acceptFrame c h

theorem localCycle (inv : SenseInvariant P) {d : Device} (h : P d) : P d.localCycle := by
  have counted : P d.startLocalTimer.updateCounters :=
    inv.of_blocks (inv.of_blocks h rfl rfl rfl : P d.startLocalTimer) (by simp) (by simp) (by simp)
  exact inv.finishCycle .atTimer (inv.reads counted ⟨rfl, rfl, rfl, rfl⟩)

theorem silenceExpiry (inv : SenseInvariant P) {d : Device} (h : P d) : P d.silenceExpiry := by
  obtain ⟨_, bal, cfl, _, _, nsv, _⟩ := request_frame .linkSilent { d with upp := { d.upp with silenceTimer := none } }
  have requested : P (request .linkSilent { d with upp := { d.upp with silenceTimer := none } }) :=
    inv.of_blocks h bal cfl nsv
  exact inv.reads requested ⟨rfl, rfl, rfl, rfl⟩

theorem frameAbandoned (inv : SenseInvariant P) (l : Leg) {d : Device} (h : P d) : P (d.frameAbandoned l) :=
  inv.transaction l (inv.of_blocks h rfl rfl rfl)

theorem readBackBit (inv : SenseInvariant P) (l : Leg) (t : Nat) (r : Sample3) {d : Device} (h : P d) :
    P (d.readBackBit l t r) := by
  unfold Device.readBackBit
  split
  · exact h
  · exact inv.of_blocks h rfl rfl rfl

theorem endSlot (inv : SenseInvariant P) (l : Leg) (x : Slot) (cs : List RxChar) (carried : Carried) {d : Device}
    (h : P d) : P (d.endSlot l x cs carried) := by
  obtain ⟨j, judged⟩ : ∃ j, j = judgeSlot (d.link l).settings ⟨l, x⟩ cs := ⟨_, rfl⟩
  have counted : P (d.crcCounted j) := by
    rw [crcCounted_frame]
    exact inv.of_blocks h rfl rfl rfl
  have outcome : P (d.slotOutcome l x j (valuesOf cs)) := by
    unfold slotOutcome
    split
    · exact inv.transaction l (inv.handOn l x j _ counted)
    · exact inv.handOn l x j _ counted
  rw [endSlot_eq, ← judged]
  exact inv.of_blocks outcome rfl rfl rfl

theorem writeTable (inv : SenseInvariant P) (t : TableId) (r : EntryRange) (data : List Byte) {d : Device} (h : P d) :
    P (d.writeTable t r data).2 := by
  obtain ⟨tables, phase, alert, written⟩ := d.writeTable_frame t r data
  rw [written]
  exact inv.of_blocks h rfl rfl rfl

theorem controlAct (inv : SenseInvariant P) {act : Device → Answer × Device} (control : ControlAct act) {d : Device}
    (h : P d) : P (act d).2 := by
  cases control with
  | arm =>
    unfold arm
    split
    · exact h
    · split <;> exact inv.of_blocks h rfl rfl rfl
  | disarm =>
    unfold disarm
    split
    · exact h
    · exact inv.of_blocks h rfl rfl rfl
  | hold =>
    unfold hostHold
    split
    · exact h
    · exact inv.of_blocks h (by simp) (by simp) (by simp)
  | resume =>
    unfold resume
    split
    · exact h
    · split
      · exact inv.of_blocks h (by simp) (by simp) (by simp)
      · exact h
  | sit =>
    unfold hostSit
    split
    · exact h
    · exact inv.of_blocks h (by simp) (by simp) (by simp)
  | restart => exact inv.of_blocks h rfl rfl rfl
  | clearFaults => exact inv.of_blocks (inv.latches h) rfl rfl rfl
  | ident => exact h

theorem requestAct (inv : SenseInvariant P) {act : Device → Answer × Device} (request : RequestAct act) {d : Device}
    (h : P d) : P (act d).2 := by
  cases request with
  | tableWrite rest =>
    rcases tableWrite_device rest d with same | ⟨t, r, data, _, _, written⟩
    · rwa [same]
    · rw [written]
      exact inv.writeTable t r data h
  | tableRead rest => rwa [tableRead_device]
  | readState rest =>
    show P (readState rest d).2
    unfold readState readSections
    split
    · split
      · exact h
      · dsimp only
        split
        · exact inv.clear _ h
        · exact h
    · exact h
  | clearNamed rest =>
    show P (clearNamed rest d).2
    unfold clearNamed
    split
    · exact h
    · exact inv.clear _ h
  | malformed body =>
    show P (useEchoes body d)
    unfold useEchoes
    split
    · exact inv.of_blocks h rfl rfl rfl
    · exact h
  | control rest control => exact plainControl_keeps (inv.controlAct control) h

/-- No operation of a command breaks such a predicate. -/
theorem stepped (inv : SenseInvariant P) {d e : Device} (stepped : Stepped d e) (h : P d) : P e := by
  cases stepped with
  | same => exact h
  | beginReset cause => exact inv.reset rfl rfl rfl
  | endReset cause => exact inv.of_blocks h rfl rfl rfl
  | restartReset => exact inv.reset rfl rfl rfl
  | cycleFrame c => exact inv.cycleFrame c h
  | formDrop => exact inv.of_blocks h rfl rfl rfl
  | crcDrop => exact inv.of_blocks h rfl rfl rfl
  | request kind tag act => exact manage_keeps (fun _ _ h => inv.of_blocks h rfl rfl rfl) (inv.requestAct act) h
  | transmitted _ =>
    unfold endTransmission
    exact inv.of_blocks h (by simp) (by simp) (by simp)
  | silence _ => exact inv.silenceExpiry h
  | localCycle _ => exact inv.localCycle h
  | preambleEnd l _ => exact inv.of_blocks h (by simp) (by simp) (by simp)
  | breakEnd l _ _ => exact inv.of_blocks h rfl rfl rfl
  | delivered l c _ _ => exact inv.of_blocks h (by simp) (by simp) (by simp)
  | readBack l bitTime samples _ _ => exact inv.readBackBit l bitTime samples h
  | abandoned l _ => exact inv.frameAbandoned l h
  | slotEnd l x heard cs _ => exact inv.endSlot l x cs _ h

end SenseInvariant

end Device

end Sys2Proof.Machine
end

section
/-!
PROOFS of the family of the sensors (chapters 3, 4 and 8): the margins, the filters and the supervisor through a step,
and O58.
-/

namespace Sys2Proof.Machine

namespace Device

/-! ## Margins (R56, R64) -/

theorem marginInRange_iff (m : Int) : marginInRange m = true ↔ -2047 ≤ m ∧ m ≤ 2047 := by
  simp [marginInRange]

theorem marginsInRange_iff (d : Device) : d.marginsInRange = true ↔
    marginInRange d.bal.current = true ∧ ∀ l, marginInRange (d.bal.prospective.get l) = true := by
  rw [marginsInRange, Bool.and_eq_true, Leg.all_iff]

theorem marginInRange_marginOf (body : Option BodyState) (s : LegSet) : marginInRange (marginOf body s).value = true :=
  (marginInRange_iff _).mpr (marginOf_mem body s)

theorem computeMargins_marginsInRange (d : Device) : d.computeMargins.marginsInRange = true := by
  rw [marginsInRange_iff, computeMargins_current]
  refine ⟨marginInRange_marginOf _ _, fun l => ?_⟩
  rw [computeMargins_prospective]
  split
  · exact marginInRange_marginOf _ _
  · exact marginInRange_marginOf _ _

theorem marginsInRange_congr {d e : Device} (h : d.marginsInRange = true) (current : e.bal.current = d.bal.current)
    (prospective : e.bal.prospective = d.bal.prospective) : e.marginsInRange = true := by
  unfold marginsInRange at h ⊢
  rwa [current, prospective]

theorem marginsInRange_of_bal {d e : Device} (h : d.marginsInRange = true) (bal : e.bal = d.bal) :
    e.marginsInRange = true := marginsInRange_congr h (by rw [bal]) (by rw [bal])

/-- The margins through a step: only a cycle computes them (R67, R68). -/
theorem margins_senseInvariant : SenseInvariant fun d => d.marginsInRange = true where
  reads := fun h kept => marginsInRange_congr h kept.current kept.prospective
  reset := fun bal _ _ => by
    unfold marginsInRange
    rw [bal]
    decide
  margins := fun _ => computeMargins_marginsInRange _
  clear := fun p _ h => marginsInRange_of_bal h (by simp)
  latches := fun h => marginsInRange_of_bal h rfl
  transaction := fun l _ h => marginsInRange_of_bal h (by simp)
  handOn := fun l x j bs _ h => marginsInRange_of_bal h (by simp)

/-! ## Contact Filters (R43, R48) -/

/-- What holds of the filter of a leg whose foot node is live or not (R43, R48, R50). -/
structure FilterSound (live : Bool) (r : FilterRecord) : Prop where
  contact : r.contact = contactOf live r
  majority : r.majority = r.samples.majority
  chatter : r.chatter ≤ 255

theorem filtersCoherent_iff (d : Device) : d.filtersCoherent = true ↔
    ∀ l, FilterSound (d.node ⟨l, .foot⟩).live (d.cfl.get l) := by
  rw [filtersCoherent, Leg.all_iff]
  refine forall_congr' fun l => ?_
  simp only [filterCoherent, Bool.and_eq_true, decide_eq_true_eq, and_assoc]
  exact ⟨fun ⟨c, m, n⟩ => ⟨c, m, n⟩, fun ⟨c, m, n⟩ => ⟨c, m, n⟩⟩

/-- The filters stand, and so do the foot nodes. -/
theorem filtersCoherent_congr {d e : Device} (h : d.filtersCoherent = true) (cfl : e.cfl = d.cfl)
    (live : ∀ l, (e.node ⟨l, .foot⟩).live = (d.node ⟨l, .foot⟩).live) : e.filtersCoherent = true := by
  rw [filtersCoherent_iff] at h ⊢
  intro l
  rw [cfl, live]
  exact h l

/-- One filter and its foot node change together. -/
theorem filtersCoherent_of_leg {d e : Device} (h : d.filtersCoherent = true) (l : Leg)
    (sound : FilterSound (e.node ⟨l, .foot⟩).live (e.cfl.get l))
    (others : ∀ m, m ≠ l → e.cfl.get m = d.cfl.get m ∧ e.node ⟨m, .foot⟩ = d.node ⟨m, .foot⟩) :
    e.filtersCoherent = true := by
  rw [filtersCoherent_iff] at h ⊢
  intro m
  by_cases same : m = l
  · exact same ▸ sound
  · obtain ⟨record, node⟩ := others m same
    rw [record, node]
    exact h m

theorem clearFactors_filtersCoherent (p : Factor → Bool) {d : Device} (h : d.filtersCoherent = true) :
    (d.clearFactors p).filtersCoherent = true := by
  have node (l : Leg) : (d.clearFactors p).node ⟨l, .foot⟩ = d.node ⟨l, .foot⟩ := by
    unfold node
    simp
  rw [filtersCoherent_iff] at h ⊢
  intro l
  obtain ⟨contact, majority, chatter⟩ := h l
  rw [clearFactors_filter, node]
  refine ⟨contact, majority, ?_⟩
  dsimp only
  split
  · exact Nat.zero_le _
  · exact chatter

/-- The filter of a node that has just been lost (R49). -/
theorem filterSound_lost {live : Bool} {r : FilterRecord} (h : FilterSound live r) :
    FilterSound false { r with contact := .unknown } := ⟨rfl, h.majority, h.chatter⟩

theorem modFilter_cfl_congr (l : Leg) (f : FilterRecord → FilterRecord) {d e : Device} (same : e.cfl = d.cfl) :
    (e.modFilter l f).cfl = (d.modFilter l f).cfl := congrArg (·.modify l f) same

theorem foot_ne_foot {l m : Leg} (other : m ≠ l) : (⟨m, .foot⟩ : Node) ≠ ⟨l, .foot⟩ := by
  simpa using other

theorem foot_ne_drive (m : Leg) {n : Node} (drive : n.slot ≠ .foot) : (⟨m, .foot⟩ : Node) ≠ n := by
  rintro rfl
  exact drive rfl

/-- A miss leaves the filters as they are, but for that of a foot node it loses (R49, R135). -/
theorem missedOutcome_filtersCoherent (n : Node) {d : Device} (h : d.filtersCoherent = true) :
    (d.missedOutcome n).filtersCoherent = true := by
  obtain ⟨kept, lost, others⟩ := d.missedOutcome_missedBy n
  by_cases third : (d.node n).misses = 2 ∧ (d.node n).live = true
  · rw [missedOutcome_of_lost third] at kept lost others ⊢
    obtain ⟨node, contact, _⟩ := lost third
    by_cases foot : n.slot = .foot
    · obtain ⟨l, x⟩ := n
      obtain rfl : x = .foot := foot
      have record : (d.loseNode ⟨l, .foot⟩).cfl = (d.modFilter l fun r => { r with contact := .unknown }).cfl := by
        rw [loseNode_of_foot, loseFoot_eq]
        refine modFilter_cfl_congr l _ ?_
        rw [(formEstimate_watched _).cfl, (footReaction_reacted l .lost _).cfl]
        rfl
      refine filtersCoherent_of_leg h l ?_ fun m other => ⟨?_, others _ (foot_ne_foot other)⟩
      · rw [node, record]
        exact (modFilter_filter_self l _ d).symm ▸ filterSound_lost ((filtersCoherent_iff d).mp h l)
      · rw [record]
        exact modFilter_filter_ne _ d other
    · refine filtersCoherent_congr h ?_ fun m => by rw [others _ (foot_ne_drive m foot)]
      rw [loseNode_of_drive foot, (formEstimate_watched _).cfl]
      split
      · rfl
      · exact (driveReaction_reacted n .lost _).cfl
  · obtain ⟨node, cfl, _⟩ := kept third
    refine filtersCoherent_congr h cfl fun m => ?_
    by_cases same : (⟨m, .foot⟩ : Node) = n
    · subst same
      rw [node]
    · rw [others _ same]

/-- A foot reply forms the contact state of a node that it has made live (R48, R49, R51). -/
theorem filterReply_filterSound {l : Leg} (reply : FootReply) {d : Device} {live : Bool}
    (h : FilterSound live (d.cfl.get l)) : FilterSound true ((d.filterReply l reply).cfl.get l) := by
  cases fault : reply.sensorFault with
  | true =>
    rw [filterReply_filter_of_fault d fault]
    exact ⟨rfl, h.majority, h.chatter⟩
  | false =>
    obtain ⟨reported, record⟩ := filterReply_filter_of_sound (l := l) d fault
    rw [record]
    refine ⟨rfl, rfl, ?_⟩
    show (if _ then _ else saturate _ : Nat) ≤ 255
    have bound := h.chatter
    split
    · exact bound
    · simp [saturate, countUp]

theorem handOn_foot_filtersCoherent (l : Leg) (reply : FootReply) {d : Device} (h : d.filtersCoherent = true) :
    ((d.superviseFoot l reply).filterReply l reply).filtersCoherent = true := by
  have cfl : (d.superviseFoot l reply).cfl = d.cfl := by simp
  have node (n : Node) : ((d.superviseFoot l reply).filterReply l reply).node n = (d.superviseFoot l reply).node n := by
    unfold Device.node
    simp
  have before : FilterSound (d.node ⟨l, .foot⟩).live ((d.superviseFoot l reply).cfl.get l) := by
    rw [cfl]
    exact (filtersCoherent_iff d).mp h l
  refine filtersCoherent_of_leg h l ?_ fun m other => ⟨?_, ?_⟩
  · rw [node, superviseFoot_node_self]
    exact filterReply_filterSound reply before
  · rw [filterReply_filter_ne reply _ other, cfl]
  · rw [node, superviseFoot_node_ne (foot_ne_foot other)]

theorem handOn_filtersCoherent (l : Leg) (x : Slot) (j : SlotJudgement) (bs : List Byte) {d : Device}
    (h : d.filtersCoherent = true) : (d.handOn l x j bs).filtersCoherent = true := by
  cases j with
  | good noisy =>
    have drive (i : JointIx) : (d.handOn l i.slot (.good noisy) bs).filtersCoherent = true := by
      obtain ⟨links, handed⟩ := d.handOn_drive_noLinks ⟨l, i⟩ noisy bs
      rw [show d.handOn l i.slot (.good noisy) bs = _ from handed]
      refine filtersCoherent_congr h ?_ fun m => ?_
      · show (d.superviseDrive ⟨l, i⟩ (driveReply bs)).cfl = d.cfl
        simp
      · have other : (⟨m, .foot⟩ : Node) ≠ ⟨l, i.slot⟩ := foot_ne_drive m (by cases i <;> simp [JointIx.slot])
        exact congrArg NodeRecord.live (d.superviseDrive_node_ne ⟨l, i⟩ (driveReply bs) other)
    cases x with
    | ha => exact drive .ha
    | hf => exact drive .hf
    | kn => exact drive .kn
    | foot => exact handOn_foot_filtersCoherent l (footReply bs) h
  | noReply | short | framing | crcFailed | wrongNode => exact missedOutcome_filtersCoherent ⟨l, x⟩ h

/-- The filters through a step: only a slot's outcome changes a contact state or a foot node's liveness. -/
theorem filters_senseInvariant : SenseInvariant fun d => d.filtersCoherent = true where
  reads := fun h kept => filtersCoherent_congr h kept.cfl fun l => by unfold node; rw [kept.nsv]
  reset := fun _ cfl nsv => by
    unfold filtersCoherent filterCoherent contact node
    rw [cfl, nsv]
    decide
  margins := fun h => filtersCoherent_congr h (by simp) fun l => by unfold node; simp
  clear := fun p _ h => clearFactors_filtersCoherent p h
  latches := fun h => filtersCoherent_congr h rfl fun l => by rw [clearLatches_node]
  transaction := fun l d h => filtersCoherent_congr h (transactionEnded_watched l d).cfl
    fun m => by rw [(transactionEnded_watched l d).node]
  handOn := handOn_filtersCoherent

end Device

end Sys2Proof.Machine
end

section
/-!
PROOFS of the family of the sensors (chapters 3, 4 and 8): the node records, the voltage reports and the estimate
through a step, and O58.
-/

namespace Sys2Proof.Machine

namespace Device

/-! ## The supervisor (R134, R142) -/

/-- What holds of a node record: at most three misses, and at most two while the node is live (R135). -/
def nodeSound (r : NodeRecord) : Prop := r.misses ≤ 3 ∧ (r.live = true → r.misses ≤ 2)

/-- The voltage report of a joint's drive. -/
def voltage (d : Device) (j : Joint) : VoltageReport := (d.nsv.voltages.get j.leg).get j.ix

theorem supervisorCoherent_iff (d : Device) : d.supervisorCoherent = true ↔
    (∀ n, nodeSound (d.node n)) ∧ (∀ j, (d.voltage j).age ≤ 4) ∧ d.nsv.estimate = d.leastReport := by
  have node (n : Node) : (decide ((d.node n).misses ≤ 3) && (!(d.node n).live || decide ((d.node n).misses ≤ 2))) = true
      ↔ nodeSound (d.node n) := by
    unfold nodeSound
    cases (d.node n).live <;> simp
  simp only [supervisorCoherent, Bool.and_eq_true, List.all_eq_true, node, Node.mem_all, Joint.mem_all, true_implies,
    decide_eq_true_eq, and_assoc]
  rfl

/-- The estimate reads the liveness and the reports of the drives (R142). -/
theorem leastReport_congr {d e : Device} (voltages : e.nsv.voltages = d.nsv.voltages)
    (live : ∀ j : Joint, (e.node ⟨j.leg, j.ix.slot⟩).live = (d.node ⟨j.leg, j.ix.slot⟩).live) :
    e.leastReport = d.leastReport := by
  have reports : e.countingReports = d.countingReports := by
    refine List.filterMap_congr fun j _ => ?_
    unfold countingReport
    rw [live, voltages]
  unfold leastReport
  rw [reports]

/-- The records and the reports are sound, whatever the estimate is. -/
def recordsSound (d : Device) : Prop := (∀ n, nodeSound (d.node n)) ∧ ∀ j, (d.voltage j).age ≤ 4

theorem recordsSound_of_coherent {d : Device} (h : d.supervisorCoherent = true) : d.recordsSound := by
  obtain ⟨nodes, ages, _⟩ := (supervisorCoherent_iff d).mp h
  exact ⟨nodes, ages⟩

theorem recordsSound_congr {d e : Device} (h : d.recordsSound) (nodes : ∀ n, e.node n = d.node n)
    (voltages : e.nsv.voltages = d.nsv.voltages) : e.recordsSound := by
  obtain ⟨records, ages⟩ := h
  refine ⟨fun n => by rw [nodes]; exact records n, fun j => ?_⟩
  unfold voltage
  rw [voltages]
  exact ages j

/-- The estimate is formed of the reports as they stand (R142). -/
theorem formEstimate_supervisorCoherent {d : Device} (h : d.recordsSound) : d.formEstimate.supervisorCoherent = true := by
  obtain ⟨nodes, ages⟩ := recordsSound_congr h (formEstimate_watched d).node (formEstimate_voltages d)
  refine (supervisorCoherent_iff _).mpr ⟨nodes, ages, ?_⟩
  have least : d.formEstimate.leastReport = d.leastReport :=
    leastReport_congr (formEstimate_voltages d) fun j => by rw [(formEstimate_watched d).node]
  rw [least, formEstimate_nsv]
  rfl

theorem supervisorCoherent_of_nsv {d e : Device} (h : d.supervisorCoherent = true) (nsv : e.nsv = d.nsv) :
    e.supervisorCoherent = true := by
  rw [← h]
  unfold supervisorCoherent leastReport countingReports node
  rw [nsv]

/-- A node record changes that keeps its liveness: the estimate stands (R142). -/
theorem supervisorCoherent_of_node {d e : Device} (h : d.supervisorCoherent = true) (n : Node)
    (sound : nodeSound (e.node n)) (live : n.slot ≠ .foot → (e.node n).live = (d.node n).live)
    (others : ∀ m, m ≠ n → e.node m = d.node m) (voltages : e.nsv.voltages = d.nsv.voltages)
    (estimate : e.nsv.estimate = d.nsv.estimate) : e.supervisorCoherent = true := by
  obtain ⟨nodes, ages, formed⟩ := (supervisorCoherent_iff d).mp h
  refine (supervisorCoherent_iff e).mpr ⟨fun m => ?_, fun j => ?_, ?_⟩
  · by_cases same : m = n
    · exact same ▸ sound
    · rw [others m same]
      exact nodes m
  · unfold voltage
    rw [voltages]
    exact ages j
  · rw [estimate, formed]
    refine (leastReport_congr voltages fun j => ?_).symm
    by_cases same : (⟨j.leg, j.ix.slot⟩ : Node) = n
    · subst same
      exact live (by cases j.ix <;> simp [JointIx.slot])
    · rw [others _ same]

/-! ## The end of a transaction and the clearings (R140, R142) -/

theorem transactionEnded_supervisorCoherent (l : Leg) {d : Device} (h : d.supervisorCoherent = true) :
    (d.transactionEnded l).supervisorCoherent = true := by
  obtain ⟨nodes, ages⟩ := recordsSound_of_coherent h
  refine formEstimate_supervisorCoherent ⟨nodes, fun j => ?_⟩
  unfold voltage
  rw [ageReports_voltage]
  split
  · exact Nat.min_le_right _ 4
  · exact ages j

theorem clearLatches_supervisorCoherent {d : Device} (h : d.supervisorCoherent = true) :
    d.clearLatches.supervisorCoherent = true := by
  obtain ⟨nodes, ages, formed⟩ := (supervisorCoherent_iff d).mp h
  refine (supervisorCoherent_iff _).mpr ⟨fun n => ?_, ages, ?_⟩
  · rw [clearLatches_node]
    exact nodes n
  · refine formed.trans (leastReport_congr (d := d) (e := d.clearLatches) rfl fun j => ?_).symm
    rw [clearLatches_node]

/-! ## The outcomes of slots (R135 to R139) -/

/-- One record of a sound supervisor is replaced by a sound one. -/
theorem recordsSound_of_node {d e : Device} (h : d.recordsSound) (n : Node) (sound : nodeSound (e.node n))
    (others : ∀ m, m ≠ n → e.node m = d.node m) (ages : ∀ j, (e.voltage j).age ≤ 4) : e.recordsSound := by
  refine ⟨fun m => ?_, ages⟩
  by_cases same : m = n
  · exact same ▸ sound
  · rw [others m same]
    exact h.1 m

theorem nodeSound_lost (r : NodeRecord) : nodeSound (lostRecord r) :=
  ⟨Nat.le_refl 3, fun live => absurd live Bool.false_ne_true⟩

theorem nodeSound_good (faults : FaultSet) (r : NodeRecord) : nodeSound (goodRecord faults r) :=
  ⟨Nat.zero_le 3, fun _ => Nat.zero_le 2⟩

/-- A miss that loses no node keeps a live one below three (R135). -/
theorem nodeSound_missed {r : NodeRecord} (h : nodeSound r) (kept : ¬ (r.misses = 2 ∧ r.live = true)) :
    nodeSound { r with misses := countUp 3 r.misses } := by
  obtain ⟨bound, below⟩ := h
  refine ⟨Nat.min_le_right _ 3, fun live => ?_⟩
  have two := below live
  have other : r.misses ≠ 2 := fun same => kept ⟨same, live⟩
  show min (r.misses + 1) 3 ≤ 2
  omega

theorem modNode_recordsSound {d : Device} (h : d.recordsSound) (n : Node) {f : NodeRecord → NodeRecord}
    (sound : nodeSound (f (d.node n))) : (d.modNode n f).recordsSound :=
  recordsSound_of_node h n (by rwa [modNode_node_self]) (fun _ other => modNode_node_ne f d other) h.2

theorem recordsSound_of_nsv {d e : Device} (h : d.recordsSound) (nsv : e.nsv = d.nsv) : e.recordsSound :=
  recordsSound_congr h (fun n => by unfold node; rw [nsv]) (by rw [nsv])

theorem loseNode_supervisorCoherent (n : Node) {d : Device} (h : d.supervisorCoherent = true) :
    (d.loseNode n).supervisorCoherent = true := by
  have lost : (d.modNode n lostRecord).recordsSound :=
    modNode_recordsSound (recordsSound_of_coherent h) n (nodeSound_lost _)
  by_cases foot : n.slot = .foot
  · obtain ⟨l, x⟩ := n
    obtain rfl : x = .foot := foot
    rw [loseNode_of_foot, loseFoot_eq]
    refine supervisorCoherent_of_nsv (formEstimate_supervisorCoherent ?_) rfl
    exact recordsSound_of_nsv lost (footReaction_reacted l .lost _).nsv
  · rw [loseNode_of_drive foot]
    refine formEstimate_supervisorCoherent ?_
    split
    · exact lost
    · exact recordsSound_of_nsv lost (driveReaction_reacted n .lost _).nsv

theorem missedOutcome_supervisorCoherent (n : Node) {d : Device} (h : d.supervisorCoherent = true) :
    (d.missedOutcome n).supervisorCoherent = true := by
  by_cases third : (d.node n).misses = 2 ∧ (d.node n).live = true
  · rw [missedOutcome_of_lost third]
    exact loseNode_supervisorCoherent n h
  · rw [missedOutcome_of_kept third]
    obtain ⟨nodes, _⟩ := recordsSound_of_coherent h
    refine supervisorCoherent_of_node h n ?_ (fun _ => ?_) (fun _ other => modNode_node_ne _ d other) rfl rfl
    · rw [modNode_node_self]
      exact nodeSound_missed (nodes n) third
    · rw [modNode_node_self]

theorem driveNoted_voltage_ne {j k : Joint} (other : k ≠ j) (reply : DriveReply) (d : Device) :
    (d.driveNoted j reply).voltage k = d.voltage k := by
  rcases j with ⟨l, i⟩
  rcases k with ⟨m, n⟩
  show ((d.nsv.voltages.modify l fun s => s.modify i fun _ => _).get m).get n = (d.nsv.voltages.get m).get n
  by_cases leg : m = l
  · subst leg
    rw [PerLeg.get_modify_self]
    exact PerJoint.get_modify_ne _ _ fun same => other (congrArg (Joint.mk m) same)
  · rw [PerLeg.get_modify_ne _ _ leg]

theorem superviseDrive_supervisorCoherent (j : Joint) (reply : DriveReply) {d : Device}
    (h : d.supervisorCoherent = true) : (d.superviseDrive j reply).supervisorCoherent = true := by
  rw [superviseDrive_eq]
  refine formEstimate_supervisorCoherent ?_
  have noted : (d.driveNoted j reply).recordsSound := by
    refine recordsSound_of_node (recordsSound_of_coherent h) ⟨j.leg, j.ix.slot⟩ ?_
      (fun _ other => modNode_node_ne _ d other) fun k => ?_
    · exact (modNode_node_self ⟨j.leg, j.ix.slot⟩ (goodRecord reply.faults) d).symm ▸ nodeSound_good _ _
    · by_cases same : k = j
      · subst same
        exact (congrArg (·.age ≤ 4) (d.driveNoted_voltage k reply)).mpr (Nat.zero_le 4)
      · exact (congrArg (·.age ≤ 4) (d.driveNoted_voltage_ne same reply)).mpr ((recordsSound_of_coherent h).2 k)
  exact recordsSound_of_nsv noted (by simp)

theorem superviseFoot_supervisorCoherent (l : Leg) (reply : FootReply) {d : Device}
    (h : d.supervisorCoherent = true) : (d.superviseFoot l reply).supervisorCoherent = true := by
  have noted : (d.modNode ⟨l, .foot⟩ (goodRecord (footFaults reply))).supervisorCoherent = true := by
    refine supervisorCoherent_of_node h ⟨l, .foot⟩ ?_ (fun drive => absurd rfl drive)
      (fun _ other => modNode_node_ne _ d other) rfl rfl
    rw [modNode_node_self]
    exact nodeSound_good _ _
  have reacted : (d.footReacted l reply).supervisorCoherent = true := by
    unfold footReacted
    split
    · exact supervisorCoherent_of_nsv noted (footReaction_reacted l .fault _).nsv
    · exact noted
  rw [superviseFoot_eq]
  split
  · exact reacted
  · exact formEstimate_supervisorCoherent (recordsSound_of_coherent reacted)

theorem handOn_supervisorCoherent (l : Leg) (x : Slot) (j : SlotJudgement) (bs : List Byte) {d : Device}
    (h : d.supervisorCoherent = true) : (d.handOn l x j bs).supervisorCoherent = true := by
  cases j with
  | good noisy =>
    have drive (i : JointIx) : (d.handOn l i.slot (.good noisy) bs).supervisorCoherent = true := by
      obtain ⟨links, handed⟩ := d.handOn_drive_noLinks ⟨l, i⟩ noisy bs
      rw [show d.handOn l i.slot (.good noisy) bs = _ from handed]
      exact supervisorCoherent_of_nsv (superviseDrive_supervisorCoherent ⟨l, i⟩ (driveReply bs) h) rfl
    cases x with
    | ha => exact drive .ha
    | hf => exact drive .hf
    | kn => exact drive .kn
    | foot =>
      rw [handOn_foot]
      exact supervisorCoherent_of_nsv (superviseFoot_supervisorCoherent l (footReply bs) h) (by simp)
  | noReply | short | framing | crcFailed | wrongNode => exact missedOutcome_supervisorCoherent ⟨l, x⟩ h

/-- The supervisor through a step: every change of a drive's liveness or report has the estimate formed again. -/
theorem supervisor_senseInvariant : SenseInvariant fun d => d.supervisorCoherent = true where
  reads := fun h kept => supervisorCoherent_of_nsv h kept.nsv
  reset := fun _ _ nsv => by
    unfold supervisorCoherent leastReport countingReports node
    rw [nsv]
    decide
  margins := fun h => supervisorCoherent_of_nsv h (by simp)
  clear := fun p _ h => supervisorCoherent_of_nsv h (by simp)
  latches := clearLatches_supervisorCoherent
  transaction := fun l _ h => transactionEnded_supervisorCoherent l h
  handOn := handOn_supervisorCoherent

end Device

/-- Settles O58: only a cycle computes margins, and only a slot's outcome, the end of a transaction and the clearings
write the filters and the supervisor, each of them keeping what they say of each other. -/
theorem stepKeepsMarginsContactsAndSupply : Obligations.StepKeepsMarginsContactsAndSupply := by
  intro s t stepped
  have taken := step_eq_next stepped
  exact ⟨Device.margins_senseInvariant.stepped taken, Device.filters_senseInvariant.stepped taken,
    Device.supervisor_senseInvariant.stepped taken⟩

end Sys2Proof.Machine
end

section
/-!
PROOFS of the family of the links and the port (chapters 7 and 9): the limb links of O59. What holds of one controller,
and what each of its transitions makes of it.
-/

namespace Sys2Proof.Machine

namespace Device

/-! ## One controller (R115, R121, R123) -/

/-- The counts of a controller, which stop at 255 (R127). -/
structure LinkCounts (k : LinkController) : Prop where
  totals : ∀ x, k.missTotals.get x ≤ 255
  noise : k.noise ≤ 255
  bitErrors : k.bitErrors ≤ 255

/-- The line kept before a slot (R118, R126). -/
structure LinkTail (k : LinkController) : Prop where
  some : 1 ≤ k.tail.length
  short : k.tail.length ≤ 6
  early : k.early ≤ 7

/-- The line of a controller with no open slot: quiet, and nothing of a slot taken. -/
def lineQuiet (k : LinkController) : Prop := k.tail = quietLine ∧ k.early = 0

theorem LinkTail.of_quiet {k : LinkController} (h : lineQuiet k) : LinkTail k := by
  obtain ⟨tail, early⟩ := h
  rw [quietLine] at tail
  exact ⟨by simp [tail], by simp [tail], by omega⟩

/-- What holds of a controller between the part's steps. -/
structure LinkSound (k : LinkController) : Prop where
  flight : k.inFlight.isSome = true ↔ k.state = .lowBreak ∨ k.state = .sending
  abandoned : ∀ t, k.abandoned = some t → (k.state = .lowBreak ∧ t < 14) ∨ (k.state = .sending ∧ 14 ≤ t ∧ t < 194)
  tail : LinkTail k
  quiet : k.state.openSlot = none → lineQuiet k
  idle : k.state = .idle → k.waiting = none
  buffer : k.buffer = []
  counts : LinkCounts k

theorem perSlot_all_iff (p : PerSlot Nat) : p.toList.all (fun n => decide (n ≤ 255)) = true ↔ ∀ x, p.get x ≤ 255 := by
  simp only [PerSlot.toList, List.all_cons, List.all_nil, Bool.and_true, Bool.and_eq_true, decide_eq_true_eq]
  constructor
  · rintro ⟨ha, hf, kn, foot⟩ x
    cases x
    exacts [ha, hf, kn, foot]
  · exact fun h => ⟨h .ha, h .hf, h .kn, h .foot⟩

theorem abandonedInside_iff (k : LinkController) : abandonedInside k = true ↔
    ∀ t, k.abandoned = some t → (k.state = .lowBreak ∧ t < 14) ∨ (k.state = .sending ∧ 14 ≤ t ∧ t < 194) := by
  unfold abandonedInside
  split
  next none => simp [none]
  next t cut => simp [cut, and_assoc]

theorem linkCoherent_iff (k : LinkController) : linkCoherent k = true ↔ LinkSound k := by
  have flight : (k.inFlight.isSome == transmitting k) = true
      ↔ (k.inFlight.isSome = true ↔ k.state = .lowBreak ∨ k.state = .sending) := by
    rw [beq_iff_eq, Bool.eq_iff_iff]
    simp [transmitting]
  have tail : tailCoherent k = true ↔ LinkTail k ∧ (k.state.openSlot = none → lineQuiet k) := by
    simp only [tailCoherent, Bool.and_eq_true, Bool.or_eq_true, decide_eq_true_eq, Option.isSome_iff_ne_none]
    exact ⟨fun ⟨⟨⟨least, short⟩, early⟩, rest⟩ => ⟨⟨least, short, early⟩, fun closed => rest.resolve_left (not_not.mpr closed)⟩,
      fun ⟨⟨least, short, early⟩, quiet⟩ => ⟨⟨⟨least, short⟩, early⟩, or_iff_not_imp_left.mpr fun closed =>
        quiet (not_not.mp closed)⟩⟩
  have idle : (k.state ≠ .idle || k.waiting.isNone) = true ↔ (k.state = .idle → k.waiting = none) := by
    by_cases h : k.state = .idle <;> simp [h]
  simp only [linkCoherent, Bool.and_eq_true, flight, abandonedInside_iff, tail, idle, perSlot_all_iff,
    List.isEmpty_iff, decide_eq_true_eq, and_assoc]
  exact ⟨fun ⟨a, b, c, d, e, f, g, h, i⟩ => ⟨a, b, c, d, e, f, ⟨g, h, i⟩⟩,
    fun ⟨a, b, c, d, e, f, ⟨g, h, i⟩⟩ => ⟨a, b, c, d, e, f, g, h, i⟩⟩

namespace LinkSound

variable {k : LinkController}

/-- No frame is in flight, and none abandoned, but in BREAK and SENDING. -/
theorem still (h : LinkSound k) (state : k.state ≠ .lowBreak ∧ k.state ≠ .sending) :
    k.inFlight = none ∧ k.abandoned = none := by
  constructor
  · rw [← Option.not_isSome_iff_eq_none, h.flight]
    exact fun sends => sends.elim state.1 state.2
  · by_contra cut
    obtain ⟨t, at_t⟩ := Option.ne_none_iff_exists'.mp cut
    rcases h.abandoned t at_t with low | sends
    · exact state.1 low.1
    · exact state.2 sends.1

theorem quiet_of_closed (h : LinkSound k) (closed : ∀ x, k.state ≠ .slot x) : lineQuiet k := by
  refine h.quiet ?_
  unfold LinkState.openSlot
  split
  next x slot => exact absurd slot (closed x)
  next => rfl

end LinkSound

/-! ## The counts (R127) -/

theorem saturate_le (n : Nat) : saturate n ≤ 255 := Nat.min_le_right _ 255

theorem modify_saturate_le {p : PerSlot Nat} (h : ∀ x, p.get x ≤ 255) (s x : Slot) :
    (p.modify s saturate).get x ≤ 255 := by
  by_cases same : x = s
  · subst same
    rw [PerSlot.get_modify_self]
    exact saturate_le _
  · rw [PerSlot.get_modify_ne _ _ same]
    exact h x

theorem countedLink_counts {k : LinkController} (h : LinkCounts k) (x : Slot) (j : SlotJudgement) :
    LinkCounts (countedLink x j k) := by
  obtain ⟨totals, noise, errors⟩ := h
  cases j with
  | good noisy =>
    refine ⟨totals, ?_, errors⟩
    show (if noisy then saturate k.noise else k.noise) ≤ 255
    split
    · exact saturate_le _
    · exact noise
  | noReply | short | framing | crcFailed | wrongNode => exact ⟨modify_saturate_le totals x, noise, errors⟩

/-- A good reply that is handed on is counted nowhere but in its own judgement. -/
theorem answeredLink_counts {k : LinkController} (h : LinkCounts k) (x : Slot) (j : SlotJudgement) :
    LinkCounts (answeredLink x j k) := by
  rw [answeredLink_frame]
  exact ⟨h.totals, h.noise, h.bitErrors⟩

/-! ## The transitions (R115 to R131) -/

theorem linkAtReset_sound (config : LinkConfig) : LinkSound (linkAtReset config) where
  flight := by simp [linkAtReset]
  abandoned := by simp [linkAtReset]
  tail := .of_quiet ⟨rfl, rfl⟩
  quiet := fun _ => ⟨rfl, rfl⟩
  idle := by simp [linkAtReset]
  buffer := rfl
  counts := ⟨fun x => by cases x <;> exact Nat.zero_le _, Nat.zero_le _, Nat.zero_le _⟩

/-- A controller whose transaction is over: its line can come free (R129). -/
structure LinkEnded (k : LinkController) : Prop where
  flight : k.inFlight = none
  abandoned : k.abandoned = none
  quiet : lineQuiet k
  buffer : k.buffer = []
  counts : LinkCounts k

theorem begun_sound (settings : LinkConfig) (c : LimbCommand) {k : LinkController} (quiet : lineQuiet k)
    (buffer : k.buffer = []) (counts : LinkCounts k) : LinkSound (begun settings c k) where
  flight := by simp [begun]
  abandoned := nofun
  tail := .of_quiet quiet
  quiet := fun _ => quiet
  idle := nofun
  buffer := buffer
  counts := ⟨counts.totals, counts.noise, counts.bitErrors⟩

theorem lineFreed_sound (settings : LinkConfig) {k : LinkController} (h : LinkEnded k) :
    LinkSound (lineFreed settings k) := by
  obtain ⟨flight, abandoned, quiet, buffer, counts⟩ := h
  unfold lineFreed
  split
  next c _ => exact begun_sound settings c quiet buffer ⟨counts.totals, counts.noise, counts.bitErrors⟩
  next empty =>
    refine ⟨by simp [flight], fun t cut => ?_, .of_quiet quiet, fun _ => quiet, fun _ => empty, buffer,
      ⟨counts.totals, counts.noise, counts.bitErrors⟩⟩
    exact absurd (abandoned.symm.trans cut) (by simp)

namespace LinkSound

variable {k : LinkController}

theorem preambleEnded (h : LinkSound k) (state : k.state = .preamble) : LinkEnded k := by
  obtain ⟨flight, abandoned⟩ := h.still (by simp [state])
  exact ⟨flight, abandoned, h.quiet_of_closed (by simp [state]), h.buffer, h.counts⟩

/-- A command is handed over: its transaction begins at an idle link, and it waits at any other (R86, R121). -/
theorem handedOff (h : LinkSound k) (settings : LinkConfig) (c : LimbCommand) :
    LinkSound (if k.state = .idle then begun settings c k else { k with waiting := some c }) := by
  split
  next idle => exact begun_sound settings c (h.quiet_of_closed (by simp [idle])) h.buffer h.counts
  next busy =>
    exact ⟨h.flight, h.abandoned, ⟨h.tail.some, h.tail.short, h.tail.early⟩, h.quiet, fun idle => absurd idle busy,
      h.buffer, ⟨h.counts.totals, h.counts.noise, h.counts.bitErrors⟩⟩

theorem sending (h : LinkSound k) (state : k.state = .lowBreak) (whole : k.abandoned = none) :
    LinkSound { k with state := .sending } := by
  have quiet := h.quiet_of_closed (by simp [state])
  refine ⟨?_, fun t cut => absurd (whole.symm.trans cut) (by simp), .of_quiet quiet, fun _ => quiet,
    nofun, h.buffer, ⟨h.counts.totals, h.counts.noise, h.counts.bitErrors⟩⟩
  exact iff_of_true (h.flight.mpr (.inl state)) (.inr rfl)

theorem delivered (h : LinkSound k) (whole : k.abandoned = none) : LinkSound (delivered k) := by
  refine ⟨?_, fun t cut => absurd (whole.symm.trans cut) (by simp), .of_quiet ⟨rfl, rfl⟩, fun _ => ⟨rfl, rfl⟩,
    nofun, rfl, ⟨h.counts.totals, h.counts.noise, h.counts.bitErrors⟩⟩
  simp [Device.delivered]

/-- A frame is abandoned at one of the bit times at which its echo is checked (R124). -/
theorem abandonedAt (h : LinkSound k) {t : Nat}
    (checked : (k.state = .lowBreak ∧ t < 14) ∨ (k.state = .sending ∧ 14 ≤ t ∧ t < 194)) :
    LinkSound { k with abandoned := some t, bitErrors := saturate k.bitErrors } := by
  refine ⟨h.flight, fun u cut => ?_, ⟨h.tail.some, h.tail.short, h.tail.early⟩, h.quiet, h.idle, h.buffer,
    ⟨h.counts.totals, h.counts.noise, saturate_le _⟩⟩
  obtain rfl : t = u := Option.some.inj cut
  exact checked

theorem freed (h : LinkSound k) (state : k.state = .lowBreak ∨ k.state = .sending) : LinkSound (freed k) := by
  have quiet : lineQuiet k := h.quiet_of_closed fun x slot => by rcases state with s | s <;> simp [slot] at s
  refine ⟨?_, nofun, .of_quiet quiet, fun _ => quiet, fun _ => rfl, h.buffer,
    ⟨h.counts.totals, h.counts.noise, h.counts.bitErrors⟩⟩
  simp [Device.freed]

/-- A cut takes one of the break's bit times or of the frame's (R125; log 30). -/
theorem cut (h : LinkSound k) (free : Nat) : LinkSound (cutLink free k) := by
  refine ⟨h.flight, fun t taken => ?_, ⟨h.tail.some, h.tail.short, h.tail.early⟩, h.quiet, fun _ => rfl, h.buffer,
    ⟨h.counts.totals, h.counts.noise, h.counts.bitErrors⟩⟩
  change cutAt free k = some t at taken
  obtain ⟨already, fresh⟩ := cutAt_cases free k
  by_cases whole : k.abandoned = none
  · obtain ⟨low, sends, other⟩ := fresh whole
    by_cases breaks : k.state = .lowBreak
    · obtain ⟨u, inside, at_u⟩ := low breaks
      obtain rfl : u = t := Option.some.inj (at_u.symm.trans taken)
      exact .inl ⟨breaks, inside⟩
    · by_cases sending : k.state = .sending
      · obtain ⟨u, after, before, at_u⟩ := sends sending
        obtain rfl : u = t := Option.some.inj (at_u.symm.trans taken)
        exact .inr ⟨sending, after, before⟩
      · exact absurd ((other breaks sending).symm.trans taken) (by simp)
  · obtain ⟨u, at_u⟩ := Option.ne_none_iff_exists'.mp whole
    obtain rfl : u = t := Option.some.inj ((already u at_u).symm.trans taken)
    exact h.abandoned u at_u

theorem cleared (h : LinkSound k) :
    LinkSound { k with missTotals := .replicate 0, noise := 0, bitErrors := 0 } :=
  ⟨h.flight, h.abandoned, ⟨h.tail.some, h.tail.short, h.tail.early⟩, h.quiet, h.idle, h.buffer,
    ⟨fun x => by cases x <;> exact Nat.zero_le _, Nat.zero_le _, Nat.zero_le _⟩⟩

/-- The end of a slot: the next opens with what the receiver carries over, or the transaction is over (R126, R129). -/
theorem slotEnded (h : LinkSound k) {x : Slot} (state : k.state = .slot x) (settings : LinkConfig) (j : SlotJudgement)
    (cs : List RxChar) {carried : Carried} (some : 1 ≤ carried.tail.length) (short : carried.tail.length ≤ 6)
    (early : carried.early ≤ 7) : LinkSound (slotLink settings x j cs carried k) := by
  obtain ⟨flight, abandoned⟩ := h.still (by simp [state])
  have counts : LinkCounts (answeredLink x j (countedLink x j { k with buffer := cs })) :=
    answeredLink_counts (countedLink_counts (k := { k with buffer := cs })
      ⟨h.counts.totals, h.counts.noise, h.counts.bitErrors⟩ x j) x j
  obtain ⟨m, counted⟩ : ∃ m, m = answeredLink x j (countedLink x j { k with buffer := cs }) := ⟨_, rfl⟩
  have flightM : m.inFlight = none := by
    rw [counted, answeredLink_frame, countedLink_frame]
    exact flight
  have abandonedM : m.abandoned = none := by
    rw [counted, answeredLink_frame, countedLink_frame]
    exact abandoned
  rw [← counted] at counts
  unfold slotLink
  rw [← counted]
  have next (y : Slot) :
      LinkSound { m with buffer := [], state := .slot y, tail := carried.tail, early := carried.early } := by
    refine ⟨?_, fun t cut => absurd (abandonedM.symm.trans cut) (by simp), ⟨some, short, early⟩,
      nofun, nofun, rfl, ⟨counts.totals, counts.noise, counts.bitErrors⟩⟩
    simp [flightM]
  cases x with
  | ha => exact next .hf
  | hf => exact next .kn
  | kn => exact next .foot
  | foot =>
    exact lineFreed_sound settings ⟨flightM, abandonedM, ⟨rfl, rfl⟩, rfl,
      ⟨counts.totals, counts.noise, counts.bitErrors⟩⟩

end LinkSound

/-- What the receiver carries over is the end of a line that held a sample at least (R118, R126). -/
theorem carriedOver_tail_length {k : LinkController} (tail : 1 ≤ k.tail.length) (x : Slot) (heard : List Bool) :
    1 ≤ (carriedOver k x heard).tail.length ∧ (carriedOver k x heard).tail.length ≤ 6 := by
  have line : 1 ≤ (slotLine k heard).length := by
    unfold slotLine
    rw [List.length_append]
    omega
  by_cases complete : (slotReception k x heard).chars.length = expectedChars x
  · rw [carriedOver_tail_of_complete complete, List.length_drop]
    omega
  · rw [carriedOver_tail_of_short complete, List.length_drop]
    omega

/-- The bit times at which an echo is checked while the frame stands whole (R124). -/
theorem echoChecked_of_whole {l : Leg} {k : LinkController} {t : Nat} (checked : echoChecked l k t = true)
    (flight : k.inFlight.isSome = true) (whole : k.abandoned = none) :
    (k.state = .lowBreak ∧ t < 14) ∨ (k.state = .sending ∧ 14 ≤ t ∧ t < 194) := by
  obtain ⟨c, flying⟩ := Option.isSome_iff_exists.mp flight
  simp only [echoChecked, Bool.or_eq_true, Bool.and_eq_true, decide_eq_true_eq, linkBits_of_whole flying whole,
    transmissionBits_length, and_assoc] at checked
  exact checked

end Device

end Sys2Proof.Machine
end

section
/-!
PROOFS of the family of the links and the port (chapters 7 and 9): the four controllers through a step.
-/

namespace Sys2Proof.Machine

namespace Device

theorem linksCoherent_iff (d : Device) : d.linksCoherent = true ↔ ∀ l, LinkSound (d.link l) := by
  rw [linksCoherent, Leg.all_iff]
  exact forall_congr' fun l => linkCoherent_iff _

theorem linksCoherent_of_llc {d e : Device} (h : d.linksCoherent = true) (llc : e.llc = d.llc) :
    e.linksCoherent = true := by
  rw [← h]
  unfold linksCoherent link
  rw [llc]

/-- One controller makes a transition. -/
theorem linksCoherent_of_link {d e : Device} (h : d.linksCoherent = true) {l : Leg} (sound : LinkSound (e.link l))
    (others : ∀ m, m ≠ l → e.link m = d.link m) : e.linksCoherent = true := by
  rw [linksCoherent_iff] at h ⊢
  intro m
  by_cases same : m = l
  · exact same ▸ sound
  · rw [others m same]
    exact h m

theorem modLink_linksCoherent (l : Leg) (f : LinkController → LinkController) {d : Device}
    (h : d.linksCoherent = true) (sound : LinkSound (f (d.link l))) : (d.modLink l f).linksCoherent = true :=
  linksCoherent_of_link h (by rwa [modLink_link_self]) fun _ other => modLink_link_ne f d other

theorem linksCoherent_of_replicate {e : Device} (config : LinkConfig) (llc : e.llc = .replicate (linkAtReset config)) :
    e.linksCoherent = true := by
  refine (linksCoherent_iff e).mpr fun l => ?_
  unfold link
  rw [llc, PerLeg.get_replicate]
  exact linkAtReset_sound config

/-! ## The cycles (R86, R121) -/

theorem compose_linksCoherent {d : Device} (h : d.linksCoherent = true) : d.compose.linksCoherent = true := by
  rw [linksCoherent_iff] at h ⊢
  intro l
  rw [compose_link, handOff_link_self]
  exact (h l).handedOff d.tbs.linkConfig _

theorem finishCycle_linksCoherent (cause : CycleCause) {d : Device} (h : d.linksCoherent = true) :
    (d.finishCycle cause).linksCoherent = true := by
  have before : d.computeMargins.braceCheck.linksCoherent = true := linksCoherent_of_llc h (by simp)
  rw [finishCycle_eq]
  exact linksCoherent_of_llc (compose_linksCoherent before) rfl

theorem cycleFrame_linksCoherent (c : CycleContent) {d : Device} (h : d.linksCoherent = true) :
    (d.cycleFrame c).linksCoherent = true := by
  unfold cycleFrame
  split
  · exact h
  · split
    · exact linksCoherent_of_llc h rfl
    · obtain ⟨_, _, _, _, _, llc, _⟩ := takeFrame_blocks c d
      exact finishCycle_linksCoherent .atFrame (linksCoherent_of_llc (linksCoherent_of_llc h llc) (by simp))

theorem localCycle_linksCoherent {d : Device} (h : d.linksCoherent = true) : d.localCycle.linksCoherent = true := by
  have counted : d.startLocalTimer.updateCounters.linksCoherent = true :=
    linksCoherent_of_llc (linksCoherent_of_llc h rfl : d.startLocalTimer.linksCoherent = true) (by simp)
  exact finishCycle_linksCoherent .atTimer (linksCoherent_of_llc counted rfl)

theorem silenceExpiry_linksCoherent {d : Device} (h : d.linksCoherent = true) : d.silenceExpiry.linksCoherent = true := by
  obtain ⟨_, _, _, _, llc, _⟩ := request_frame .linkSilent { d with upp := { d.upp with silenceTimer := none } }
  have requested : (request .linkSilent { d with upp := { d.upp with silenceTimer := none } }).linksCoherent = true :=
    linksCoherent_of_llc h llc
  exact linksCoherent_of_llc requested rfl

/-! ## The events of a link (R120, R123 to R129) -/

theorem lineFree_linksCoherent {l : Leg} {d : Device} (h : d.linksCoherent = true)
    (state : (d.link l).state = .preamble) : (d.lineFree l).linksCoherent = true := by
  rw [lineFree_eq]
  exact modLink_linksCoherent l _ h (lineFreed_sound _ (((linksCoherent_iff d).mp h l).preambleEnded state))

theorem commandDelivered_linksCoherent {l : Leg} (c : LimbCommand) {d : Device} (h : d.linksCoherent = true)
    (whole : (d.link l).abandoned = none) : (d.commandDelivered l c).linksCoherent = true := by
  have reported : (d.deliver l c).linksCoherent = true := linksCoherent_of_llc h rfl
  have done := modLink_linksCoherent l delivered reported (((linksCoherent_iff d).mp h l).delivered whole)
  rw [commandDelivered_eq]
  exact linksCoherent_of_llc done (by simp)

theorem readBackBit_linksCoherent {l : Leg} {t : Nat} (r : Sample3) {d : Device} (h : d.linksCoherent = true)
    (flight : (d.link l).inFlight.isSome = true) (checked : echoChecked l (d.link l) t = true) :
    (d.readBackBit l t r).linksCoherent = true := by
  unfold readBackBit
  split
  next => exact h
  next mismatch =>
    have whole : (d.link l).abandoned = none := by simpa using (not_or.mp mismatch).2
    have at_t := echoChecked_of_whole checked flight whole
    have marked := modLink_linksCoherent l
      (fun k => { k with abandoned := some t, bitErrors := saturate k.bitErrors }) h
      (((linksCoherent_iff d).mp h l).abandonedAt at_t)
    exact linksCoherent_of_llc marked rfl

theorem frameAbandoned_linksCoherent {l : Leg} {d : Device} (h : d.linksCoherent = true)
    (state : (d.link l).state = .lowBreak ∨ (d.link l).state = .sending) :
    (d.frameAbandoned l).linksCoherent = true := by
  have gone : (d.modLink l freed).linksCoherent = true :=
    modLink_linksCoherent l _ h (((linksCoherent_iff d).mp h l).freed state)
  exact linksCoherent_of_llc gone (transactionEnded_llc l _)

theorem endSlot_linksCoherent {l : Leg} {x : Slot} (heard : List Bool) (cs : List RxChar) {d : Device}
    (h : d.linksCoherent = true) (state : (d.link l).state = .slot x) :
    (d.endSlot l x cs (carriedOver (d.link l) x heard)).linksCoherent = true := by
  obtain ⟨others, self⟩ := d.endSlot_ends l x cs (carriedOver (d.link l) x heard)
  have sound := (linksCoherent_iff d).mp h l
  obtain ⟨some, short⟩ := carriedOver_tail_length sound.tail.some x heard
  refine linksCoherent_of_link h ?_ others
  rw [self]
  exact sound.slotEnded state _ _ cs some short (carriedOver_early _ x heard)

/-! ## The requests (R125, R132) -/

theorem disarm_linksCoherent {d : Device} (h : d.linksCoherent = true) : d.disarm.2.linksCoherent = true := by
  unfold disarm
  split
  · exact h
  · refine (linksCoherent_iff _).mpr fun l => ?_
    show LinkSound ((d.cutLinks).link l)
    rw [cutLinks_link]
    exact ((linksCoherent_iff d).mp h l).cut _

theorem clearFaults_linksCoherent {d : Device} (h : d.linksCoherent = true) : d.clearFaults.2.linksCoherent = true := by
  refine (linksCoherent_iff _).mpr fun l => ?_
  show LinkSound (d.clearLatches.clearLinkCounters.link l)
  rw [clearLinkCounters_link]
  exact ((linksCoherent_iff d).mp h l).cleared

theorem controlAct_linksCoherent {act : Device → Answer × Device} (control : ControlAct act) {d : Device}
    (h : d.linksCoherent = true) : (act d).2.linksCoherent = true := by
  cases control with
  | arm =>
    unfold arm
    split
    · exact h
    · split <;> exact linksCoherent_of_llc h rfl
  | disarm => exact disarm_linksCoherent h
  | hold =>
    unfold hostHold
    split
    · exact h
    · exact linksCoherent_of_llc h (by simp)
  | resume =>
    unfold resume
    split
    · exact h
    · split
      · exact linksCoherent_of_llc h (by simp)
      · exact h
  | sit =>
    unfold hostSit
    split
    · exact h
    · exact linksCoherent_of_llc h (by simp)
  | restart => exact linksCoherent_of_llc h rfl
  | clearFaults => exact clearFaults_linksCoherent h
  | ident => exact h

theorem requestAct_linksCoherent {act : Device → Answer × Device} (request : RequestAct act) {d : Device}
    (h : d.linksCoherent = true) : (act d).2.linksCoherent = true := by
  cases request with
  | tableWrite rest =>
    rcases tableWrite_device rest d with same | ⟨t, r, data, _, _, done⟩
    · rwa [same]
    · obtain ⟨tables, phase, alert, written⟩ := d.writeTable_frame t r data
      rw [done, written]
      exact linksCoherent_of_llc h rfl
  | tableRead rest => rwa [tableRead_device]
  | readState rest =>
    show (readState rest d).2.linksCoherent = true
    unfold readState readSections
    split
    · split
      · exact h
      · dsimp only
        split
        · exact linksCoherent_of_llc h (clearFactors_same _ d).llc
        · exact h
    · exact h
  | clearNamed rest =>
    show (clearNamed rest d).2.linksCoherent = true
    unfold clearNamed
    split
    · exact h
    · exact linksCoherent_of_llc h (clearFactors_same _ d).llc
  | malformed body =>
    show (useEchoes body d).linksCoherent = true
    unfold useEchoes
    split
    · exact linksCoherent_of_llc h rfl
    · exact h
  | control rest control =>
    exact plainControl_keeps (P := fun d => d.linksCoherent = true) (controlAct_linksCoherent control) h

/-- No operation of a command breaks what holds of the controllers. -/
theorem Stepped.linksCoherent {d e : Device} (stepped : Stepped d e) (h : d.linksCoherent = true) :
    e.linksCoherent = true := by
  cases stepped with
  | same => exact h
  | beginReset cause => exact linksCoherent_of_replicate _ rfl
  | endReset cause => exact linksCoherent_of_replicate _ rfl
  | restartReset => exact linksCoherent_of_replicate _ rfl
  | cycleFrame c => exact cycleFrame_linksCoherent c h
  | formDrop => exact linksCoherent_of_llc h rfl
  | crcDrop => exact linksCoherent_of_llc h rfl
  | request kind tag act =>
    exact manage_keeps (P := fun d => d.linksCoherent = true) (fun _ _ h => linksCoherent_of_llc h rfl)
      (requestAct_linksCoherent act) h
  | transmitted _ =>
    unfold endTransmission
    exact linksCoherent_of_llc h (by simp)
  | silence _ => exact silenceExpiry_linksCoherent h
  | localCycle _ => exact localCycle_linksCoherent h
  | preambleEnd l state => exact lineFree_linksCoherent h state
  | breakEnd l state whole => exact modLink_linksCoherent l _ h (((linksCoherent_iff d).mp h l).sending state whole)
  | delivered l c _ whole => exact commandDelivered_linksCoherent c h whole
  | readBack l bitTime samples flight checked => exact readBackBit_linksCoherent samples h flight checked
  | abandoned l state => exact frameAbandoned_linksCoherent h state
  | slotEnd l x heard cs state => exact endSlot_linksCoherent heard cs h state

end Device

end Sys2Proof.Machine
end

section
/-!
PROOFS of the family of the links and the port (chapters 7 and 9): the Upstream Port through a step, and O59.
-/

namespace Sys2Proof.Machine

namespace Device

/-! ## The port (R147, R155, R160) -/

/-- The four counts of the port, which stop at 255 (R149, R150, R155). -/
structure PortCounts (u : UpstreamPort) : Prop where
  crc : u.crcCount ≤ 255
  form : u.formCount ≤ 255
  duplicate : u.duplicateCount ≤ 255
  dropped : u.droppedCount ≤ 255

/-- The last reply of the queue is on the wire. -/
def lastReplySent (u : UpstreamPort) : Prop := u.replyQueue = [] ∧ ∃ r, u.sending = some (.reply r)

/-- Both timers stopped and no status frame waiting: what a RESTART leaves at once (R160). -/
structure PortStilled (u : UpstreamPort) : Prop where
  silence : u.silenceTimer = none
  cycle : u.localTimer = none
  status : u.statusSlot = none

/-- What holds of the port between the part's steps. -/
structure PortSound (u : UpstreamPort) : Prop where
  room : u.replyQueue.length ≤ 2
  idle : u.sending = none → u.statusSlot = none ∧ u.replyQueue = []
  timers : u.silenceTimer = none ∨ u.localTimer = none
  stilled : u.restartPending = true → PortStilled u
  reply : u.restartPending = true → u.sending ≠ none ∧ (lastReplySent u ∨ u.replyQueue ≠ [])
  counts : PortCounts u

theorem restartReplyOnWire_iff (d : Device) :
    d.restartReplyOnWire = true ↔ d.upp.restartPending = true ∧ lastReplySent d.upp := by
  unfold restartReplyOnWire lastReplySent
  rw [Bool.and_eq_true, Bool.and_eq_true, List.isEmpty_iff, and_assoc]
  refine and_congr_right fun _ => and_congr_right fun _ => ?_
  split
  next r sent => simp [sent]
  next body sent => simp [sent]
  next idle => simp [idle]

theorem portCoherent_iff (d : Device) : d.portCoherent = true ↔ PortSound d.upp := by
  have idle : (d.upp.sending.isSome || (d.upp.statusSlot.isNone && d.upp.replyQueue.isEmpty)) = true
      ↔ (d.upp.sending = none → d.upp.statusSlot = none ∧ d.upp.replyQueue = []) := by
    cases d.upp.sending <;> simp
  have timers : (d.upp.silenceTimer.isNone || d.upp.localTimer.isNone) = true
      ↔ d.upp.silenceTimer = none ∨ d.upp.localTimer = none := by
    simp
  have pending : (!d.upp.restartPending ||
      (d.upp.silenceTimer.isNone && d.upp.localTimer.isNone && d.upp.statusSlot.isNone && d.upp.sending.isSome
        && (d.restartReplyOnWire || !d.upp.replyQueue.isEmpty))) = true
      ↔ (d.upp.restartPending = true → PortStilled d.upp)
        ∧ (d.upp.restartPending = true → d.upp.sending ≠ none ∧ (lastReplySent d.upp ∨ d.upp.replyQueue ≠ [])) := by
    have sent := d.restartReplyOnWire_iff
    cases restarts : d.upp.restartPending with
    | false => simp
    | true =>
      simp only [restarts, true_and] at sent
      simp only [Bool.not_true, Bool.false_or, Bool.and_eq_true, Bool.or_eq_true, sent, Option.isNone_iff_eq_none,
        Option.isSome_iff_ne_none, Bool.not_eq_true', List.isEmpty_eq_false_iff, true_implies]
      exact ⟨fun ⟨⟨⟨⟨s, l⟩, b⟩, n⟩, r⟩ => ⟨⟨s, l, b⟩, n, r⟩, fun ⟨⟨s, l, b⟩, n, r⟩ => ⟨⟨⟨⟨s, l⟩, b⟩, n⟩, r⟩⟩
  simp only [portCoherent, Bool.and_eq_true, idle, timers, pending, decide_eq_true_eq, and_assoc]
  exact ⟨fun ⟨a, b, c, d, e, f, g, h, i⟩ => ⟨a, b, c, d, e, ⟨f, g, h, i⟩⟩,
    fun ⟨a, b, c, d, e, ⟨f, g, h, i⟩⟩ => ⟨a, b, c, d, e, f, g, h, i⟩⟩

theorem portCoherent_of_upp {d e : Device} (h : d.portCoherent = true) (upp : e.upp = d.upp) :
    e.portCoherent = true := by
  rw [portCoherent_iff] at h ⊢
  rwa [upp]

/-- With no RESTART pending nothing is asked of the port for one. -/
theorem PortSound.of_settled {u : UpstreamPort} (settled : u.restartPending = false) (room : u.replyQueue.length ≤ 2)
    (idle : u.sending = none → u.statusSlot = none ∧ u.replyQueue = [])
    (timers : u.silenceTimer = none ∨ u.localTimer = none) (counts : PortCounts u) : PortSound u :=
  ⟨room, idle, timers, fun pending => by simp [settled] at pending, fun pending => by simp [settled] at pending, counts⟩

theorem portAtReset_sound : PortSound portAtReset :=
  .of_settled rfl (Nat.zero_le 2) (fun _ => ⟨rfl, rfl⟩) (.inl rfl) ⟨Nat.zero_le _, Nat.zero_le _, Nat.zero_le _, Nat.zero_le _⟩

/-! ## The transmitter (R154, R155) -/

/-- The end of a frame that is not the RESTART reply's begins the next that waits (R155, R160). -/
theorem endTransmission_sound {d : Device} (h : PortSound d.upp) (other : d.restartReplyOnWire = false) :
    PortSound d.endTransmission.upp := by
  have notSent (pending : d.upp.restartPending = true) : ¬ lastReplySent d.upp := fun sent =>
    absurd ((restartReplyOnWire_iff d).mpr ⟨pending, sent⟩) (by simp [other])
  obtain ⟨room, _, timers, stilled, reply, counts⟩ := h
  obtain ⟨e, ended⟩ : ∃ e : Device, e = { d with upp := { d.upp with sending := none } } := ⟨_, rfl⟩
  have free : e.upp.sending = none := by rw [ended]
  have next : d.endTransmission = e.pump := by rw [ended]; rfl
  rw [next]
  cases status : d.upp.statusSlot with
  | some body =>
    rw [pump_of_status e body free (by rw [ended]; exact status), ended]
    refine .of_settled ?_ room (nofun) timers ⟨counts.crc, counts.form, counts.duplicate, counts.dropped⟩
    exact Bool.eq_false_iff.mpr fun pending => absurd ((stilled pending).status.symm.trans status) (by simp)
  | none =>
    cases queue : d.upp.replyQueue with
    | nil =>
      rw [pump_of_empty e free (by rw [ended]; exact status) (by rw [ended]; exact queue), ended]
      refine .of_settled ?_ room (fun _ => ⟨status, queue⟩) timers ⟨counts.crc, counts.form, counts.duplicate, counts.dropped⟩
      refine Bool.eq_false_iff.mpr fun pending => ?_
      exact (reply pending).2.elim (notSent pending) fun some => some queue
    | cons r more =>
      rw [pump_of_reply e r more free (by rw [ended]; exact status) (by rw [ended]; exact queue), ended]
      refine ⟨?_, nofun, timers, fun pending => ?_, fun _ => ⟨by simp [withPort], ?_⟩,
        ⟨counts.crc, counts.form, counts.duplicate, counts.dropped⟩⟩
      · rw [queue, List.length_cons] at room
        exact Nat.le_of_succ_le room
      · exact ⟨(stilled pending).silence, (stilled pending).cycle, (stilled pending).status⟩
      · by_cases last : more = []
        · exact .inl ⟨last, r, rfl⟩
        · exact .inr last

/-- What an action has left of the port before its reply joins the queue: room for it, and the rest as R155 and R160
ask. -/
structure PortReady (u : UpstreamPort) : Prop where
  room : u.replyQueue.length < 2
  idle : u.sending = none → u.statusSlot = none ∧ u.replyQueue = []
  timers : u.silenceTimer = none ∨ u.localTimer = none
  stilled : u.restartPending = true → PortStilled u
  counts : PortCounts u

/-- The reply joins the queue, and an idle transmitter begins it (R155). -/
theorem enqueue_pump_sound {e : Device} (reply : List Byte) (h : PortReady e.upp) :
    PortSound (e.enqueue reply).pump.upp := by
  obtain ⟨room, idle, timers, stilled, counts⟩ := h
  have counts : PortCounts e.upp := counts
  by_cases busy : e.upp.sending = none
  · obtain ⟨status, queue⟩ := idle busy
    have only : (e.enqueue reply).upp.replyQueue = [reply] := by
      show e.upp.replyQueue ++ [reply] = _
      rw [queue]
      rfl
    rw [pump_of_reply (e.enqueue reply) reply [] busy status only]
    exact ⟨Nat.zero_le 2, nofun, timers,
      fun pending => ⟨(stilled pending).silence, (stilled pending).cycle, (stilled pending).status⟩,
      fun _ => ⟨by simp [withPort], .inl ⟨rfl, reply, rfl⟩⟩, ⟨counts.crc, counts.form, counts.duplicate, counts.dropped⟩⟩
  · rw [pump_of_busy (e.enqueue reply) busy]
    refine ⟨?_, fun idle => absurd idle busy, timers,
      fun pending => ⟨(stilled pending).silence, (stilled pending).cycle, (stilled pending).status⟩,
      fun _ => ⟨busy, .inr ?_⟩, ⟨counts.crc, counts.form, counts.duplicate, counts.dropped⟩⟩
    · show (e.upp.replyQueue ++ [reply]).length ≤ 2
      rw [List.length_append, List.length_singleton]
      omega
    · show e.upp.replyQueue ++ [reply] ≠ []
      simp

/-- A status frame is sent at once by an idle transmitter, and waits for a busy one (R154, R155). -/
theorem finishCycle_sound (cause : CycleCause) {d : Device} (h : PortSound d.upp)
    (settled : d.upp.restartPending = false) : PortSound (d.finishCycle cause).upp := by
  obtain ⟨room, idle, timers, _, _, counts⟩ := h
  rw [finishCycle_upp]
  split
  next =>
    exact .of_settled settled room (nofun) timers
      ⟨counts.crc, counts.form, counts.duplicate, counts.dropped⟩
  next busy =>
    exact .of_settled settled room (fun idle => absurd idle busy) timers
      ⟨counts.crc, counts.form, counts.duplicate, counts.dropped⟩

/-! ## The cycles and the timers (R150 to R153) -/

theorem cycleFrame_portCoherent (c : CycleContent) {d : Device} (h : d.portCoherent = true) :
    (d.cycleFrame c).portCoherent = true := by
  have sound := (portCoherent_iff d).mp h
  have counts := sound.counts
  unfold cycleFrame
  split
  next => exact h
  next running =>
    have settled : d.upp.restartPending = false := by simpa using running
    split
    · refine (portCoherent_iff _).mpr (.of_settled settled sound.room sound.idle sound.timers ?_)
      exact ⟨counts.crc, counts.form, saturate_le _, counts.dropped⟩
    · obtain ⟨_, _, port, _⟩ := takeFrame_blocks c d
      have upp : (((d.takeFrame c).updateCounters).stepInWalk c.step).upp = (d.takeFrame c).upp := by simp
      refine (portCoherent_iff _).mpr (finishCycle_sound .atFrame ?_ ?_)
      · rw [upp, port]
        exact .of_settled settled sound.room sound.idle (.inr rfl)
          ⟨counts.crc, counts.form, counts.duplicate, counts.dropped⟩
      · rw [upp, port]
        exact settled

/-- A timer runs only while no RESTART is pending (R160). -/
theorem settled_of_silence {u : UpstreamPort} (h : PortSound u) (timer : u.silenceTimer.isSome = true) :
    u.restartPending = false :=
  Bool.eq_false_iff.mpr fun pending => by simp [(h.stilled pending).silence] at timer

theorem settled_of_local {u : UpstreamPort} (h : PortSound u) (timer : u.localTimer.isSome = true) :
    u.restartPending = false :=
  Bool.eq_false_iff.mpr fun pending => by simp [(h.stilled pending).cycle] at timer

theorem silenceExpiry_portCoherent {d : Device} (h : d.portCoherent = true)
    (timer : d.upp.silenceTimer.isSome = true) : d.silenceExpiry.portCoherent = true := by
  have sound := (portCoherent_iff d).mp h
  have counts := sound.counts
  have upp : d.silenceExpiry.upp
      = { d.upp with silenceTimer := none, localTimer := some d.tbs.deviceConfig.tCyc } := by
    obtain ⟨tbs, _, _, _, _, _, port, _⟩ := request_frame .linkSilent { d with upp := { d.upp with silenceTimer := none } }
    show ({ (request .linkSilent { d with upp := { d.upp with silenceTimer := none } }).upp with
      localTimer := some (request .linkSilent { d with upp := { d.upp with silenceTimer := none } }).tbs.deviceConfig.tCyc }
      : UpstreamPort) = _
    rw [port, tbs]
  have settled := settled_of_silence sound timer
  rw [portCoherent_iff, upp]
  exact .of_settled settled sound.room sound.idle (.inl rfl)
    ⟨counts.crc, counts.form, counts.duplicate, counts.dropped⟩

theorem localCycle_portCoherent {d : Device} (h : d.portCoherent = true) (timer : d.upp.localTimer.isSome = true) :
    d.localCycle.portCoherent = true := by
  have sound := (portCoherent_iff d).mp h
  have counts := sound.counts
  have silent : d.upp.silenceTimer = none := sound.timers.resolve_right (by simpa [Option.isSome_iff_ne_none] using timer)
  have upp : ((d.startLocalTimer.updateCounters).ageBody).upp
      = { d.upp with localTimer := some d.tbs.deviceConfig.tCyc } := (updateCounters_frame d.startLocalTimer).2.2.2.2.2.2.1
  have settled := settled_of_local sound timer
  refine (portCoherent_iff _).mpr (finishCycle_sound .atTimer ?_ ?_)
  · rw [upp]
    exact .of_settled settled sound.room sound.idle (.inl silent)
      ⟨counts.crc, counts.form, counts.duplicate, counts.dropped⟩
  · rw [upp]
    exact settled

/-! ## The requests (R155, R159, R160) -/

/-- An action leaves the port as it is, restarts the part, or clears its counts. -/
theorem controlAct_upp {act : Device → Answer × Device} (control : ControlAct act) (d : Device) :
    (act d).2.upp = d.upp ∨ (act d).2.upp = d.restart.2.upp ∨ (act d).2.upp = d.clearPortCounts.upp := by
  cases control with
  | arm => refine .inl ?_; unfold arm; (repeat' split) <;> rfl
  | disarm => refine .inl ?_; unfold disarm; split <;> rfl
  | hold => refine .inl ?_; unfold hostHold; split <;> simp
  | resume => refine .inl ?_; unfold resume; (repeat' split) <;> simp
  | sit => refine .inl ?_; unfold hostSit; split <;> simp
  | restart => exact .inr (.inl rfl)
  | clearFaults => exact .inr (.inr rfl)
  | ident => exact .inl rfl

theorem requestAct_upp {act : Device → Answer × Device} (request : RequestAct act) (d : Device) :
    (act d).2.upp = d.upp ∨ (act d).2.upp = d.restart.2.upp ∨ (act d).2.upp = d.clearPortCounts.upp := by
  cases request with
  | tableWrite rest => exact .inl (d.tableWrite_upp rest)
  | tableRead rest => exact .inl (by rw [tableRead_device])
  | readState rest => exact .inl (d.readState_upp rest)
  | clearNamed rest => exact .inl (d.clearNamed_upp rest)
  | malformed body =>
    refine .inl ?_
    show (useEchoes body d).upp = d.upp
    unfold useEchoes
    split <;> rfl
  | control rest control =>
    unfold plainControl
    split
    · exact controlAct_upp control d
    · exact .inl rfl

/-- An executed action leaves the port ready for its reply (R155, R160). -/
theorem requestAct_ready {act : Device → Answer × Device} (request : RequestAct act) {d : Device} (h : PortSound d.upp)
    (settled : d.upp.restartPending = false) (room : d.upp.replyQueue.length < 2) : PortReady (act d).2.upp := by
  have counts := h.counts
  have calm {u : UpstreamPort} (pending : u.restartPending = d.upp.restartPending) (restarts : u.restartPending = true) :
      PortStilled u := by
    rw [pending, settled] at restarts
    cases restarts
  rcases requestAct_upp request d with same | restarts | clears
  · rw [same]
    exact ⟨room, h.idle, h.timers, calm rfl, counts⟩
  · rw [restarts]
    exact ⟨room, fun idle => ⟨rfl, (h.idle idle).2⟩, .inl rfl, fun _ => ⟨rfl, rfl, rfl⟩,
      ⟨counts.crc, counts.form, counts.duplicate, counts.dropped⟩⟩
  · rw [clears]
    exact ⟨room, h.idle, h.timers, calm rfl, ⟨Nat.zero_le _, Nat.zero_le _, Nat.zero_le _, Nat.zero_le _⟩⟩

theorem manage_portCoherent (kind tag : Byte) {act : Device → Answer × Device} (request : RequestAct act) {d : Device}
    (h : d.portCoherent = true) : (manage kind tag act d).portCoherent = true := by
  have sound := (portCoherent_iff d).mp h
  have counts := sound.counts
  unfold manage
  split
  next => exact h
  next running =>
    have settled : d.upp.restartPending = false := by simpa using running
    split
    next =>
      refine (portCoherent_iff _).mpr (.of_settled settled sound.room sound.idle sound.timers ?_)
      exact ⟨counts.crc, counts.form, counts.duplicate, saturate_le _⟩
    next room =>
      have some : d.upp.replyQueue.length < 2 := Nat.lt_of_not_le room
      exact (portCoherent_iff _).mpr (enqueue_pump_sound _ (requestAct_ready request sound settled some))

/-- No operation of a command breaks what holds of the port. -/
theorem Stepped.portCoherent {d e : Device} (stepped : Stepped d e) (h : d.portCoherent = true) :
    e.portCoherent = true := by
  have sound := (portCoherent_iff d).mp h
  have counts := sound.counts
  cases stepped with
  | same => exact h
  | beginReset cause => exact (portCoherent_iff _).mpr portAtReset_sound
  | endReset cause => exact portCoherent_of_upp h rfl
  | restartReset => exact (portCoherent_iff _).mpr portAtReset_sound
  | cycleFrame c => exact cycleFrame_portCoherent c h
  | formDrop =>
    refine (portCoherent_iff _).mpr ⟨sound.room, sound.idle, sound.timers, fun pending => ?_, sound.reply,
      ⟨counts.crc, saturate_le _, counts.duplicate, counts.dropped⟩⟩
    exact ⟨(sound.stilled pending).silence, (sound.stilled pending).cycle, (sound.stilled pending).status⟩
  | crcDrop =>
    refine (portCoherent_iff _).mpr ⟨sound.room, sound.idle, sound.timers, fun pending => ?_, sound.reply,
      ⟨saturate_le _, counts.form, counts.duplicate, counts.dropped⟩⟩
    exact ⟨(sound.stilled pending).silence, (sound.stilled pending).cycle, (sound.stilled pending).status⟩
  | request kind tag act => exact manage_portCoherent kind tag act h
  | transmitted other => exact (portCoherent_iff _).mpr (endTransmission_sound sound other)
  | silence timer => exact silenceExpiry_portCoherent h timer
  | localCycle timer => exact localCycle_portCoherent h timer
  | preambleEnd l _ => exact portCoherent_of_upp h (by simp)
  | breakEnd l _ _ => exact portCoherent_of_upp h rfl
  | delivered l c _ _ => exact portCoherent_of_upp h (by simp)
  | readBack l bitTime samples _ _ =>
    refine portCoherent_of_upp h ?_
    unfold readBackBit
    split <;> rfl
  | abandoned l _ => exact portCoherent_of_upp h (by simp)
  | slotEnd l x heard cs _ =>
    refine portCoherent_of_upp h ?_
    rw [endSlot_eq]
    exact (slotOutcome_frame l x _ _ d).2.2

end Device

/-- Settles O59: every transition of a controller keeps it sound, and the port's frames, timers and replies are written
by the cycles, the transmitter and the requests alone. -/
theorem stepKeepsLinksAndPortCoherent : Obligations.StepKeepsLinksAndPortCoherent := by
  intro s t stepped
  have taken := step_eq_next stepped
  exact ⟨taken.linksCoherent, taken.portCoherent⟩

end Sys2Proof.Machine
end
